-- ==== Sys2Proof/Word.lean ====
section
/-!
DEFINITION. Word types of the Y1 module (R1: multi-byte fields are little-endian; bit 0 is the least significant).
The plainest widths only; every helper over them that a reading could get wrong stands in Machine/Bits.lean.
-/

namespace Sys2Proof

/-- One byte. -/
abbrev Byte := BitVec 8
/-- A 16-bit halfword. -/
abbrev W16 := BitVec 16
/-- A 32-bit word: the width of a general register (R28). -/
abbrev W32 := BitVec 32
/-- A 64-bit word: counters and the elapsed counter (R24). -/
abbrev W64 := BitVec 64
/-- A petal device address (R132). -/
abbrev Pda := BitVec 48
/-- A vector register of a Nib (R29). -/
abbrev VReg := BitVec 2048
/-- A petal number, 0 to 511. -/
abbrev PetalId := Fin 512
/-- A global Nib number (R13). -/
abbrev NibId := Fin 2048
/-- A global core number (R13). -/
abbrev CoreId := Fin 512
/-- A page of the mailbox window: petal p is page p and the device page is page 512 (R287). -/
abbrev PageId := Fin 513

end Sys2Proof
end

