-- ==== Sys2Proof/Forms.lean ====
section
/-!
DEFINITION. The operand forms of the commands. Nib syllables carry the raw fields of their format (R87), so that every
value an encoding admits is an operand, the reserved ones too.
-/

namespace Sys2Proof

/-! ### Nib syllables (04, 05) -/

/-- Format SA: two 4-bit register fields (R87). -/
structure SA where
  a : BitVec 4
  b : BitVec 4
  deriving DecidableEq, Repr

/-- Format LR with a function value that the mnemonic fixes (the S-ALU, R115). -/
structure RR where
  d : BitVec 5
  a : BitVec 5
  b : BitVec 5
  deriving DecidableEq, Repr

/-- Format LR (R87). -/
structure LR where
  d : BitVec 5
  a : BitVec 5
  b : BitVec 5
  fn : BitVec 9
  deriving DecidableEq, Repr

/-- Format LI (R87). -/
structure LI where
  d : BitVec 5
  a : BitVec 5
  imm : BitVec 14
  deriving DecidableEq, Repr

/-- Format LU (R87). -/
structure LU where
  d : BitVec 5
  imm : BitVec 19
  deriving DecidableEq, Repr

/-- Format LC (R87). -/
structure LC where
  a : BitVec 5
  cond : BitVec 3
  off : BitVec 12
  deriving DecidableEq, Repr

/-- Format LK (R87). -/
structure LK where
  a : BitVec 5
  off : BitVec 15
  deriving DecidableEq, Repr

/-- Format LY (R87). -/
structure LY where
  a : BitVec 5
  b : BitVec 5
  imm : BitVec 10
  deriving DecidableEq, Repr

/-- MOV (R114), or a syllable whose word encodes no instruction at all (R111): it has no mnemonic, and the manual lists
its fault within the step MOV. `halves` is its length in halfwords. -/
inductive MovForm
  | short (f : SA)
  | unassigned (word : BitVec 32) (long : Bool)
  deriving DecidableEq, Repr

/-- S-ALU operations that have a short form too (R114, R115). -/
inductive AluForm
  | short (f : SA)
  | long (f : RR)
  deriving DecidableEq, Repr

/-- ADDI, MFC and MTC: short SA (b an immediate or control register) or long LI (R114, R116). -/
inductive SAorLI
  | short (f : SA)
  | long (f : LI)
  deriving DecidableEq, Repr

/-- MOVI: short SA or long LU (R114, R116). -/
inductive SAorLU
  | short (f : SA)
  | long (f : LU)
  deriving DecidableEq, Repr

/-- Syllables with a short SA form and a long LR form: EXPS, MAXRUN, XADD.LA, XCLR.LA (R122, R125). -/
inductive SAorLR
  | short (f : SA)
  | long (f : LR)
  deriving DecidableEq, Repr

/-- SHLI, SHRI, SRAI, ROLI: LI with the amount in imm14[4:0], the kind fixed by the mnemonic, imm14[13:7] in `top` (R116). -/
structure ShiftImm where
  d : BitVec 5
  a : BitVec 5
  amount : BitVec 5
  top : BitVec 7
  deriving DecidableEq, Repr

/-- VLDX and VSTX: LR with fn[3:0] = `log`, fn[4] fixed by the mnemonic, fn[8:5] = `top` (R118). -/
structure IndexForm where
  d : BitVec 5
  a : BitVec 5
  b : BitVec 5
  log : BitVec 4
  top : BitVec 4
  deriving DecidableEq, Repr

/-- V-lane (R120, R122): the short forms (`shortF` the FP32 or bitwise row, `shortI` the INT32 row) and the long form with
fn[6:4] = type, fn[7] = bg, fn[8] = `top`; the mnemonic fixes vop. -/
inductive LaneForm
  | shortF (f : SA)
  | shortI (f : SA)
  | long (d a b : BitVec 5) (type : BitVec 3) (bg top : Bool)
  deriving DecidableEq, Repr

/-- VRSUM, VRMAX, VRMIN: LR with fn[1:0] fixed by the mnemonic, fn[4:2] = type, fn[8:5] = `top` (R123). -/
structure ReduceForm where
  d : BitVec 5
  a : BitVec 5
  b : BitVec 5
  type : BitVec 3
  top : BitVec 4
  deriving DecidableEq, Repr

/-- The Nib syllables, one constructor per mnemonic of the opcode map (R113), without the stop bit. -/
inductive Syl
  | mov (f : MovForm)
  | add (f : AluForm)
  | sub (f : AluForm)
  | andS (f : AluForm)
  | orS (f : AluForm)
  | xorS (f : AluForm)
  | andn (f : RR)
  | shl (f : AluForm)
  | shr (f : AluForm)
  | sra (f : AluForm)
  | rol (f : RR)
  | mul (f : RR)
  | mulhu (f : RR)
  | mulhs (f : RR)
  | min (f : RR)
  | max (f : RR)
  | minu (f : RR)
  | maxu (f : RR)
  | clz (f : RR)
  | popc (f : RR)
  | cmpeq (f : AluForm)
  | cmpne (f : RR)
  | cmplt (f : AluForm)
  | cmpltu (f : RR)
  | cmple (f : RR)
  | cmpleu (f : RR)
  | addi (f : SAorLI)
  | andi (f : LI)
  | ori (f : LI)
  | xori (f : LI)
  | shli (f : ShiftImm)
  | shri (f : ShiftImm)
  | srai (f : ShiftImm)
  | roli (f : ShiftImm)
  | slti (f : LI)
  | movi (f : SAorLU)
  | movhi (f : LU)
  | mfc (f : SAorLI)
  | mtc (f : SAorLI)
  | ldb (f : LI)
  | ldbu (f : LI)
  | ldh (f : LI)
  | ldhu (f : LI)
  | ldw (f : SAorLI)
  | stb (f : LI)
  | sth (f : LI)
  | stw (f : SAorLI)
  | vld64 (f : LI)
  | vld128 (f : LI)
  | vld256 (f : SAorLI)
  | vst64 (f : LI)
  | vst128 (f : LI)
  | vst256 (f : SAorLI)
  | vldx (f : IndexForm)
  | vstx (f : IndexForm)
  | vadd (f : LaneForm)
  | vsub (f : LaneForm)
  | vmul (f : LaneForm)
  | vmin (f : LaneForm)
  | vmax (f : LaneForm)
  | vabs (f : LaneForm)
  | vneg (f : LaneForm)
  | vcmpeq (f : LaneForm)
  | vcmplt (f : LaneForm)
  | vcmple (f : LaneForm)
  | vand (f : LaneForm)
  | vor (f : LaneForm)
  | vxor (f : LaneForm)
  | vshl (f : LaneForm)
  | vshr (f : LaneForm)
  | vsra (f : LaneForm)
  | vfma (f : LR)
  | vmov (f : SA)
  | vcvt (f : LR)
  | vmxs (f : LR)
  | vmxq (f : LR)
  | vmxd (f : LR)
  | exps (f : SAorLR)
  | maxrun (f : SAorLR)
  | vrsum (f : ReduceForm)
  | vrmax (f : ReduceForm)
  | vrmin (f : ReduceForm)
  | vbcast (f : LR)
  | vext (f : LI)
  | vins (f : LI)
  | vshuf (f : LR)
  | vsplati (f : LU)
  | vsel (f : LR)
  | xmul (f : LR)
  | xmacLa (f : LR)
  | xaddLa (f : SAorLR)
  | xclrLa (f : SAorLR)
  | prd (f : LR)
  | lard (f : LR)
  | lard1 (f : LI)
  | xmulv (f : LR)
  | xdot (f : LR)
  | endS (f : BitVec 4)
  | trap (f : BitVec 4)
  | ret (f : BitVec 4)
  | call (f : LK)
  | callr (f : LY)
  | br (f : BitVec 20)
  | bc (f : LC)
  | brr (f : LY)
  | dbnz (f : LC)
  | beq (f : LY)
  | bne (f : LY)
  | blt (f : LY)
  | bltu (f : LY)
  | sfencea (f : BitVec 4)
  | sfencet (f : BitVec 4)
  | sfence (f : LY)
  | stream (f : LY)
  | signal (f : LY)
  | signali (f : LY)
  | consume (f : LY)
  | wait (f : LY)
  | waitc (f : LY)
  | evpost (f : LY)
  deriving DecidableEq, Repr

/-! ### Mailbox requests (12) -/

/-- A request as it stands in a page's request area at its doorbell: the header of R292 without its opcode, which the
command names, and the bytes from 0x10 on. `hdrRsv` gathers the header's reserved bits. -/
structure Mbx where
  page : PageId
  irq : Bool
  tag : BitVec 13
  length : BitVec 16
  hdrRsv : BitVec 82
  payload : BitVec 1920
  deriving DecidableEq, Repr

/-! ### What events of the device carry -/

/-- What the Blotter's read of a line finds: nothing; a correction on the die or link, of a word, by the symbol code;
an uncorrectable error. -/
inductive ScrubFind
  | clean | onDie | word | symbol | uncorrectable
  deriving DecidableEq, Repr

/-- How the targets answer a volume's connect or disconnect. -/
inductive Backing
  | ok | refused | format | failed
  deriving DecidableEq, Repr

/-- R532: why an attempt to boot fails. -/
inductive BootFail
  | image | timeout | selfTest
  deriving DecidableEq, Repr

/-- What the Inkstand's sampling finds (R512, R513): thermal sensors with their status, voltage monitors with their fault bit, rails as
current in mA and voltage in mV, the input, and whether a rail has been out of its range for 1 ms. -/
structure SensorReadings where
  temps : List (BitVec 18)
  volts : List (BitVec 17)
  rails : List (BitVec 48)
  inputMv : W32
  inputMa : W32
  inputMw : W32
  railOut : Bool
  deriving DecidableEq, Repr

/-- What one interval has measured (R516): the input energy, the energy of rails 0 to 10, the Quill busy time on each petal's commands,
and the use of each rail that belongs to no petal. -/
structure EnergyReadings where
  input : W64
  rails : List W64
  quill : List (PetalId × W32)
  other : List W64
  deriving DecidableEq, Repr

/-! ### Requests on PCI Express (13) -/

/-- A read of a number of bytes, or a posted write of bytes. -/
inductive TlpOp
  | read (n : Fin 4097)
  | write (bytes : List Byte)
  deriving DecidableEq, Repr

/-- A memory request that reaches PF0: the port at which it entered, its requester ID, its PASID, and what it asks (R287, R317 to
R319). -/
structure Tlp where
  port : Fin 9
  requester : W16
  pasid : Option (BitVec 20)
  op : TlpOp
  deriving DecidableEq, Repr

/-- The registers of PF0's configuration that software writes (R314, R316, R322, R324, R327). -/
inductive Pf0Reg
  | command | msixControl | atsControl | pasidControl | deviceControl | deviceControl2 | aerStatus
  | bar (i : Fin 6)
  deriving DecidableEq, Repr

/-- The registers of a switch port that software writes, and those of R336. -/
inductive PortReg
  | command | memWindow | pfWindow | pfBaseHi | pfLimitHi | bridgeControl | linkControl | l1Control | deviceControl3 | acsControl
  | slotControl | slotStatus | aerStatus | lanes | polarity | slotHealth
  deriving DecidableEq, Repr

/-- The register that a REGISTER_WRITE names: by an offset of BAR0, by an offset from the interrupt controller's base (R437), or in
the configuration of PF0 or of port i. -/
inductive Reg
  | bar0 (offset : BitVec 26)
  | hub (offset : BitVec 17)
  | pf0 (r : Pf0Reg)
  | port (i : Fin 9) (r : PortReg)
  deriving DecidableEq, Repr

end Sys2Proof
end

