-- ==== Sys2Proof/Syntax.lean ====
section
/-!
DEFINITION. The commands of the Y1 module: one constructor per row of spec/opcode_table.json.
-/

namespace Sys2Proof

/-- A command: a syllable that a Nib issues, a mailbox command, a write to a register, a request on a bus, or an event of the
device. A syllable names its Nib and says whether its stop bit is set (R87); a mailbox command carries the request as it stands in
the page's request area; an event carries what the world decides. -/
inductive Instr
  /-- MOV (R114). -/
  | mov (n : NibId) (stop : Bool) (f : MovForm)
  /-- ADD (R115). -/
  | add (n : NibId) (stop : Bool) (f : AluForm)
  /-- SUB (R115). -/
  | sub (n : NibId) (stop : Bool) (f : AluForm)
  /-- AND (R115). -/
  | andS (n : NibId) (stop : Bool) (f : AluForm)
  /-- OR (R115). -/
  | orS (n : NibId) (stop : Bool) (f : AluForm)
  /-- XOR (R115). -/
  | xorS (n : NibId) (stop : Bool) (f : AluForm)
  /-- ANDN (R115). -/
  | andn (n : NibId) (stop : Bool) (f : RR)
  /-- SHL (R115). -/
  | shl (n : NibId) (stop : Bool) (f : AluForm)
  /-- SHR (R115). -/
  | shr (n : NibId) (stop : Bool) (f : AluForm)
  /-- SRA (R115). -/
  | sra (n : NibId) (stop : Bool) (f : AluForm)
  /-- ROL (R115). -/
  | rol (n : NibId) (stop : Bool) (f : RR)
  /-- MUL (R115). -/
  | mul (n : NibId) (stop : Bool) (f : RR)
  /-- MULHU (R115). -/
  | mulhu (n : NibId) (stop : Bool) (f : RR)
  /-- MULHS (R115). -/
  | mulhs (n : NibId) (stop : Bool) (f : RR)
  /-- MIN (R115). -/
  | min (n : NibId) (stop : Bool) (f : RR)
  /-- MAX (R115). -/
  | max (n : NibId) (stop : Bool) (f : RR)
  /-- MINU (R115). -/
  | minu (n : NibId) (stop : Bool) (f : RR)
  /-- MAXU (R115). -/
  | maxu (n : NibId) (stop : Bool) (f : RR)
  /-- CLZ (R115). -/
  | clz (n : NibId) (stop : Bool) (f : RR)
  /-- POPC (R115). -/
  | popc (n : NibId) (stop : Bool) (f : RR)
  /-- CMPEQ (R115). -/
  | cmpeq (n : NibId) (stop : Bool) (f : AluForm)
  /-- CMPNE (R115). -/
  | cmpne (n : NibId) (stop : Bool) (f : RR)
  /-- CMPLT (R115). -/
  | cmplt (n : NibId) (stop : Bool) (f : AluForm)
  /-- CMPLTU (R115). -/
  | cmpltu (n : NibId) (stop : Bool) (f : RR)
  /-- CMPLE (R115). -/
  | cmple (n : NibId) (stop : Bool) (f : RR)
  /-- CMPLEU (R115). -/
  | cmpleu (n : NibId) (stop : Bool) (f : RR)
  /-- ADDI (R116). -/
  | addi (n : NibId) (stop : Bool) (f : SAorLI)
  /-- ANDI (R116). -/
  | andi (n : NibId) (stop : Bool) (f : LI)
  /-- ORI (R116). -/
  | ori (n : NibId) (stop : Bool) (f : LI)
  /-- XORI (R116). -/
  | xori (n : NibId) (stop : Bool) (f : LI)
  /-- SHLI (R116). -/
  | shli (n : NibId) (stop : Bool) (f : ShiftImm)
  /-- SHRI (R116). -/
  | shri (n : NibId) (stop : Bool) (f : ShiftImm)
  /-- SRAI (R116). -/
  | srai (n : NibId) (stop : Bool) (f : ShiftImm)
  /-- ROLI (R116). -/
  | roli (n : NibId) (stop : Bool) (f : ShiftImm)
  /-- SLTI (R116). -/
  | slti (n : NibId) (stop : Bool) (f : LI)
  /-- MOVI (R116). -/
  | movi (n : NibId) (stop : Bool) (f : SAorLU)
  /-- MOVHI (R116). -/
  | movhi (n : NibId) (stop : Bool) (f : LU)
  /-- MFC (R116). -/
  | mfc (n : NibId) (stop : Bool) (f : SAorLI)
  /-- MTC (R117). -/
  | mtc (n : NibId) (stop : Bool) (f : SAorLI)
  /-- LDB (R119). -/
  | ldb (n : NibId) (stop : Bool) (f : LI)
  /-- LDBU (R119). -/
  | ldbu (n : NibId) (stop : Bool) (f : LI)
  /-- LDH (R119). -/
  | ldh (n : NibId) (stop : Bool) (f : LI)
  /-- LDHU (R119). -/
  | ldhu (n : NibId) (stop : Bool) (f : LI)
  /-- LDW (R119). -/
  | ldw (n : NibId) (stop : Bool) (f : SAorLI)
  /-- STB (R119). -/
  | stb (n : NibId) (stop : Bool) (f : LI)
  /-- STH (R119). -/
  | sth (n : NibId) (stop : Bool) (f : LI)
  /-- STW (R119). -/
  | stw (n : NibId) (stop : Bool) (f : SAorLI)
  /-- VLD_64 (R119). -/
  | vld64 (n : NibId) (stop : Bool) (f : LI)
  /-- VLD_128 (R119). -/
  | vld128 (n : NibId) (stop : Bool) (f : LI)
  /-- VLD_256 (R119). -/
  | vld256 (n : NibId) (stop : Bool) (f : SAorLI)
  /-- VST_64 (R119). -/
  | vst64 (n : NibId) (stop : Bool) (f : LI)
  /-- VST_128 (R119). -/
  | vst128 (n : NibId) (stop : Bool) (f : LI)
  /-- VST_256 (R119). -/
  | vst256 (n : NibId) (stop : Bool) (f : SAorLI)
  /-- VLDX (R118). -/
  | vldx (n : NibId) (stop : Bool) (f : IndexForm)
  /-- VSTX (R118). -/
  | vstx (n : NibId) (stop : Bool) (f : IndexForm)
  /-- VADD (R121). -/
  | vadd (n : NibId) (stop : Bool) (f : LaneForm)
  /-- VSUB (R121). -/
  | vsub (n : NibId) (stop : Bool) (f : LaneForm)
  /-- VMUL (R121). -/
  | vmul (n : NibId) (stop : Bool) (f : LaneForm)
  /-- VMIN (R121). -/
  | vmin (n : NibId) (stop : Bool) (f : LaneForm)
  /-- VMAX (R121). -/
  | vmax (n : NibId) (stop : Bool) (f : LaneForm)
  /-- VABS (R121). -/
  | vabs (n : NibId) (stop : Bool) (f : LaneForm)
  /-- VNEG (R121). -/
  | vneg (n : NibId) (stop : Bool) (f : LaneForm)
  /-- VCMPEQ (R121). -/
  | vcmpeq (n : NibId) (stop : Bool) (f : LaneForm)
  /-- VCMPLT (R121). -/
  | vcmplt (n : NibId) (stop : Bool) (f : LaneForm)
  /-- VCMPLE (R121). -/
  | vcmple (n : NibId) (stop : Bool) (f : LaneForm)
  /-- VAND (R121). -/
  | vand (n : NibId) (stop : Bool) (f : LaneForm)
  /-- VOR (R121). -/
  | vor (n : NibId) (stop : Bool) (f : LaneForm)
  /-- VXOR (R121). -/
  | vxor (n : NibId) (stop : Bool) (f : LaneForm)
  /-- VSHL (R121). -/
  | vshl (n : NibId) (stop : Bool) (f : LaneForm)
  /-- VSHR (R121). -/
  | vshr (n : NibId) (stop : Bool) (f : LaneForm)
  /-- VSRA (R121). -/
  | vsra (n : NibId) (stop : Bool) (f : LaneForm)
  /-- VFMA (R121). -/
  | vfma (n : NibId) (stop : Bool) (f : LR)
  /-- VMOV (R122). -/
  | vmov (n : NibId) (stop : Bool) (f : SA)
  /-- VCVT (R123). -/
  | vcvt (n : NibId) (stop : Bool) (f : LR)
  /-- VMXS (R123). -/
  | vmxs (n : NibId) (stop : Bool) (f : LR)
  /-- VMXQ (R123). -/
  | vmxq (n : NibId) (stop : Bool) (f : LR)
  /-- VMXD (R123). -/
  | vmxd (n : NibId) (stop : Bool) (f : LR)
  /-- EXPS (R81). -/
  | exps (n : NibId) (stop : Bool) (f : SAorLR)
  /-- MAXRUN (R81). -/
  | maxrun (n : NibId) (stop : Bool) (f : SAorLR)
  /-- VRSUM (R123). -/
  | vrsum (n : NibId) (stop : Bool) (f : ReduceForm)
  /-- VRMAX (R123). -/
  | vrmax (n : NibId) (stop : Bool) (f : ReduceForm)
  /-- VRMIN (R123). -/
  | vrmin (n : NibId) (stop : Bool) (f : ReduceForm)
  /-- VBCAST (R123). -/
  | vbcast (n : NibId) (stop : Bool) (f : LR)
  /-- VEXT (R123). -/
  | vext (n : NibId) (stop : Bool) (f : LI)
  /-- VINS (R123). -/
  | vins (n : NibId) (stop : Bool) (f : LI)
  /-- VSHUF (R123). -/
  | vshuf (n : NibId) (stop : Bool) (f : LR)
  /-- VSPLATI (R123). -/
  | vsplati (n : NibId) (stop : Bool) (f : LU)
  /-- VSEL (R123). -/
  | vsel (n : NibId) (stop : Bool) (f : LR)
  /-- XMUL (R125). -/
  | xmul (n : NibId) (stop : Bool) (f : LR)
  /-- XMAC_LA (R125). -/
  | xmacLa (n : NibId) (stop : Bool) (f : LR)
  /-- XADD_LA (R126). -/
  | xaddLa (n : NibId) (stop : Bool) (f : SAorLR)
  /-- XCLR_LA (R125). -/
  | xclrLa (n : NibId) (stop : Bool) (f : SAorLR)
  /-- PRD (R127). -/
  | prd (n : NibId) (stop : Bool) (f : LR)
  /-- LARD (R127). -/
  | lard (n : NibId) (stop : Bool) (f : LR)
  /-- LARD1 (R125). -/
  | lard1 (n : NibId) (stop : Bool) (f : LI)
  /-- XMULV (R125). -/
  | xmulv (n : NibId) (stop : Bool) (f : LR)
  /-- XDOT (R125). -/
  | xdot (n : NibId) (stop : Bool) (f : LR)
  /-- X_RESULT_LAND (R35). -/
  | xResultLand (n : NibId)
  /-- END (R128). -/
  | endS (n : NibId) (stop : Bool) (f : BitVec 4)
  /-- TRAP (R128). -/
  | trap (n : NibId) (stop : Bool) (f : BitVec 4)
  /-- RET (R103). -/
  | ret (n : NibId) (stop : Bool) (f : BitVec 4)
  /-- CALL (R101). -/
  | call (n : NibId) (stop : Bool) (f : LK)
  /-- CALLR (R101). -/
  | callr (n : NibId) (stop : Bool) (f : LY)
  /-- BR (R128). -/
  | br (n : NibId) (stop : Bool) (f : BitVec 20)
  /-- BC (R128). -/
  | bc (n : NibId) (stop : Bool) (f : LC)
  /-- BRR (R128). -/
  | brr (n : NibId) (stop : Bool) (f : LY)
  /-- DBNZ (R128). -/
  | dbnz (n : NibId) (stop : Bool) (f : LC)
  /-- BEQ (R128). -/
  | beq (n : NibId) (stop : Bool) (f : LY)
  /-- BNE (R128). -/
  | bne (n : NibId) (stop : Bool) (f : LY)
  /-- BLT (R128). -/
  | blt (n : NibId) (stop : Bool) (f : LY)
  /-- BLTU (R128). -/
  | bltu (n : NibId) (stop : Bool) (f : LY)
  /-- SFENCEA (R130). -/
  | sfencea (n : NibId) (stop : Bool) (f : BitVec 4)
  /-- SFENCET (R130). -/
  | sfencet (n : NibId) (stop : Bool) (f : BitVec 4)
  /-- SFENCE (R130). -/
  | sfence (n : NibId) (stop : Bool) (f : LY)
  /-- STREAM (R45). -/
  | stream (n : NibId) (stop : Bool) (f : LY)
  /-- SIGNAL (R130). -/
  | signal (n : NibId) (stop : Bool) (f : LY)
  /-- SIGNALI (R130). -/
  | signali (n : NibId) (stop : Bool) (f : LY)
  /-- CONSUME (R130). -/
  | consume (n : NibId) (stop : Bool) (f : LY)
  /-- WAIT (R130). -/
  | wait (n : NibId) (stop : Bool) (f : LY)
  /-- WAITC (R130). -/
  | waitc (n : NibId) (stop : Bool) (f : LY)
  /-- EVPOST (R179). -/
  | evpost (n : NibId) (stop : Bool) (f : LY)
  /-- STREAM_COMPLETE (R49). -/
  | streamComplete (n : NibId) (tag : BitVec 4)
  /-- LCH_SQ_TAIL (R169). -/
  | lchSqTail (p : PetalId) (q : Fin 64) (v : W32)
  /-- LCH_CQ_HEAD (R169). -/
  | lchCqHead (p : PetalId) (q : Fin 64) (v : W32)
  /-- LAUNCH_ACCEPT (R169). -/
  | launchAccept (p : PetalId) (q : Fin 64)
  /-- LAUNCH_START (R176). -/
  | launchStart (p : PetalId) (tag : BitVec 13)
  /-- LAUNCH_HEAD_RESERVE (R175). -/
  | launchHeadReserve (p : PetalId) (q : Fin 64)
  /-- LAUNCH_COMPLETE (R178). -/
  | launchComplete (p : PetalId) (tag : BitVec 13)
  /-- LAUNCH_TIMEOUT (R180). -/
  | launchTimeout (p : PetalId) (tag : BitVec 13)
  /-- LCH_IMAGE_REGISTER (R165). -/
  | lchImageRegister (m : Mbx)
  /-- LCH_IMAGE_RELEASE (R165). -/
  | lchImageRelease (m : Mbx)
  /-- LCH_QUEUE_CREATE (R167). -/
  | lchQueueCreate (m : Mbx)
  /-- LCH_QUEUE_DESTROY (R182). -/
  | lchQueueDestroy (m : Mbx)
  /-- LCH_ABORT (R181). -/
  | lchAbort (m : Mbx)
  /-- HOST_HELLO (R298). -/
  | hostHello (m : Mbx)
  /-- IDENTIFY (R300). -/
  | identify (m : Mbx)
  /-- LEASE_RENEW (R301). -/
  | leaseRenew (m : Mbx)
  /-- HOST_GOODBYE (R298). -/
  | hostGoodbye (m : Mbx)
  /-- EPOCH_COMMIT (R251). -/
  | epochCommit (m : Mbx)
  /-- EPOCH_COMMIT_POINT (R251). -/
  | epochCommitPoint (page : PageId)
  /-- EPOCH_DRAIN_COMPLETE (R254). -/
  | epochDrainComplete (page : PageId)
  /-- EPOCH_DRAIN_OVERDUE (R254). -/
  | epochDrainOverdue (page : PageId)
  /-- EPOCH_DISCARD (R255). -/
  | epochDiscard (m : Mbx)
  /-- COUNTER_SNAPSHOT (R257). -/
  | counterSnapshot (m : Mbx)
  /-- MSIX_ASSIGN (R306). -/
  | msixAssign (m : Mbx)
  /-- PTL_MBX_LATE_ACK (R296). -/
  | ptlMbxLateAck (page : PageId) (v : W32)
  /-- PTL_LEASE_RENEW (R301). -/
  | ptlLeaseRenew (page : PageId) (v : W32)
  /-- LATE_RECORD_POST (R296). -/
  | lateRecordPost (page : PageId) (slot : Fin 16) (a : Backing)
  /-- LEASE_EXPIRY (R302). -/
  | leaseExpiry (p : PetalId)
  /-- DEVICE_LEASE_EXPIRY (R303). -/
  | deviceLeaseExpiry
  /-- REGISTER_WRITE (R2). -/
  | registerWrite (r : Reg) (v : W32)
  /-- CREATE_PETAL (R276). -/
  | createPetal (m : Mbx)
  /-- RESIZE_PETAL (R278). -/
  | resizePetal (m : Mbx)
  /-- QUIESCE_PETAL (R277). -/
  | quiescePetal (m : Mbx)
  /-- PETAL_QUIESCED (R277). -/
  | petalQuiesced (p : PetalId)
  /-- QUIESCE_DRAIN_EXPIRY (R276). -/
  | quiesceDrainExpiry (p : PetalId)
  /-- ENABLE_PETAL (R276). -/
  | enablePetal (m : Mbx)
  /-- RESET_PETAL (R280). -/
  | resetPetal (m : Mbx)
  /-- DESTROY_PETAL (R281). -/
  | destroyPetal (m : Mbx)
  /-- QUERY_PETAL (R271). -/
  | queryPetal (m : Mbx)
  /-- BIND_PETAL (R275). -/
  | bindPetal (m : Mbx)
  /-- ACCEPT_BINDING (R275). -/
  | acceptBinding (m : Mbx)
  /-- SET_SHARES (R283). -/
  | setShares (m : Mbx)
  /-- WIN_GRANT (R310). -/
  | winGrant (m : Mbx)
  /-- WIN_MAP (R310). -/
  | winMap (m : Mbx)
  /-- WIN_QUERY (R310). -/
  | winQuery (m : Mbx)
  /-- MEM_PIN (R145). -/
  | memPin (m : Mbx)
  /-- MEM_UNPIN (R145). -/
  | memUnpin (m : Mbx)
  /-- MEM_POLICY_SET (R146). -/
  | memPolicySet (m : Mbx)
  /-- MEM_POLICY_GET (R309). -/
  | memPolicyGet (m : Mbx)
  /-- MEM_SCRUB_SET (R309). -/
  | memScrubSet (m : Mbx)
  /-- START_UP_FILL_COMPLETE (R138). -/
  | startUpFillComplete (lpddr : Bool)
  /-- HEAT_INTERVAL (R141). -/
  | heatInterval (p : PetalId)
  /-- PAGE_MOVE_START (R143). -/
  | pageMoveStart (p : PetalId) (page : BitVec 27)
  /-- PAGE_MOVE_SWITCH (R143). -/
  | pageMoveSwitch (p : PetalId) (page : BitVec 27)
  /-- PAGE_MOVE_RELEASE (R143). -/
  | pageMoveRelease (p : PetalId) (page : BitVec 27)
  /-- BLOTTER_SCRUB_LINE (R156). -/
  | blotterScrubLine (w : Fin 352) (found : ScrubFind) (decoded : Bool)
  /-- SCRATCH_SCRUB (R155). -/
  | scratchScrub (k : CoreId) (bank : Fin 16)
  /-- COL_COMM_CREATE (R190). -/
  | colCommCreate (m : Mbx)
  /-- COL_COMM_DESTROY (R192). -/
  | colCommDestroy (m : Mbx)
  /-- COL_ABORT (R213). -/
  | colAbort (m : Mbx)
  /-- COL_SQ_TAIL (R195). -/
  | colSqTail (p : PetalId) (n : Fin 64) (v : W32)
  /-- COL_CQ_HEAD (R195). -/
  | colCqHead (p : PetalId) (n : Fin 64) (v : W32)
  /-- COL_OP_ACCEPT (R200). -/
  | colOpAccept (p : PetalId) (n : Fin 64)
  /-- COL_OP_START (R202). -/
  | colOpStart (p : PetalId) (tag : BitVec 13)
  /-- COL_OP_COMPLETE (R210). -/
  | colOpComplete (p : PetalId) (tag : BitVec 13) (revoked : Bool)
  /-- COL_OP_TIMEOUT (R212). -/
  | colOpTimeout (p : PetalId) (tag : BitVec 13)
  /-- COL_JOIN_TIMEOUT (R190). -/
  | colJoinTimeout (p : PetalId) (n : Fin 64)
  /-- JOIN (R193). -/
  | join (p : PetalId) (qp : BitVec 20) (m : BitVec 704)
  /-- BROKEN (R193). -/
  | broken (p : PetalId) (qp : BitVec 20) (m : BitVec 448)
  /-- STEP (R194). -/
  | step (p : PetalId) (qp : BitVec 20) (m : BitVec 832)
  /-- ATN_CTX_CREATE (R219). -/
  | atnCtxCreate (m : Mbx)
  /-- ATN_CTX_DESTROY (R237). -/
  | atnCtxDestroy (m : Mbx)
  /-- ATN_RING_CREATE (R225). -/
  | atnRingCreate (m : Mbx)
  /-- ATN_RING_DESTROY (R237). -/
  | atnRingDestroy (m : Mbx)
  /-- ATN_SEQ_CREATE (R224). -/
  | atnSeqCreate (m : Mbx)
  /-- ATN_SEQ_DESTROY (R224). -/
  | atnSeqDestroy (m : Mbx)
  /-- ATN_ABORT (R236). -/
  | atnAbort (m : Mbx)
  /-- ATN_SQ_TAIL (R226). -/
  | atnSqTail (p : PetalId) (n : Fin 16) (k : Fin 16) (v : W32)
  /-- ATN_CQ_HEAD (R226). -/
  | atnCqHead (p : PetalId) (n : Fin 16) (k : Fin 16) (v : W32)
  /-- ATN_ENTRY_ACCEPT (R230). -/
  | atnEntryAccept (p : PetalId) (n : Fin 16) (k : Fin 16)
  /-- ATN_ENTRY_START (R231). -/
  | atnEntryStart (p : PetalId) (tag : BitVec 13) (ok : Bool)
  /-- ATN_ENTRY_COMPLETE (R232). -/
  | atnEntryComplete (p : PetalId) (tag : BitVec 13) (ok : Bool)
  /-- ATN_ENTRY_TIMEOUT (R230). -/
  | atnEntryTimeout (p : PetalId) (tag : BitVec 13)
  /-- ATN_SPILL (R240). -/
  | atnSpill (p : PetalId) (n : Fin 16)
  /-- ATN_SPILL_WRITE_DONE (R240). -/
  | atnSpillWriteDone (p : PetalId) (n : Fin 16) (ok : Bool)
  /-- SCL_QP_CREATE (R339). -/
  | sclQpCreate (m : Mbx)
  /-- SCL_QP_DESTROY (R338). -/
  | sclQpDestroy (m : Mbx)
  /-- SCL_VOL_CREATE (R353). -/
  | sclVolCreate (m : Mbx)
  /-- SCL_VOL_DESTROY (R356). -/
  | sclVolDestroy (m : Mbx)
  /-- SCL_ABORT (R352). -/
  | sclAbort (m : Mbx)
  /-- SCL_GET_LOG (R350). -/
  | sclGetLog (m : Mbx)
  /-- SCL_RESTART_QUEUE (R351). -/
  | sclRestartQueue (m : Mbx)
  /-- SCL_SELF_TEST (R357). -/
  | sclSelfTest (m : Mbx)
  /-- SCL_SELF_TEST_RESUME (R357). -/
  | sclSelfTestResume (p : PetalId) (n : Fin 256)
  /-- SCL_SELF_TEST_COMPLETE (R357). -/
  | sclSelfTestComplete (p : PetalId) (n : Fin 256) (bad : Option (BitVec 63))
  /-- SCL_IDENTIFY (R359). -/
  | sclIdentify (m : Mbx)
  /-- SCL_DB_SQ_TAIL (R340). -/
  | sclDbSqTail (p : PetalId) (qp : BitVec 12) (rsv : BitVec 3) (index : BitVec 16)
  /-- SCL_DB_CQ_HEAD (R340). -/
  | sclDbCqHead (p : PetalId) (qp : BitVec 12) (rsv : BitVec 3) (index : BitVec 16)
  /-- SCL_CMD_ACCEPT (R345). -/
  | sclCmdAccept (p : PetalId) (n : BitVec 12)
  /-- SCL_CMD_BEGIN (R346). -/
  | sclCmdBegin (p : PetalId) (tag : BitVec 13)
  /-- SCL_CMD_COMPLETE (R343). -/
  | sclCmdComplete (p : PetalId) (tag : BitVec 13) (ok : Bool)
  /-- SCL_TARGET_TIMEOUT (R355). -/
  | sclTargetTimeout (p : PetalId) (tag : BitVec 13)
  /-- SCL_DESTAGE_START (R354). -/
  | sclDestageStart (p : PetalId) (n : Fin 256) (ok : Bool)
  /-- SCL_DESTAGE_RETRY (R355). -/
  | sclDestageRetry (p : PetalId) (n : Fin 256) (ok : Bool)
  /-- SCL_KEEP_ALIVE (R355). -/
  | sclKeepAlive (p : PetalId) (n : Fin 256)
  /-- SCL_CONNECT_TIMEOUT (R353). -/
  | sclConnectTimeout (p : PetalId) (n : Fin 256)
  /-- SCL_VOL_IDLE (R358). -/
  | sclVolIdle (p : PetalId) (n : Fin 256)
  /-- NET_PORT_MODE (R366). -/
  | netPortMode (m : Mbx)
  /-- NET_PORT_SET (R387). -/
  | netPortSet (m : Mbx)
  /-- NET_PORT_QUERY (R386). -/
  | netPortQuery (m : Mbx)
  /-- PRS_RULE_SET (R370). -/
  | prsRuleSet (m : Mbx)
  /-- PRS_RANGE_SET (R371). -/
  | prsRangeSet (m : Mbx)
  /-- PRS_RULE_GET (R386). -/
  | prsRuleGet (m : Mbx)
  /-- SCH_QUEUE_SET (R388). -/
  | schQueueSet (m : Mbx)
  /-- SCH_GATE_SET (R389). -/
  | schGateSet (m : Mbx)
  /-- SCH_LIMITER_SET (R385). -/
  | schLimiterSet (m : Mbx)
  /-- ETH_FRAME_RECEIVE (R372). -/
  | ethFrameReceive (j : Fin 32) (f : List Byte)
  /-- ETH_FRAME_TRANSMIT (R375). -/
  | ethFrameTransmit (j : Fin 32) (pick : Fin 512)
  /-- SLOW_PATH_FRAME (R369). -/
  | slowPathFrame (j : Fin 32)
  /-- PORT_LINK_UP (R365). -/
  | portLinkUp (j : Fin 32) (failed : BitVec 8) (cr : Bool) (accepts : BitVec 9)
  /-- PORT_LINK_DOWN (R365). -/
  | portLinkDown (j : Fin 32)
  /-- PTP_CLOCK_ADJUST (R378). -/
  | ptpClockAdjust (j : Fin 32) (offset : BitVec 64) (ppb : BitVec 32)
  /-- GATE_ENTRY_EXPIRY (R380). -/
  | gateEntryExpiry (j : Fin 32)
  /-- GATE_LIST_TAKEOVER (R382). -/
  | gateListTakeover (j : Fin 32)
  /-- LIMITER_RELEASE (R385). -/
  | limiterRelease (j : Fin 16384)
  /-- WHEEL_CASCADE (R385). -/
  | wheelCascade (j : Fin 16384)
  /-- RDM_ADDR_SET (R394). -/
  | rdmAddrSet (m : Mbx)
  /-- RDM_LABEL_SET (R396). -/
  | rdmLabelSet (m : Mbx)
  /-- RDM_CQ_CREATE (R397). -/
  | rdmCqCreate (m : Mbx)
  /-- RDM_CQ_DESTROY (R396). -/
  | rdmCqDestroy (m : Mbx)
  /-- RDM_QP_CREATE (R398). -/
  | rdmQpCreate (m : Mbx)
  /-- RDM_QP_CONNECT (R399). -/
  | rdmQpConnect (m : Mbx)
  /-- RDM_QP_DESTROY (R400). -/
  | rdmQpDestroy (m : Mbx)
  /-- RDM_QP_QUERY (R396). -/
  | rdmQpQuery (m : Mbx)
  /-- RDM_MR_REG (R407). -/
  | rdmMrReg (m : Mbx)
  /-- RDM_MR_DEREG (R410). -/
  | rdmMrDereg (m : Mbx)
  /-- RDM_SQ_DB (R401). -/
  | rdmSqDb (p : PetalId) (v : W32)
  /-- RDM_RQ_DB (R401). -/
  | rdmRqDb (p : PetalId) (v : W32)
  /-- RDM_CQ_DB (R401). -/
  | rdmCqDb (p : PetalId) (v : W32)
  /-- RDM_SEND_START (R404). -/
  | rdmSendStart (p : PetalId) (n : BitVec 20)
  /-- RDM_PACKET_RECEIVE (R414). -/
  | rdmPacketReceive (j : Fin 32)
  /-- REMOTE_SIGNAL (R406). -/
  | remoteSignal (j : Fin 32)
  /-- RDM_ACK_RECEIVE (R404). -/
  | rdmAckReceive (j : Fin 32)
  /-- RDM_NAK_RECEIVE (R417). -/
  | rdmNakReceive (j : Fin 32)
  /-- CNP (R411). -/
  | cnp (j : Fin 32)
  /-- RDM_RETRANSMIT_TIMEOUT (R412). -/
  | rdmRetransmitTimeout (p : PetalId) (n : BitVec 20)
  /-- RDM_RNR_TIMER (R413). -/
  | rdmRnrTimer (p : PetalId) (n : BitVec 20)
  /-- RDM_ACK_TIMER (R414). -/
  | rdmAckTimer (p : PetalId) (n : BitVec 20)
  /-- RDM_MESSAGE_ABANDON (R410). -/
  | rdmMessageAbandon (p : PetalId) (n : BitVec 20)
  /-- RDM_CONTEXT_FETCH (R415). -/
  | rdmContextFetch (p : PetalId) (n : BitVec 20)
  /-- COUNTER_UPDATE_APPLY (R425). -/
  | counterUpdateApply (k : CoreId)
  /-- WATCH_TIMEOUT (R429). -/
  | watchTimeout (p : PetalId) (w : Fin 1024)
  /-- SYN_READ (R427). -/
  | synRead (m : Mbx)
  /-- SYN_ADD (R427). -/
  | synAdd (m : Mbx)
  /-- SYN_WATCH_SET (R428). -/
  | synWatchSet (m : Mbx)
  /-- SYN_WATCH_CANCEL (R430). -/
  | synWatchCancel (m : Mbx)
  /-- SYN_DEBUG_SET (R433). -/
  | synDebugSet (m : Mbx)
  /-- IRQ_RAISE (R440). -/
  | irqRaise (v : W32)
  /-- IRQ_CLAIM (R438). -/
  | irqClaim (k : Fin 65)
  /-- IRQ_EOI (R439). -/
  | irqEoi (k : Fin 65) (n : Fin 4096)
  /-- IRQ_SRC_REARM (R437). -/
  | irqSrcRearm (n : Fin 4096) (v : W32)
  /-- IRQ_STUCK_REARM (R441). -/
  | irqStuckRearm (n : Fin 4096)
  /-- ALERT_N_SENSE (R442). -/
  | alertNSense
  /-- KEY_ATTEST (R450). -/
  | keyAttest (m : Mbx)
  /-- KEY_CERT (R451). -/
  | keyCert (m : Mbx)
  /-- KEY_INJECT (R454). -/
  | keyInject (m : Mbx)
  /-- KEY_SESSION_CLOSE (R452). -/
  | keySessionClose (m : Mbx)
  /-- KEY_SESSION_TIMEOUT (R452). -/
  | keySessionTimeout (p : PetalId)
  /-- KEY_DESTROY (R455). -/
  | keyDestroy (m : Mbx)
  /-- KEY_QUERY (R456). -/
  | keyQuery (m : Mbx)
  /-- CPH_QUEUE_CREATE (R457). -/
  | cphQueueCreate (m : Mbx)
  /-- CPH_QUEUE_DESTROY (R457). -/
  | cphQueueDestroy (m : Mbx)
  /-- CPH_ABORT (R465). -/
  | cphAbort (m : Mbx)
  /-- CPH_SQ_TAIL (R458). -/
  | cphSqTail (p : PetalId) (q : Fin 64) (v : W32)
  /-- CPH_CQ_HEAD (R458). -/
  | cphCqHead (p : PetalId) (q : Fin 64) (v : W32)
  /-- CPH_REQUEST_ACCEPT (R461). -/
  | cphRequestAccept (p : PetalId) (q : Fin 64)
  /-- CPH_REQUEST_START (R463). -/
  | cphRequestStart (p : PetalId) (tag : BitVec 13)
  /-- CPH_REQUEST_COMPLETE (R464). -/
  | cphRequestComplete (p : PetalId) (tag : BitVec 13)
  /-- ROLLBACK_RAISE (R470). -/
  | rollbackRaise
  /-- PWR_RATE_SET (R504). -/
  | pwrRateSet (m : Mbx)
  /-- PWR_LEVEL_SET (R494). -/
  | pwrLevelSet (m : Mbx)
  /-- PWR_LEVEL_AUTO (R494). -/
  | pwrLevelAuto (m : Mbx)
  /-- PWR_QUERY (R311). -/
  | pwrQuery (m : Mbx)
  /-- UNIT_IDLE_ENTRY (R493). -/
  | unitIdleEntry (kind : Fin 5) (u : Fin 2048)
  /-- UNIT_WAKE (R496). -/
  | unitWake (kind : Fin 5) (u : Fin 2048)
  /-- MODULE_LEVEL_ENTRY (R499). -/
  | moduleLevelEntry
  /-- MODULE_WAKE (R500). -/
  | moduleWake
  /-- MODULE_IDLE_RETURN (R499). -/
  | moduleIdleReturn
  /-- THERMAL_LIMIT_STEP (R505). -/
  | thermalLimitStep (r : Fin 5)
  /-- POWER_LIMIT_STEP (R505). -/
  | powerLimitStep
  /-- MGT_LOG_READ (R521). -/
  | mgtLogRead (m : Mbx)
  /-- MGT_CAL_READ (R312). -/
  | mgtCalRead (m : Mbx)
  /-- MGT_CAL_WRITE (R523). -/
  | mgtCalWrite (m : Mbx)
  /-- MGT_UPDATE_STAGE (R524). -/
  | mgtUpdateStage (m : Mbx)
  /-- MGT_UPDATE_ACTIVATE (R524). -/
  | mgtUpdateActivate (m : Mbx)
  /-- MGT_SENSOR_READ (R513). -/
  | mgtSensorRead (m : Mbx)
  /-- MGT_ALERT_CLEAR (R515). -/
  | mgtAlertClear (m : Mbx)
  /-- MGT_OUTPUT_STATUS (R540). -/
  | mgtOutputStatus (m : Mbx)
  /-- MGT_MODULE_RESET (R535). -/
  | mgtModuleReset (m : Mbx)
  /-- QUILL_HEARTBEAT (R510). -/
  | quillHeartbeat (k : Fin 64)
  /-- HEARTBEAT_MISS (R510). -/
  | heartbeatMiss (k : Fin 64) (own : Bool)
  /-- JOURNAL_TAKEOVER (R260). -/
  | journalTakeover (k : Fin 64) (lost : List (PetalId × BitVec 13))
  /-- QUILL_RETURN (R261). -/
  | quillReturn (k : Fin 64)
  /-- INKSTAND_WD_REFRESH (R511). -/
  | inkstandWdRefresh
  /-- INKSTAND_WD_EXPIRY (R511). -/
  | inkstandWdExpiry
  /-- INKSTAND_RESTART_DONE (R511). -/
  | inkstandRestartDone (intact : Bool)
  /-- SENSOR_SAMPLE (R512). -/
  | sensorSample (x : SensorReadings)
  /-- ENERGY_INTERVAL (R516). -/
  | energyInterval (x : EnergyReadings)
  /-- LOG_FLUSH (R520). -/
  | logFlush
  /-- DBG_CHALLENGE (R477). -/
  | dbgChallenge (m : Mbx)
  /-- DBG_NONCE_LAPSE (R477). -/
  | dbgNonceLapse (page : PageId)
  /-- DBG_AUTH_LOAD (R477). -/
  | dbgAuthLoad (m : Mbx)
  /-- DBG_OPEN (R477). -/
  | dbgOpen (m : Mbx)
  /-- DBG_D2_DRAIN_EXPIRY (R481). -/
  | dbgD2DrainExpiry
  /-- DBG_CLOSE (R478). -/
  | dbgClose (m : Mbx)
  /-- DBG_SESSION_EXPIRY (R478). -/
  | dbgSessionExpiry (page : PageId)
  /-- DBG_QUERY (R479). -/
  | dbgQuery (m : Mbx)
  /-- DBG_NIB_HALT (R480). -/
  | dbgNibHalt (m : Mbx)
  /-- DBG_NIB_RESUME (R480). -/
  | dbgNibResume (m : Mbx)
  /-- DBG_NIB_READ (R480). -/
  | dbgNibRead (m : Mbx)
  /-- DBG_SCRATCH_READ (R480). -/
  | dbgScratchRead (m : Mbx)
  /-- DBG_FW_READ (R481). -/
  | dbgFwRead (m : Mbx)
  /-- LIFECYCLE_RETIRE (R474). -/
  | lifecycleRetire (m : Mbx)
  /-- DBG_OPERATOR_KEY_SET (R479). -/
  | dbgOperatorKeySet (m : Mbx)
  /-- BAR2_REQUEST (R318). -/
  | bar2Request (t : Tlp) (o : BitVec 41)
  /-- BAR4_REQUEST (R319). -/
  | bar4Request (t : Tlp) (o : BitVec 16)
  /-- PCIE_COMPLETION_RECEIVE (R325). -/
  | pcieCompletionReceive (j : Fin 9) (tag : BitVec 14) (ok : Bool)
  /-- PCIE_COMPLETION_TIMEOUT (R324). -/
  | pcieCompletionTimeout (tag : BitVec 14)
  /-- PCIE_TAG_HOLD_EXPIRY (R325). -/
  | pcieTagHoldExpiry (tag : BitVec 14)
  /-- ATS_INVALIDATION (R323). -/
  | atsInvalidation (everyPasid : Bool) (pasid : Option (BitVec 20)) (page : BitVec 52)
  /-- FUNCTION_LEVEL_RESET (R327). -/
  | functionLevelReset
  /-- FLR_COMPLETE (R327). -/
  | flrComplete
  /-- HOT_RESET (R326). -/
  | hotReset (dlDown : Bool)
  /-- SECONDARY_BUS_RESET (R326). -/
  | secondaryBusReset (j : Fin 8)
  /-- PERST_ASSERT (R536). -/
  | perstAssert
  /-- PERST_DEASSERT (R529). -/
  | perstDeassert (sel : Bool)
  /-- LINK_TRAINING (R335). -/
  | linkTraining (j : Fin 9) (failed : BitVec 16) (swapped : Bool) (polarity : BitVec 16) (flit : Bool)
  /-- LINK_L1_ENTRY (R328). -/
  | linkL1Entry (j : Fin 9)
  /-- LINK_WIDTH_CHANGE (R329). -/
  | linkWidthChange (j : Fin 9) (log : Fin 5)
  /-- SLOT_POWER_ON (R330). -/
  | slotPowerOn (j : Fin 8)
  /-- SLOT_POWER_OFF (R330). -/
  | slotPowerOff (j : Fin 8)
  /-- SLOT_POWER_OFF_DONE (R330). -/
  | slotPowerOffDone (j : Fin 8)
  /-- SLOT_INDICATOR_SET (R330). -/
  | slotIndicatorSet (j : Fin 8) (attn : BitVec 2) (pwr : BitVec 2)
  /-- PRESENCE_CHANGE (R332). -/
  | presenceChange (j : Fin 8) (prsnt : Bool) (inBand : Bool)
  /-- ATTENTION_BUTTON (R331). -/
  | attentionButton (j : Fin 8) (low : Bool)
  /-- REARM (R332). -/
  | rearm (j : Fin 8)
  /-- SURPRISE_REMOVAL (R334). -/
  | surpriseRemoval (j : Fin 8)
  /-- INPUT_VALID (R529). -/
  | inputValid (sel : Bool)
  /-- REGULATORS_UP (R530). -/
  | regulatorsUp
  /-- FIRMWARE_READY (R530). -/
  | firmwareReady
  /-- BOOT_ATTEMPT_FAIL (R532). -/
  | bootAttemptFail (why : BootFail)
  /-- RECOVERY_ENTRY (R533). -/
  | recoveryEntry (why : BootFail)
  /-- MODULE_RESET (R534). -/
  | moduleReset (sel : Bool)
  /-- INPUT_UNDERVOLTAGE (R539). -/
  | inputUndervoltage (second : Bool)
  /-- INPUT_OVERVOLTAGE (R539). -/
  | inputOvervoltage
  /-- INPUT_RETURN (R539). -/
  | inputReturn (sel : Bool)
  /-- PWR_EN_LOW (R549). -/
  | pwrEnLow
  /-- PWR_EN_HIGH (R549). -/
  | pwrEnHigh (sel : Bool)
  /-- OUTPUT_OVERCURRENT (R540). -/
  | outputOvercurrent (j : Fin 34)
  /-- REFCLK_LOSS (R541). -/
  | refclkLoss (r : Fin 3)
  /-- REFCLK_RETURN (R541). -/
  | refclkReturn (r : Fin 3)
  /-- THERMTRIP (R543). -/
  | thermtrip (j : Fin 80) (t : W16)
  /-- MEMORY_DEVICE_FAILURE (R544). -/
  | memoryDeviceFailure (u : Fin 24) (lost : List (PetalId × BitVec 20))
  /-- SET_ENDPOINT_ID (R527). -/
  | setEndpointId (op : BitVec 2) (eid : BitVec 8)
  /-- GET_ENDPOINT_ID (R527). -/
  | getEndpointId
  /-- GET_MCTP_VERSION_SUPPORT (R527). -/
  | getMctpVersionSupport (type : BitVec 8)
  /-- GET_MESSAGE_TYPE_SUPPORT (R527). -/
  | getMessageTypeSupport
  /-- GET_ENDPOINT_UUID (R527). -/
  | getEndpointUuid
  /-- GETTID (R527). -/
  | gettid
  /-- SETTID (R527). -/
  | settid (tid : BitVec 8)
  /-- GETPLDMVERSION (R527). -/
  | getpldmversion (type : BitVec 6)
  /-- GETPLDMTYPES (R527). -/
  | getpldmtypes
  /-- GETPLDMCOMMANDS (R527). -/
  | getpldmcommands (type : BitVec 6)
  /-- GETPDRREPOSITORYINFO (R527). -/
  | getpdrrepositoryinfo
  /-- GETPDR (R527). -/
  | getpdr (record : W32)
  /-- GETSENSORREADING (R527). -/
  | getsensorreading (id : W16)
  /-- GETSTATESENSORREADINGS (R527). -/
  | getstatesensorreadings (id : W16)
  /-- SETEVENTRECEIVER (R527). -/
  | seteventreceiver (enable : BitVec 8) (a : BitVec 8)
  /-- REQUESTUPDATE (R526). -/
  | requestupdate (l : List Byte)
  /-- ACTIVATEFIRMWARE (R525). -/
  | activatefirmware (selfContained : Bool)
  /-- CANCELUPDATE (R525). -/
  | cancelupdate
  /-- JTAG_TAP_RESET (R483). -/
  | jtagTapReset
  /-- IDCODE (R483). -/
  | idcode
  /-- BYPASS (R483). -/
  | bypass
  /-- SAMPLE_PRELOAD (R483). -/
  | samplePreload
  /-- EXTEST (R483). -/
  | extest
  /-- INTEST (R483). -/
  | intest
  /-- CLAMP (R483). -/
  | clamp
  /-- HIGHZ (R483). -/
  | highz
  /-- CALIBRATION_REFRESH (R157). -/
  | calibrationRefresh (channel : Fin 320)
  /-- CLKREQ_N_CHANGE (R328). -/
  | clkreqNChange (j : Fin 9) (deasserted : Bool)
  /-- INTEGRATED_SWITCH_ROUTE (R18). -/
  | integratedSwitchRoute (source : Fin 9) (a : W64) (n : Fin 4097) (posted : Bool)
  /-- BAR0_REQUEST (R287). -/
  | bar0Request (t : Tlp) (o : BitVec 26)
  /-- DELAY_REQUEST (R378). -/
  | delayRequest (j : Fin 32) (seq : W16)
  /-- I3C_DYNAMIC_ADDRESS (R527). -/
  | i3cDynamicAddress (a : Option (BitVec 7))
  deriving DecidableEq, Repr

end Sys2Proof
end

