-- ==== Sys2Proof/Decode.lean ====
section
/-!
DEFINITION. The command that a word of the opcode table spells. The table gives no row any bits, so no word spells a command. How a
bundle's syllables are encoded (04) stands in Machine/Encode.lean.
-/

namespace Sys2Proof

/-- No row of the opcode table has bits: every word spells none. -/
def decodeTableWord (_nbits _w : Nat) : Option Instr := none

end Sys2Proof
end

