-- ==== Sys2Proof/Machine/Bits.lean ====
section
/-!
DEFINITION. Bit fields, byte order and small list helpers shared by every chapter (R1).
-/

namespace Sys2Proof.Machine

/-- Bits [lo + w - 1 : lo] of a number. -/
def bitsOf (x lo w : Nat) : Nat := (x >>> lo) % 2 ^ w

/-- Bit `i` of a number. -/
def bitAt (x i : Nat) : Bool := (x >>> i) % 2 == 1

/-- The number with bits [lo + w - 1 : lo] replaced by `v`. -/
def setBits (x lo w v : Nat) : Nat :=
  (x >>> (lo + w)) * 2 ^ (lo + w) + (v % 2 ^ w) * 2 ^ lo + x % 2 ^ lo

/-- A truth value as a number. -/
def b2n (b : Bool) : Nat := if b then 1 else 0

/-- A field at a byte offset and bit offset of a record held as one little-endian number (R1). -/
def fld (x byte bit w : Nat) : Nat := bitsOf x (8 * byte + bit) w

/-- Two's-complement reading of the low `w` bits. -/
def sInt (w x : Nat) : Int :=
  if (x % 2 ^ w) < 2 ^ (w - 1) then (x % 2 ^ w : Nat) else (x % 2 ^ w : Nat) - (2 ^ w : Nat)

/-- An integer reduced modulo 2^w. -/
def wrapN (w : Nat) (i : Int) : Nat := (i % (2 ^ w : Nat)).toNat

/-- Sign extension of the low `w` bits to 32 bits. -/
def sext32 (w x : Nat) : W32 := BitVec.ofNat 32 (wrapN 32 (sInt w x))

/-- The number that a list of bytes spells, least significant first (R1). -/
def leNat : List Byte → Nat
  | [] => 0
  | b :: bs => b.toNat + 256 * leNat bs

/-- The `n` bytes that spell a number, least significant first (R1). -/
def leBytes : Nat → Nat → List Byte
  | 0, _ => []
  | n + 1, x => BitVec.ofNat 8 x :: leBytes n (x / 256)

/-- Element `i` of width `w` (R29). -/
def elem (x w i : Nat) : Nat := (x >>> (w * i)) % 2 ^ w

/-- The number whose elements of width `w` are those of the list (R29). -/
def ofElems (w : Nat) : List Nat → Nat
  | [] => 0
  | x :: xs => x % 2 ^ w + 2 ^ w * ofElems w xs

/-- The elements 0 to n - 1 of width `w`. -/
def elems (x w n : Nat) : List Nat := (List.range n).map (elem x w)

/-- The mask of `n` elements of width `w` from element `k` on. -/
def elemMask (w k n : Nat) : Nat := (2 ^ (w * n) - 1) * 2 ^ (w * k)

/-- Set bits of a number below 2^n. -/
def popN (n x : Nat) : Nat := ((List.range n).filter (bitAt x)).length

/-- The indices of the set bits below `n`, ascending. -/
def onesOf (n x : Nat) : List Nat := (List.range n).filter (bitAt x)

/-- Rounding up to a multiple. -/
def alignUp (x n : Nat) : Nat := (x + n - 1) / n * n

/-- Do the intervals [a, a + m) and [b, b + n) meet? -/
def overlaps (a m b n : Nat) : Bool := a < b + n && b < a + m && 0 < m && 0 < n

/-- The list with element `i` replaced; unchanged where it has no such element. -/
def setAt {α : Type} (l : List α) (i : Nat) (x : α) : List α := l.set i x

/-- A vector with element `i` changed. -/
def modV {α : Type} {n : Nat} (v : Vector α n) (i : Nat) (f : α → α) : Vector α n :=
  Vector.ofFn (fun k => if k.val = i then f v[k] else v[k])

/-- Apply a function `n` times. -/
def iter {α : Type} (f : α → α) : Nat → α → α
  | 0, x => x
  | n + 1, x => iter f n (f x)

end Sys2Proof.Machine
end

