-- ==== Sys2Proof/Machine/Crypto.lean ====
section
/-!
DEFINITION. The published functions the manual names: SHA3-256 (FIPS 202), AES-256 (FIPS 197) with CMAC (SP 800-38B), GCM
(SP 800-38D) and XTS (IEEE 1619), and CRC-32. PRESUMED: their definitions come from the standards the manual cites.
-/

namespace Sys2Proof.Machine

/-! ### SHA3-256 -/

def keccakRc : List W64 :=
  [0x0000000000000001, 0x0000000000008082, 0x800000000000808A, 0x8000000080008000, 0x000000000000808B, 0x0000000080000001,
   0x8000000080008081, 0x8000000000008009, 0x000000000000008A, 0x0000000000000088, 0x0000000080008009, 0x000000008000000A]
  ++ [0x000000008000808B, 0x800000000000008B, 0x8000000000008089, 0x8000000000008003, 0x8000000000008002,
   0x8000000000000080, 0x000000000000800A, 0x800000008000000A, 0x8000000080008081, 0x8000000000008080,
   0x0000000080000001, 0x8000000080008008]

/-- Rotation offsets, lane x + 5y. -/
def keccakRot : List Nat :=
  [0, 1, 62, 28, 27, 36, 44, 6, 55, 20, 3, 10, 43, 25, 39, 41, 45, 15, 21, 8, 18, 2, 61, 56, 14]

def lane64 (l : List W64) (i : Nat) : W64 := l[i]?.getD 0

/-- One round of Keccak-f[1600]. -/
def keccakRound (a : List W64) (rc : W64) : List W64 :=
  let c := (List.range 5).map (fun x =>
    lane64 a x ^^^ lane64 a (x + 5) ^^^ lane64 a (x + 10) ^^^ lane64 a (x + 15) ^^^ lane64 a (x + 20))
  let d := (List.range 5).map (fun x => lane64 c ((x + 4) % 5) ^^^ (lane64 c ((x + 1) % 5)).rotateLeft 1)
  let a := (List.range 25).map (fun i => lane64 a i ^^^ lane64 d (i % 5))
  -- lane (x, y) of the permuted state comes from lane (x + 3y, x)
  let b := (List.range 25).map (fun i =>
    let x := i % 5
    let y := i / 5
    let j := (x + 3 * y) % 5 + 5 * x
    (lane64 a j).rotateLeft (keccakRot[j]?.getD 0))
  (List.range 25).map (fun i =>
    let x := i % 5
    let y := i / 5
    let v := lane64 b i ^^^ (~~~(lane64 b ((x + 1) % 5 + 5 * y)) &&& lane64 b ((x + 2) % 5 + 5 * y))
    if i = 0 then v ^^^ rc else v)

def keccakF (a : List W64) : List W64 := keccakRc.foldl keccakRound a

/-- Absorbs blocks of 136 bytes. -/
def sha3Absorb : Nat → List W64 → List Byte → List W64
  | 0, a, _ => a
  | n + 1, a, bs =>
    let x := leNat (bs.take 136)
    let a := (List.range 25).map (fun i => if i < 17 then lane64 a i ^^^ BitVec.ofNat 64 (x / 2 ^ (64 * i)) else lane64 a i)
    sha3Absorb n (keccakF a) (bs.drop 136)

/-- SHA3-256 of a byte string, 32 bytes. -/
def sha3 (bs : List Byte) : List Byte :=
  let q := 136 - bs.length % 136
  let pad : List Byte := if q = 1 then [0x86] else 0x06 :: (List.replicate (q - 2) 0 ++ [0x80])
  let m := bs ++ pad
  let a := sha3Absorb (m.length / 136) (List.replicate 25 0) m
  ((List.range 4).flatMap (fun i => leBytes 8 (lane64 a i).toNat))

/-! ### AES-256 -/

/-- Multiplication by x in GF(2^8). -/
def xtime (b : Nat) : Nat := if b < 128 then 2 * b else (2 * b % 256) ^^^ 0x1B

/-- Multiplication in GF(2^8) by a factor below 16, over the bits of that factor. -/
def gmul (a b : Nat) : Nat :=
  let b2 := xtime b
  let b4 := xtime b2
  (if bitAt a 0 then b else 0) ^^^ (if bitAt a 1 then b2 else 0) ^^^ (if bitAt a 2 then b4 else 0) ^^^
    (if bitAt a 3 then xtime b4 else 0)

/-- The AES S-box (FIPS 197), 32 bytes a row, the first byte of a row lowest. -/
def sboxRows : List Nat := [
  0xc072a49cafa2d4adf04759fa7dc982ca76abd7fe2b670130c56f6bf27b777c63,
  0x75b227ebe28012079a059618c323c7041531d871f1e5a534ccf73f362693fdb7,
  0xcf584c4a39becb6a5bb1fc20ed00d153842fe329b3d63b52a05a6e1b1a2c8309,
  0xd2f3ff1021dab6bcf5389d928f40a351a89f3c507f02f94585334d43fbaaefd0,
  0xdb0b5ede14b8ee4688902a22dc4f816073195d643d7ea7c41744975fec130ccd,
  0x08ae7a65eaf4566ca94ed58d6d37c8e779e4959162acd3c25c2406490a3a32e0,
  0x9e1dc186b95735610ef6034866b53e708a8bbd4b1f74dde8c6b4a61c2e2578ba,
  0x16bb54b00f2d99416842e6bf0d89a18cdf2855cee9871e9b948ed9691198f8e1]

/-- The inverse S-box. -/
def invSboxRows : List Nat := [
  0xcbe9dec444438e3487ff2f9b8239e37cfbd7f3819ea340bf38a53630d56a0952,
  0x25d18b6d49a25b76b224d92866a12e084ec3fa420b954cee3d23c2a632947b54,
  0x849d8da75746155edab9edfd5048706c92b6655dcc5ca4d41698688664f6f872,
  0x6b8a130103bdafc1020f3fca8f1e2cd00645b3b80558e4f70ad3bc8c00abd890,
  0x6edf751ce837f9e28535ade72274ac9673e6b4f0cecff297eadc674f4111913a,
  0xf45acd78fec0db9a2079d2c64b3e56fc1bbe18aa0e62b76f89c5291d711af147,
  0xef9cc9939f7ae52d0d4ab519a97f51605fec8027591012b131c7078833a8dd1f,
  0x7d0c2155631469e126d677ba7e042b17619953833cbbebc8b0f52aae4d3be0a0]

/-- A byte of a table of such rows. -/
def rowByte (rows : List Nat) (b : Nat) : Nat := bitsOf (rows[b / 32]?.getD 0) (8 * (b % 32)) 8

/-- The AES S-box. -/
def sbox (b : Nat) : Nat := rowByte sboxRows b

/-- The inverse S-box. -/
def invSbox (b : Nat) : Nat := rowByte invSboxRows b

def at8 (l : List Nat) (i : Nat) : Nat := l[i]?.getD 0
def xorL (a b : List Nat) : List Nat := (List.zip a b).map (fun p => p.1 ^^^ p.2)

/-- Key expansion: words of four bytes, 60 of them for AES-256. -/
def aesExpand : Nat → List (List Nat) → List (List Nat)
  | 0, ws => ws
  | n + 1, ws =>
    let i := ws.length
    let t := ws[i - 1]?.getD []
    let t' :=
      if i % 8 = 0 then xorL ((t.drop 1 ++ t.take 1).map sbox) [iter xtime (i / 8 - 1) 1, 0, 0, 0]
      else if i % 8 = 4 then t.map sbox
      else t
    aesExpand n (ws ++ [xorL (ws[i - 8]?.getD []) t'])

/-- The 15 round keys of an AES-256 key of 32 bytes. -/
def aesKeys (key : List Nat) : List (List Nat) :=
  let ws := aesExpand 52 ((List.range 8).map (fun i => (key.drop (4 * i)).take 4))
  (List.range 15).map (fun r => ((ws.drop (4 * r)).take 4).flatten)

def shiftRows (s : List Nat) : List Nat := (List.range 16).map (fun i => at8 s ((i + 4 * (i % 4)) % 16))
def invShiftRows (s : List Nat) : List Nat := (List.range 16).map (fun i => at8 s ((i + 16 - 4 * (i % 4)) % 16))

/-- MixColumns: each column by 2, 3, 1, 1. -/
def mixColumns (s : List Nat) : List Nat :=
  let t := s.map xtime
  (List.range 16).map (fun i =>
    let c := i / 4 * 4
    let j := c + (i + 1) % 4
    at8 t i ^^^ at8 t j ^^^ at8 s j ^^^ at8 s (c + (i + 2) % 4) ^^^ at8 s (c + (i + 3) % 4))

/-- Its inverse: each column by 14, 11, 13, 9. -/
def invMixColumns (s : List Nat) : List Nat :=
  (List.range 16).map (fun i =>
    let c := i / 4 * 4
    gmul 14 (at8 s i) ^^^ gmul 11 (at8 s (c + (i + 1) % 4)) ^^^ gmul 13 (at8 s (c + (i + 2) % 4)) ^^^
      gmul 9 (at8 s (c + (i + 3) % 4)))

/-- AES-256 encryption of one block. -/
def aesEnc (key block : List Nat) : List Nat :=
  let ks := aesKeys key
  let s := xorL block (ks[0]?.getD [])
  let s := (List.range 13).foldl (fun s r => xorL (mixColumns (shiftRows (s.map sbox))) (ks[r + 1]?.getD [])) s
  xorL (shiftRows (s.map sbox)) (ks[14]?.getD [])

/-- AES-256 decryption of one block. -/
def aesDec (key block : List Nat) : List Nat :=
  let ks := aesKeys key
  let s := xorL block (ks[14]?.getD [])
  let s := (List.range 13).foldl (fun s r =>
    invMixColumns (xorL ((invShiftRows s).map invSbox) (ks[13 - r]?.getD []))) s
  xorL ((invShiftRows s).map invSbox) (ks[0]?.getD [])

def toNats (bs : List Byte) : List Nat := bs.map (·.toNat)
def toBytes (l : List Nat) : List Byte := l.map (BitVec.ofNat 8)

/-- Blocks of 16 bytes; the last may be short. -/
def blocks16 : Nat → List Nat → List (List Nat)
  | 0, _ => []
  | n + 1, l => if l.isEmpty then [] else l.take 16 :: blocks16 n (l.drop 16)

/-! ### CMAC -/

/-- Doubling in GF(2^128) of a big-endian block. -/
def cmacDouble (b : List Nat) : List Nat :=
  let sh := (List.range 16).map (fun i => (2 * at8 b i) % 256 + at8 b (i + 1) / 128)
  if at8 b 0 < 128 then sh else sh.set 15 (at8 sh 15 ^^^ 0x87)

/-- AES-256-CMAC, 16 bytes. -/
def cmac (key : List Byte) (msg : List Byte) : List Byte :=
  let k := toNats key
  let m := toNats msg
  let k1 := cmacDouble (aesEnc k (List.replicate 16 0))
  let k2 := cmacDouble k1
  let bl := blocks16 (m.length + 1) m
  let n := if bl.isEmpty then 0 else bl.length - 1
  let last := bl[n]?.getD []
  let last' :=
    if last.length = 16 then xorL last k1
    else xorL (last ++ 0x80 :: List.replicate (15 - last.length) 0) k2
  let x := (bl.take n).foldl (fun x b => aesEnc k (xorL x b)) (List.replicate 16 0)
  toBytes (aesEnc k (xorL x last'))

/-! ### GCM -/

/-- A 16-byte block as a number, first byte most significant. -/
def beNat (l : List Nat) : Nat := l.foldl (fun a b => a * 256 + b) 0
def beBytes (n x : Nat) : List Nat := (List.range n).map (fun i => x / 256 ^ (n - 1 - i) % 256)

/-- Multiplication in GF(2^128) as GHASH defines it. -/
def ghashMul (x y : Nat) : Nat :=
  ((List.range 128).foldl (fun (acc : Nat × Nat) i =>
    (if bitAt x (127 - i) then acc.1 ^^^ acc.2 else acc.1,
     if acc.2 % 2 = 0 then acc.2 / 2 else (acc.2 / 2) ^^^ (0xE1 * 2 ^ 120))) (0, y)).1

def padTo16 (l : List Nat) : List Nat := l ++ List.replicate ((16 - l.length % 16) % 16) 0

def ghash (h : Nat) (data : List Nat) : Nat :=
  (blocks16 (data.length + 1) data).foldl (fun y b => ghashMul (y ^^^ beNat b) h) 0

/-- AES-256 counter mode from a 32-bit counter value, under a 12-byte IV. -/
def gcmCtr (k iv : List Nat) (c : Nat) (data : List Nat) : List Nat :=
  ((blocks16 (data.length + 1) data).mapIdx (fun i b => xorL b (aesEnc k (iv ++ beBytes 4 (c + i))))).flatten

/-- The GCM tag over associated data and ciphertext. -/
def gcmTag (k iv aad ct : List Nat) : List Nat :=
  let h := beNat (aesEnc k (List.replicate 16 0))
  let s := ghash h (padTo16 aad ++ padTo16 ct ++ beBytes 8 (8 * aad.length) ++ beBytes 8 (8 * ct.length))
  xorL (beBytes 16 s) (aesEnc k (iv ++ beBytes 4 1))

/-- AES-256-GCM encryption: ciphertext and tag. -/
def gcmEncrypt (key iv aad pt : List Byte) : List Byte × List Byte :=
  let ct := gcmCtr (toNats key) (toNats iv) 2 (toNats pt)
  (toBytes ct, toBytes (gcmTag (toNats key) (toNats iv) (toNats aad) ct))

/-- AES-256-GCM decryption: the plaintext where the tag matches. -/
def gcmDecrypt (key iv aad ct tag : List Byte) : Option (List Byte) :=
  if toBytes (gcmTag (toNats key) (toNats iv) (toNats aad) (toNats ct)) = tag
  then some (toBytes (gcmCtr (toNats key) (toNats iv) 2 (toNats ct))) else none

/-! ### XTS -/

/-- Multiplication of a tweak block by α (IEEE 1619, little-endian). -/
def xtsDouble (t : Nat) : Nat := if t < 2 ^ 127 then 2 * t else (2 * t % 2 ^ 128) ^^^ 0x87

/-- One data unit of whole 16-byte blocks under XTS; `dec` chooses decryption. The tweak is a 128-bit number. -/
def xts (dec : Bool) (k1 k2 : List Byte) (tweak : Nat) (data : List Byte) : List Byte :=
  let t0 := leNat (toBytes (aesEnc (toNats k2) (toNats (leBytes 16 tweak))))
  toBytes (((blocks16 (data.length + 1) (toNats data)).mapIdx (fun j b =>
    let t := toNats (leBytes 16 (iter xtsDouble j t0))
    let x := xorL b t
    xorL (if dec then aesDec (toNats k1) x else aesEnc (toNats k1) x) t)).flatten)

/-! ### CRC-32 -/

/-- CRC-32 (reflected polynomial 0xEDB88320, as IEEE 802.3 uses it). -/
def crc32 (bs : List Byte) : Nat :=
  (bs.foldl (fun c b =>
    iter (fun x => if x % 2 = 1 then (x / 2) ^^^ 0xEDB88320 else x / 2) 8 (c ^^^ b.toNat)) 0xFFFFFFFF) ^^^ 0xFFFFFFFF

end Sys2Proof.Machine
end

