-- ==== Sys2Proof/Machine/Encode.lean ====
section
/-!
DEFINITION. The encoding of Nib syllables (R84 to R88) and the opcode map (R113): the word of a syllable without its stop
bit, its unit class and destinations (R86, R89, R112), and the syllable a word encodes.
-/

namespace Sys2Proof.Machine

/-- The six unit classes (R27), in the order in which the model reports faults of one bundle. -/
inductive UClass
  | s | m | v | x | b | y
  deriving DecidableEq, Repr

/-- The unit code of the fault record (R61). -/
def UClass.code : UClass → Nat
  | .s => 0 | .m => 1 | .v => 2 | .x => 3 | .b => 4 | .y => 5

/-- R85: the fields of the first halfword: cls, long and op. -/
def head (cls op : Nat) (long : Bool) : Nat := cls + 8 * b2n long + 16 * op

def encSA (cls op : Nat) (f : SA) : Nat := head cls op false + f.a.toNat * 2 ^ 8 + f.b.toNat * 2 ^ 12
def encRR (fn : Nat) (f : RR) : Nat :=
  head 0 0 true + f.d.toNat * 2 ^ 8 + f.a.toNat * 2 ^ 13 + f.b.toNat * 2 ^ 18 + fn * 2 ^ 23
def encLR (cls op : Nat) (d a b : BitVec 5) (fn : Nat) : Nat :=
  head cls op true + d.toNat * 2 ^ 8 + a.toNat * 2 ^ 13 + b.toNat * 2 ^ 18 + fn * 2 ^ 23
def encLI (cls op : Nat) (f : LI) : Nat :=
  head cls op true + f.d.toNat * 2 ^ 8 + f.a.toNat * 2 ^ 13 + f.imm.toNat * 2 ^ 18
def encLU (cls op : Nat) (f : LU) : Nat := head cls op true + f.d.toNat * 2 ^ 8 + f.imm.toNat * 2 ^ 13
def encSE (cls sub : Nat) (x : BitVec 4) : Nat := head cls 15 false + sub * 2 ^ 8 + x.toNat * 2 ^ 12
def encLJ (cls sub : Nat) (off : BitVec 20) : Nat := head cls 15 true + sub * 2 ^ 8 + off.toNat * 2 ^ 12
def encLC (cls sub : Nat) (f : LC) : Nat :=
  head cls 15 true + sub * 2 ^ 8 + f.a.toNat * 2 ^ 12 + f.cond.toNat * 2 ^ 17 + f.off.toNat * 2 ^ 20
def encLK (cls sub : Nat) (f : LK) : Nat :=
  head cls 15 true + sub * 2 ^ 8 + f.a.toNat * 2 ^ 12 + f.off.toNat * 2 ^ 17
def encLY (cls sub : Nat) (f : LY) : Nat :=
  head cls 15 true + sub * 2 ^ 8 + f.a.toNat * 2 ^ 12 + f.b.toNat * 2 ^ 17 + f.imm.toNat * 2 ^ 22

def encAlu (sop fn : Nat) : AluForm → Nat × Bool
  | .short f => (encSA 0 sop f, false)
  | .long f => (encRR fn f, true)

def encShift (kind : Nat) (f : ShiftImm) : Nat :=
  head 0 5 true + f.d.toNat * 2 ^ 8 + f.a.toNat * 2 ^ 13 +
    (f.amount.toNat + kind * 2 ^ 5 + f.top.toNat * 2 ^ 7) * 2 ^ 18

/-- V-lane: short opcodes of the FP32 (or bitwise) and INT32 rows, and vop. -/
def encLane (sf si vop : Nat) : LaneForm → Nat × Bool
  | .shortF f => (encSA 2 sf f, false)
  | .shortI f => (encSA 2 si f, false)
  | .long d a b t bg top => (encLR 2 0 d a b (vop + t.toNat * 2 ^ 4 + b2n bg * 2 ^ 7 + b2n top * 2 ^ 8), true)

def encSaLi (cls sop lop : Nat) : SAorLI → Nat × Bool
  | .short f => (encSA cls sop f, false)
  | .long f => (encLI cls lop f, true)

def encSaLr (cls sop lop : Nat) : SAorLR → Nat × Bool
  | .short f => (encSA cls sop f, false)
  | .long f => (encLR cls lop f.d f.a f.b f.fn.toNat, true)

def encIndex (st : Nat) (f : IndexForm) : Nat :=
  encLR 1 14 f.d f.a f.b (f.log.toNat + st * 2 ^ 4 + f.top.toNat * 2 ^ 5)

def encReduce (k : Nat) (f : ReduceForm) : Nat :=
  encLR 2 8 f.d f.a f.b (k + f.type.toNat * 2 ^ 2 + f.top.toNat * 2 ^ 5)

def encFull (cls op : Nat) (f : LR) : Nat × Bool := (encLR cls op f.d f.a f.b f.fn.toNat, true)

/-- R113: the word of a syllable with stop 0, and whether it is long. -/
def sylEnc : Syl → Nat × Bool
  | .mov (.short f) => (encSA 0 0 f, false)
  | .mov (.unassigned w l) => (if l then w.toNat / 8 * 8 + w.toNat % 4 else w.toNat % 65536 / 8 * 8 + w.toNat % 4, l)
  | .add f => encAlu 1 0x00 f
  | .sub f => encAlu 2 0x01 f
  | .andS f => encAlu 3 0x02 f
  | .orS f => encAlu 4 0x03 f
  | .xorS f => encAlu 5 0x04 f
  | .andn f => (encRR 0x05 f, true)
  | .shl f => encAlu 6 0x06 f
  | .shr f => encAlu 7 0x07 f
  | .sra f => encAlu 8 0x08 f
  | .rol f => (encRR 0x09 f, true)
  | .mul f => (encRR 0x0A f, true)
  | .mulhu f => (encRR 0x0B f, true)
  | .mulhs f => (encRR 0x0C f, true)
  | .min f => (encRR 0x0D f, true)
  | .max f => (encRR 0x0E f, true)
  | .minu f => (encRR 0x0F f, true)
  | .maxu f => (encRR 0x10 f, true)
  | .clz f => (encRR 0x11 f, true)
  | .popc f => (encRR 0x12 f, true)
  | .cmpeq f => encAlu 12 0x13 f
  | .cmpne f => (encRR 0x14 f, true)
  | .cmplt f => encAlu 11 0x15 f
  | .cmpltu f => (encRR 0x16 f, true)
  | .cmple f => (encRR 0x17 f, true)
  | .cmpleu f => (encRR 0x18 f, true)
  | .addi f => encSaLi 0 9 1 f
  | .andi f => (encLI 0 2 f, true)
  | .ori f => (encLI 0 3 f, true)
  | .xori f => (encLI 0 4 f, true)
  | .shli f => (encShift 0 f, true)
  | .shri f => (encShift 1 f, true)
  | .srai f => (encShift 2 f, true)
  | .roli f => (encShift 3 f, true)
  | .slti f => (encLI 0 6 f, true)
  | .movi (.short f) => (encSA 0 10 f, false)
  | .movi (.long f) => (encLU 0 8 f, true)
  | .movhi f => (encLU 0 9 f, true)
  | .mfc f => encSaLi 0 13 10 f
  | .mtc f => encSaLi 0 14 11 f
  | .ldb f => (encLI 1 0 f, true)
  | .ldbu f => (encLI 1 1 f, true)
  | .ldh f => (encLI 1 2 f, true)
  | .ldhu f => (encLI 1 3 f, true)
  | .ldw f => encSaLi 1 0 4 f
  | .stb f => (encLI 1 5 f, true)
  | .sth f => (encLI 1 6 f, true)
  | .stw f => encSaLi 1 1 7 f
  | .vld64 f => (encLI 1 8 f, true)
  | .vld128 f => (encLI 1 9 f, true)
  | .vld256 f => encSaLi 1 2 10 f
  | .vst64 f => (encLI 1 11 f, true)
  | .vst128 f => (encLI 1 12 f, true)
  | .vst256 f => encSaLi 1 3 13 f
  | .vldx f => (encIndex 0 f, true)
  | .vstx f => (encIndex 1 f, true)
  | .vadd f => encLane 1 8 0 f
  | .vsub f => encLane 2 9 1 f
  | .vmul f => encLane 3 3 2 f
  | .vmin f => encLane 0 0 3 f
  | .vmax f => encLane 4 4 4 f
  | .vabs f => encLane 0 0 5 f
  | .vneg f => encLane 0 0 6 f
  | .vcmpeq f => encLane 0 0 7 f
  | .vcmplt f => encLane 0 0 8 f
  | .vcmple f => encLane 0 0 9 f
  | .vand f => encLane 5 5 10 f
  | .vor f => encLane 6 6 11 f
  | .vxor f => encLane 7 7 12 f
  | .vshl f => encLane 0 0 13 f
  | .vshr f => encLane 0 0 14 f
  | .vsra f => encLane 0 0 15 f
  | .vfma f => encFull 2 1 f
  | .vmov f => (encSA 2 0 f, false)
  | .vcvt f => encFull 2 2 f
  | .vmxs f => encFull 2 3 f
  | .vmxq f => encFull 2 4 f
  | .vmxd f => encFull 2 5 f
  | .exps f => encSaLr 2 11 6 f
  | .maxrun f => encSaLr 2 10 7 f
  | .vrsum f => (encReduce 0 f, true)
  | .vrmax f => (encReduce 1 f, true)
  | .vrmin f => (encReduce 2 f, true)
  | .vbcast f => encFull 2 9 f
  | .vext f => (encLI 2 10 f, true)
  | .vins f => (encLI 2 11 f, true)
  | .vshuf f => encFull 2 12 f
  | .vsplati f => (encLU 2 13 f, true)
  | .vsel f => encFull 2 14 f
  | .xmul f => encFull 3 0 f
  | .xmacLa f => encFull 3 1 f
  | .xaddLa f => encSaLr 3 1 2 f
  | .xclrLa f => encSaLr 3 0 3 f
  | .prd f => encFull 3 4 f
  | .lard f => encFull 3 5 f
  | .lard1 f => (encLI 3 6 f, true)
  | .xmulv f => encFull 3 8 f
  | .xdot f => encFull 3 9 f
  | .endS x => (encSE 0 0 x, false)
  | .trap x => (encSE 0 1 x, false)
  | .ret x => (encSE 0 2 x, false)
  | .call f => (encLK 0 3 f, true)
  | .callr f => (encLY 0 4 f, true)
  | .br off => (encLJ 0 5 off, true)
  | .bc f => (encLC 0 6 f, true)
  | .brr f => (encLY 0 7 f, true)
  | .dbnz f => (encLC 0 8 f, true)
  | .beq f => (encLY 0 9 f, true)
  | .bne f => (encLY 0 10 f, true)
  | .blt f => (encLY 0 11 f, true)
  | .bltu f => (encLY 0 12 f, true)
  | .sfencea x => (encSE 1 0 x, false)
  | .sfencet x => (encSE 1 1 x, false)
  | .stream f => (encLY 1 0 f, true)
  | .sfence f => (encLY 1 1 f, true)
  | .signal f => (encLY 1 2 f, true)
  | .wait f => (encLY 1 3 f, true)
  | .consume f => (encLY 1 4 f, true)
  | .waitc f => (encLY 1 5 f, true)
  | .evpost f => (encLY 1 6 f, true)
  | .signali f => (encLY 1 7 f, true)

/-- Length in bytes (R84). -/
def sylBytes (x : Syl) : Nat := if (sylEnc x).2 then 4 else 2

/-- R86: the unit class, from cls and op alone. -/
def classOfWord (w : Nat) : UClass :=
  match w % 4 with
  | 0 => if w / 16 % 16 = 15 then .b else .s
  | 1 => if w / 16 % 16 = 15 then .y else .m
  | 2 => .v
  | _ => .x

def sylCls (x : Syl) : UClass := classOfWord (sylEnc x).1

/-- The bytes of a syllable as fetched, with its stop bit (R1, R85). -/
def sylCode (x : Syl) (stop : Bool) : List Byte := leBytes (sylBytes x) ((sylEnc x).1 + 4 * b2n stop)

/-- A destination register, for the rules of R89 and R112. -/
inductive Dest
  | g (r : Nat) | v (r : Nat) | p (r : Nat) | la (r : Nat) | cr (o : Nat)
  deriving DecidableEq, Repr

def aluDest : AluForm → Nat
  | .short f => f.a.toNat | .long f => f.d.toNat
def saLiDest : SAorLI → Nat
  | .short f => f.a.toNat | .long f => f.d.toNat
def saLrDest : SAorLR → Nat
  | .short f => f.a.toNat | .long f => f.d.toNat
def laneDest : LaneForm → Nat
  | .shortF f => f.a.toNat | .shortI f => f.a.toNat | .long d _ _ _ _ _ => d.toNat

/-- R89, R112: the destination registers a syllable names. -/
def sylDests : Syl → List Dest
  | .mov (.short f) => [.g f.a.toNat]
  | .mov (.unassigned _ _) => []
  | .add f | .sub f | .andS f | .orS f | .xorS f | .shl f | .shr f | .sra f | .cmpeq f | .cmplt f => [.g (aluDest f)]
  | .andn f | .rol f | .mul f | .mulhu f | .mulhs f | .min f | .max f | .minu f | .maxu f | .clz f | .popc f
  | .cmpne f | .cmpltu f | .cmple f | .cmpleu f => [.g f.d.toNat]
  | .addi f | .mfc f | .ldw f => [.g (saLiDest f)]
  | .andi f | .ori f | .xori f | .slti f | .ldb f | .ldbu f | .ldh f | .ldhu f | .vext f | .lard1 f => [.g f.d.toNat]
  | .shli f | .shri f | .srai f | .roli f => [.g f.d.toNat]
  | .movi (.short f) => [.g f.a.toNat]
  | .movi (.long f) => [.g f.d.toNat]
  | .movhi f => [.g f.d.toNat]
  | .mtc (.short f) => [.cr f.a.toNat]
  | .mtc (.long f) => [.cr f.imm.toNat]
  | .stb _ | .sth _ | .stw _ | .vst64 _ | .vst128 _ | .vst256 _ | .vstx _ => []
  | .vld64 f | .vld128 f | .vins f => [.v f.d.toNat]
  | .vld256 f => [.v (saLiDest f)]
  | .vldx f => [.v f.d.toNat]
  | .vadd f | .vsub f | .vmul f | .vmin f | .vmax f | .vabs f | .vneg f | .vcmpeq f | .vcmplt f | .vcmple f
  | .vand f | .vor f | .vxor f | .vshl f | .vshr f | .vsra f => [.v (laneDest f)]
  | .vmov f => [.v f.a.toNat]
  | .vfma f | .vcvt f | .vmxq f | .vmxd f | .vbcast f | .vshuf f | .vsel f | .prd f | .xmulv f => [.v f.d.toNat]
  | .vmxs f | .xdot f => [.g f.d.toNat]
  | .exps f | .maxrun f => [.v (saLrDest f)]
  | .vrsum f | .vrmax f | .vrmin f => [.g f.d.toNat]
  | .vsplati f => [.v f.d.toNat]
  | .xmul f => [.p f.d.toNat]
  | .xmacLa f => [.la f.d.toNat]
  | .xaddLa f | .xclrLa f => [.la (saLrDest f)]
  | .lard f => if f.fn.toNat % 8 = 6 then [.v f.d.toNat, .v f.b.toNat] else [.v f.d.toNat]
  | .endS _ | .trap _ | .br _ | .bc _ | .brr _ | .beq _ | .bne _ | .blt _ | .bltu _ => []
  | .ret _ | .call _ | .callr _ => [.cr 1]
  | .dbnz f => [.g f.a.toNat]
  | .sfencea _ | .sfencet _ | .sfence _ | .stream _ | .signal _ | .signali _ | .consume _ | .wait _ | .waitc _
  | .evpost _ => []

/-! ### The opcode map read the other way (R113) -/

def fBits (n w lo : Nat) : BitVec n := BitVec.ofNat n (w >>> lo)
def decSA (w : Nat) : SA := ⟨fBits 4 w 8, fBits 4 w 12⟩
def decLR (w : Nat) : LR := ⟨fBits 5 w 8, fBits 5 w 13, fBits 5 w 18, fBits 9 w 23⟩
def decRR (w : Nat) : RR := ⟨fBits 5 w 8, fBits 5 w 13, fBits 5 w 18⟩
def decLI (w : Nat) : LI := ⟨fBits 5 w 8, fBits 5 w 13, fBits 14 w 18⟩
def decLU (w : Nat) : LU := ⟨fBits 5 w 8, fBits 19 w 13⟩
def decLC (w : Nat) : LC := ⟨fBits 5 w 12, fBits 3 w 17, fBits 12 w 20⟩
def decLK (w : Nat) : LK := ⟨fBits 5 w 12, fBits 15 w 17⟩
def decLY (w : Nat) : LY := ⟨fBits 5 w 12, fBits 5 w 17, fBits 10 w 22⟩
def decShift (w : Nat) : ShiftImm := ⟨fBits 5 w 8, fBits 5 w 13, fBits 5 w 18, fBits 7 w 25⟩
def decIndex (w : Nat) : IndexForm := ⟨fBits 5 w 8, fBits 5 w 13, fBits 5 w 18, fBits 4 w 23, fBits 4 w 28⟩
def decReduce (w : Nat) : ReduceForm := ⟨fBits 5 w 8, fBits 5 w 13, fBits 5 w 18, fBits 3 w 25, fBits 4 w 28⟩
def decLane (w : Nat) : LaneForm :=
  .long (fBits 5 w 8) (fBits 5 w 13) (fBits 5 w 18) (fBits 3 w 27) (bitAt w 30) (bitAt w 31)

/-- Short S forms (R113). -/
def decShortS (w : Nat) : Nat → Option Syl
  | 0 => some (.mov (.short (decSA w)))
  | 1 => some (.add (.short (decSA w)))
  | 2 => some (.sub (.short (decSA w)))
  | 3 => some (.andS (.short (decSA w)))
  | 4 => some (.orS (.short (decSA w)))
  | 5 => some (.xorS (.short (decSA w)))
  | 6 => some (.shl (.short (decSA w)))
  | 7 => some (.shr (.short (decSA w)))
  | 8 => some (.sra (.short (decSA w)))
  | 9 => some (.addi (.short (decSA w)))
  | 10 => some (.movi (.short (decSA w)))
  | 11 => some (.cmplt (.short (decSA w)))
  | 12 => some (.cmpeq (.short (decSA w)))
  | 13 => some (.mfc (.short (decSA w)))
  | 14 => some (.mtc (.short (decSA w)))
  | _ => none

/-- Short V forms (R113). -/
def decShortV (w : Nat) : Nat → Option Syl
  | 0 => some (.vmov (decSA w))
  | 1 => some (.vadd (.shortF (decSA w)))
  | 2 => some (.vsub (.shortF (decSA w)))
  | 3 => some (.vmul (.shortF (decSA w)))
  | 4 => some (.vmax (.shortF (decSA w)))
  | 5 => some (.vand (.shortF (decSA w)))
  | 6 => some (.vor (.shortF (decSA w)))
  | 7 => some (.vxor (.shortF (decSA w)))
  | 8 => some (.vadd (.shortI (decSA w)))
  | 9 => some (.vsub (.shortI (decSA w)))
  | 10 => some (.maxrun (.short (decSA w)))
  | 11 => some (.exps (.short (decSA w)))
  | _ => none

/-- The S-ALU functions (R115). -/
def decAlu (w : Nat) : Nat → Option Syl
  | 0x00 => some (.add (.long (decRR w)))
  | 0x01 => some (.sub (.long (decRR w)))
  | 0x02 => some (.andS (.long (decRR w)))
  | 0x03 => some (.orS (.long (decRR w)))
  | 0x04 => some (.xorS (.long (decRR w)))
  | 0x05 => some (.andn (decRR w))
  | 0x06 => some (.shl (.long (decRR w)))
  | 0x07 => some (.shr (.long (decRR w)))
  | 0x08 => some (.sra (.long (decRR w)))
  | 0x09 => some (.rol (decRR w))
  | 0x0A => some (.mul (decRR w))
  | 0x0B => some (.mulhu (decRR w))
  | 0x0C => some (.mulhs (decRR w))
  | 0x0D => some (.min (decRR w))
  | 0x0E => some (.max (decRR w))
  | 0x0F => some (.minu (decRR w))
  | 0x10 => some (.maxu (decRR w))
  | 0x11 => some (.clz (decRR w))
  | 0x12 => some (.popc (decRR w))
  | 0x13 => some (.cmpeq (.long (decRR w)))
  | 0x14 => some (.cmpne (decRR w))
  | 0x15 => some (.cmplt (.long (decRR w)))
  | 0x16 => some (.cmpltu (decRR w))
  | 0x17 => some (.cmple (decRR w))
  | 0x18 => some (.cmpleu (decRR w))
  | _ => none

/-- Long S forms (R113). -/
def decLongS (w : Nat) : Nat → Option Syl
  | 0 => decAlu w (w / 2 ^ 23)
  | 1 => some (.addi (.long (decLI w)))
  | 2 => some (.andi (decLI w))
  | 3 => some (.ori (decLI w))
  | 4 => some (.xori (decLI w))
  | 5 =>
    match w / 2 ^ 23 % 4 with
    | 0 => some (.shli (decShift w))
    | 1 => some (.shri (decShift w))
    | 2 => some (.srai (decShift w))
    | _ => some (.roli (decShift w))
  | 6 => some (.slti (decLI w))
  | 8 => some (.movi (.long (decLU w)))
  | 9 => some (.movhi (decLU w))
  | 10 => some (.mfc (.long (decLI w)))
  | 11 => some (.mtc (.long (decLI w)))
  | _ => none

/-- Long M forms (R113). -/
def decLongM (w : Nat) : Nat → Option Syl
  | 0 => some (.ldb (decLI w))
  | 1 => some (.ldbu (decLI w))
  | 2 => some (.ldh (decLI w))
  | 3 => some (.ldhu (decLI w))
  | 4 => some (.ldw (.long (decLI w)))
  | 5 => some (.stb (decLI w))
  | 6 => some (.sth (decLI w))
  | 7 => some (.stw (.long (decLI w)))
  | 8 => some (.vld64 (decLI w))
  | 9 => some (.vld128 (decLI w))
  | 10 => some (.vld256 (.long (decLI w)))
  | 11 => some (.vst64 (decLI w))
  | 12 => some (.vst128 (decLI w))
  | 13 => some (.vst256 (.long (decLI w)))
  | 14 => if bitAt w 27 then some (.vstx (decIndex w)) else some (.vldx (decIndex w))
  | _ => none

/-- V-lane operations by vop (R120). -/
def decVop (f : LaneForm) : Nat → Syl
  | 0 => .vadd f | 1 => .vsub f | 2 => .vmul f | 3 => .vmin f | 4 => .vmax f | 5 => .vabs f | 6 => .vneg f
  | 7 => .vcmpeq f | 8 => .vcmplt f | 9 => .vcmple f | 10 => .vand f | 11 => .vor f | 12 => .vxor f
  | 13 => .vshl f | 14 => .vshr f | _ => .vsra f

/-- Long V forms (R113). -/
def decLongV (w : Nat) : Nat → Option Syl
  | 0 => some (decVop (decLane w) (w / 2 ^ 23 % 16))
  | 1 => some (.vfma (decLR w))
  | 2 => some (.vcvt (decLR w))
  | 3 => some (.vmxs (decLR w))
  | 4 => some (.vmxq (decLR w))
  | 5 => some (.vmxd (decLR w))
  | 6 => some (.exps (.long (decLR w)))
  | 7 => some (.maxrun (.long (decLR w)))
  | 8 =>
    match w / 2 ^ 23 % 4 with
    | 0 => some (.vrsum (decReduce w))
    | 1 => some (.vrmax (decReduce w))
    | 2 => some (.vrmin (decReduce w))
    | _ => none
  | 9 => some (.vbcast (decLR w))
  | 10 => some (.vext (decLI w))
  | 11 => some (.vins (decLI w))
  | 12 => some (.vshuf (decLR w))
  | 13 => some (.vsplati (decLU w))
  | 14 => some (.vsel (decLR w))
  | _ => none

/-- Long X forms (R113). -/
def decLongX (w : Nat) : Nat → Option Syl
  | 0 => some (.xmul (decLR w))
  | 1 => some (.xmacLa (decLR w))
  | 2 => some (.xaddLa (.long (decLR w)))
  | 3 => some (.xclrLa (.long (decLR w)))
  | 4 => some (.prd (decLR w))
  | 5 => some (.lard (decLR w))
  | 6 => some (.lard1 (decLI w))
  | 8 => some (.xmulv (decLR w))
  | 9 => some (.xdot (decLR w))
  | _ => none

/-- Escaped long B forms (R113, R100). -/
def decLongB (w : Nat) : Nat → Option Syl
  | 3 => some (.call (decLK w))
  | 4 => some (.callr (decLY w))
  | 5 => some (.br (fBits 20 w 12))
  | 6 => some (.bc (decLC w))
  | 7 => some (.brr (decLY w))
  | 8 => some (.dbnz (decLC w))
  | 9 => some (.beq (decLY w))
  | 10 => some (.bne (decLY w))
  | 11 => some (.blt (decLY w))
  | 12 => some (.bltu (decLY w))
  | _ => none

/-- Escaped long Y forms (R113). -/
def decLongY (w : Nat) : Nat → Option Syl
  | 0 => some (.stream (decLY w))
  | 1 => some (.sfence (decLY w))
  | 2 => some (.signal (decLY w))
  | 3 => some (.wait (decLY w))
  | 4 => some (.consume (decLY w))
  | 5 => some (.waitc (decLY w))
  | 6 => some (.evpost (decLY w))
  | 7 => some (.signali (decLY w))
  | _ => none

/-- R113: the syllable a word encodes, whatever its stop bit; none where the map is reserved. -/
def decodeSyl (w : Nat) : Option Syl :=
  let long := bitAt w 3
  let op := w / 16 % 16
  let sub := w / 256 % 16
  match classOfWord w, long with
  | .s, false => decShortS w op
  | .s, true => decLongS w op
  | .m, false =>
    match op with
    | 0 => some (.ldw (.short (decSA w)))
    | 1 => some (.stw (.short (decSA w)))
    | 2 => some (.vld256 (.short (decSA w)))
    | 3 => some (.vst256 (.short (decSA w)))
    | _ => none
  | .m, true => decLongM w op
  | .v, false => decShortV w op
  | .v, true => decLongV w op
  | .x, false =>
    match op with
    | 0 => some (.xclrLa (.short (decSA w)))
    | 1 => some (.xaddLa (.short (decSA w)))
    | _ => none
  | .x, true => decLongX w op
  | .b, false =>
    match sub with
    | 0 => some (.endS (fBits 4 w 12))
    | 1 => some (.trap (fBits 4 w 12))
    | 2 => some (.ret (fBits 4 w 12))
    | _ => none
  | .b, true => decLongB w sub
  | .y, false =>
    match sub with
    | 0 => some (.sfencea (fBits 4 w 12))
    | 1 => some (.sfencet (fBits 4 w 12))
    | _ => none
  | .y, true => decLongY w sub

end Sys2Proof.Machine
end

