-- ==== Sys2Proof/Config.lean ====
section
/-!
DEFINITION. The values the manual leaves open, as constants WITHOUT a body: nothing in Lean can evaluate one or prove a
value of it, so a claim about the model holds whatever they are. Each is named in a log entry (notes/assumptions).
A meaning that draws a fresh value applies one of these to `State.freeCtr`, which the same step advances.
-/

namespace Sys2Proof.Config

/-- The generic free value: draw number, index within the draw. Used wherever the manual fixes no value at all. -/
opaque free : Nat → Nat → Nat

/-- R159: the byte a line of memory never written since its plot was granted reads as: draw number and address. -/
opaque residual : Nat → Nat → BitVec 8

/-- R18: a byte of host or accelerator memory, which lies outside the module: draw number and bus address. -/
opaque foreign : Nat → Nat → BitVec 8

/-- R81: EXPS has an error of at most 1 ulp and is non-decreasing. For each FP32 value `lo` just below some e^x, the
argument (as its FP32 bits, ordered) from which EXPS delivers the neighbour above instead of `lo`. -/
opaque expsThreshold : Nat → Int

/-- The wait, in ns, that the timer code of an RNR NAK asks for; the manual gives code 1 alone (R413). -/
opaque rnrNs : Nat → Nat

/-- R288, R300: the serial number of this module. -/
opaque serial : BitVec 64
/-- R469: the firmware image that manufacture put into slot A (false) or B (true). -/
opaque factoryImage : Bool → List (BitVec 8)
/-- R522: the factory calibration table. -/
opaque factoryTable : List (BitVec 8)
/-- R450: the SHA3-256 of the boot ROM. -/
opaque romDigest : List (BitVec 8)
/-- R451: the certificate chain. -/
opaque certChain : List (BitVec 8)
/-- R469: the Aedtar firmware signing key whose hash is fused. -/
opaque firmwareKey : List (BitVec 8)
/-- R475: the fused SHA3-256 of the Aedtar vendor debug key. -/
opaque vendorKeyHash : List (BitVec 8)
/-- R523: does a section of a calibration table pass its checks at boot? -/
opaque sectionPasses : List (BitVec 8) → Nat → Bool
/-- R481: a byte of firmware or hub state that a debug read returns: Quill core or 63, address. -/
opaque hubByte : Nat → Nat → Nat → BitVec 8
/-- R364: the fused base MAC address of this module, in units of 32. -/
opaque macBase : BitVec 43
/-- R527: the endpoint UUID of this module. -/
opaque uuid : BitVec 128

/-- R519: the code of an event within its source, which the manual does not list, by the model's name of the event. -/
opaque logCode : String → Nat
/-- R519: a payload byte of an event-log entry that the manual does not define: sequence number and index. -/
opaque logByte : Nat → Nat → BitVec 8

/-- FIPS 203 ML-KEM-768 encapsulation against a public key with given randomness: the ciphertext (R449). -/
opaque kemCiphertext : List (BitVec 8) → Nat → List (BitVec 8)
/-- FIPS 203 ML-KEM-768 encapsulation: the shared secret (R449). -/
opaque kemSecret : List (BitVec 8) → Nat → List (BitVec 8)
/-- FIPS 203: the public key of the key pair drawn under a number. -/
opaque kemPublic : Nat → List (BitVec 8)
/-- FIPS 203: decapsulation of a ciphertext by the key pair drawn under a number. -/
opaque kemDecaps : Nat → List (BitVec 8) → List (BitVec 8)
/-- FIPS 204 ML-DSA-44: signature of a message by a device key (by name). -/
opaque dsaSign : Nat → List (BitVec 8) → List (BitVec 8)
/-- FIPS 204 ML-DSA: does a signature verify under a public key (by its digest or name). -/
opaque dsaVerify : List (BitVec 8) → List (BitVec 8) → List (BitVec 8) → Bool

end Sys2Proof.Config
end

