-- ==== Sys2Proof/Machine/Exact.lean ====
section
/-!
DEFINITION. Number formats and exact arithmetic (03_arithmetic): every value is an exact dyadic number, an infinity or a
NaN; rounding happens once, in `roundTo` (R66, R69, R70, R71).
-/

namespace Sys2Proof.Machine

/-- The exact value of an operand: n × 2^e, a NaN (signalling or quiet) or an infinity (R62, R63). -/
inductive XV
  | fin (n : Int) (e : Int)
  | nan (signalling : Bool)
  | inf (neg : Bool)
  deriving DecidableEq, Repr

/-- The number formats (R62). -/
inductive Fmt
  | fp32 | bf16 | fp16 | e4m3 | e5m2 | e2m1 | int32 | int8
  deriving DecidableEq, Repr

/-- Width in bits (R62). -/
def Fmt.width : Fmt → Nat
  | .fp32 => 32 | .bf16 => 16 | .fp16 => 16 | .e4m3 => 8 | .e5m2 => 8 | .e2m1 => 4 | .int32 => 32 | .int8 => 8

/-- Width of the significand field M (R62). -/
def Fmt.man : Fmt → Nat
  | .fp32 => 23 | .bf16 => 7 | .fp16 => 10 | .e4m3 => 3 | .e5m2 => 2 | .e2m1 => 1 | .int32 => 0 | .int8 => 0

/-- Exponent bias (R62). -/
def Fmt.bias : Fmt → Int
  | .fp32 => 127 | .bf16 => 127 | .fp16 => 15 | .e4m3 => 7 | .e5m2 => 15 | .e2m1 => 1 | .int32 => 0 | .int8 => 0

/-- Is it an integer format? -/
def Fmt.isInt : Fmt → Bool
  | .int32 => true | .int8 => true | _ => false

/-- The bits of the largest finite value (R62). -/
def Fmt.maxBits : Fmt → Nat
  | .fp32 => 0x7F7FFFFF | .bf16 => 0x7F7F | .fp16 => 0x7BFF | .e4m3 => 0x7E | .e5m2 => 0x7B | .e2m1 => 7
  | .int32 => 0x7FFFFFFF | .int8 => 0x7F

/-- The bits of +∞, for the formats that have one (R62). -/
def Fmt.infBits : Fmt → Nat
  | .fp32 => 0x7F800000 | .bf16 => 0x7F80 | .fp16 => 0x7C00 | .e5m2 => 0x7C | _ => 0

/-- The canonical NaN (R63); a NaN converted to an integer or E2M1 delivers 0 (R70, R123). -/
def Fmt.nanBits : Fmt → Nat
  | .fp32 => 0x7FC00000 | .bf16 => 0x7FC0 | .fp16 => 0x7E00 | .e4m3 => 0x7F | .e5m2 => 0x7F | _ => 0

/-- The sign bit of the format as a number. -/
def Fmt.signBit (f : Fmt) : Nat := 2 ^ (f.width - 1)

/-- Exponent of the least subnormal step. -/
def Fmt.qMin (f : Fmt) : Int := 1 - f.bias - f.man

/-- R62, R63: the exact value of an element. -/
def decodeX (f : Fmt) (bits : Nat) : XV :=
  if f.isInt then .fin (sInt f.width bits) 0
  else
    let w := f.width
    let m := bits % 2 ^ f.man
    let ew := w - 1 - f.man
    let e := bitsOf bits f.man ew
    let neg := bitAt bits (w - 1)
    let sgn (k : Nat) : Int := if neg then -(k : Int) else k
    let finv : XV := if e = 0 then .fin (sgn m) f.qMin else .fin (sgn (2 ^ f.man + m)) (f.qMin + (e : Int) - 1)
    match f with
    | .e2m1 => finv
    | .e4m3 => if e = 15 ∧ m = 7 then .nan false else finv
    | .e5m2 => if e = 31 then (if m = 0 then .inf neg else .nan false) else finv
    | _ =>
      if e = 2 ^ ew - 1 then (if m = 0 then .inf neg else .nan (!bitAt m (f.man - 1))) else finv

/-- Sticky flags as a mask over the flags register (R33). -/
abbrev Flags := Nat

def flStale : Flags := 1
def flInvalid : Flags := 2
def flOverflow : Flags := 4
def flUnderflow : Flags := 8
def flInexact : Flags := 16
def flSaturate : Flags := 32
def flLaRange : Flags := 64
def flScratch : Flags := 128

/-- A flag when a condition holds. -/
def flIf (c : Bool) (f : Flags) : Flags := if c then f else 0

/-- R65: the rounding modes. Values 5 to 7 of rmode.mode act as nearest-even. -/
inductive RMode
  | nearestEven | towardZero | up | down | stochastic
  deriving DecidableEq, Repr

/-- The mode a 3-bit code names (R65). -/
def RMode.ofCode : Nat → RMode
  | 1 => .towardZero | 2 => .up | 3 => .down | 4 => .stochastic | _ => .nearestEven

/-- The step of the grid at magnitude a × 2^e for a target format: the exponent of one unit in the last place. -/
def gridExp (f : Fmt) (a : Nat) (e : Int) : Int :=
  max (((Nat.log2 a : Nat) : Int) + e) (1 - f.bias) - f.man

/-- |x| = a × 2^e split on the grid 2^q: whole steps, remainder, and the remainder's denominator. -/
def splitAt (a : Nat) (e q : Int) : Nat × Nat × Nat :=
  if q ≤ e then (a * 2 ^ (e - q).toNat, 0, 1)
  else
    let d := 2 ^ (q - e).toNat
    (a / d, a % d, d)

/-- Does rounding go away from zero? `k` is the step below, rem/den the rest, `r` the stochastic draw (R66, R67). -/
def roundsAway (m : RMode) (neg : Bool) (k rem den r : Nat) : Bool :=
  match m with
  | .nearestEven => decide (den < 2 * rem) || (decide (den = 2 * rem) && decide (k % 2 = 1))
  | .towardZero => false
  | .up => decide (rem ≠ 0) && !neg
  | .down => decide (rem ≠ 0) && neg
  | .stochastic => decide (r < rem * 2 ^ 32 / den)

/-- What an overflowing or infinite input delivers: is it the infinity (true) or the largest finite value (R69)? -/
def overflowsToInf (m : RMode) (neg : Bool) : Bool :=
  match m with
  | .nearestEven => true | .stochastic => true | .towardZero => false | .up => !neg | .down => neg

/-- R66, R69, R70, R71: rounds an exact value once into a target format. `sat` is FP8 saturation, `r` the draw of the
lane. Answers the delivered bits and the flags the event sets. -/
def roundTo (f : Fmt) (m : RMode) (sat : Bool) (r : Nat) (x : XV) : Nat × Flags :=
  let sb (neg : Bool) (b : Nat) : Nat := if neg then f.signBit + b else b
  if f.isInt then
    let lo : Int := -(f.signBit : Int)
    let hi : Int := (f.signBit : Int) - 1
    match x with
    | .nan _ => (0, flInvalid)
    | .inf neg => (if neg then f.signBit else f.maxBits, flSaturate)
    | .fin n e =>
      let neg := decide (n < 0)
      let (k, rem, den) := splitAt n.natAbs e 0
      let k' : Nat := if roundsAway m neg k rem den r then k + 1 else k
      let v : Int := if neg then -(k' : Int) else k'
      let c : Int := if v < lo then lo else if hi < v then hi else v
      (wrapN f.width c, flIf (decide (c ≠ v)) flSaturate ||| flIf (decide (c ≠ v) || decide (rem ≠ 0)) flInexact)
  else
    match x with
    | .nan s => (f.nanBits, flIf s flInvalid)
    | .inf neg =>
      match f with
      | .e4m3 => if sat then (sb neg f.maxBits, flSaturate) else (f.nanBits, flInvalid)
      | .e5m2 => if sat then (sb neg f.maxBits, flSaturate) else (sb neg f.infBits, 0)
      | .e2m1 => (sb neg f.maxBits, flSaturate)
      | _ => (sb neg f.infBits, 0)
    | .fin n e =>
      if n = 0 then (0, 0)
      else
        let neg := decide (n < 0)
        let a := n.natAbs
        let q := gridExp f a e
        let (k, rem, den) := splitAt a e q
        let mo : RMode := if m = .stochastic then .nearestEven else m
        let enc (j : Nat) : Nat := (q - f.qMin).toNat * 2 ^ f.man + j
        let kOv : Nat := if roundsAway mo neg k rem den r then k + 1 else k
        if enc kOv > f.maxBits then
          let satOn := sat && (f == .e4m3 || f == .e5m2 || f == .e2m1)
          if satOn then (sb neg f.maxBits, flOverflow ||| flInexact ||| flSaturate)
          else if overflowsToInf m neg then
            (if f = .e4m3 then f.nanBits else sb neg f.infBits, flOverflow ||| flInexact)
          else (sb neg f.maxBits, flOverflow ||| flInexact)
        else
          -- R66: stochastic rounding above the largest finite value acts as nearest-even
          let mi : RMode := if enc k ≥ f.maxBits then mo else m
          let k' : Nat := if roundsAway mi neg k rem den r then k + 1 else k
          let tiny := decide ((Nat.log2 a : Int) + e < 1 - f.bias)
          (sb neg (enc k'), flIf (decide (rem ≠ 0)) flInexact ||| flIf (tiny && decide (rem ≠ 0)) flUnderflow)

/-- Sum of two exact finite values, at the smaller exponent. -/
def addFin (n1 e1 n2 e2 : Int) : Int × Int :=
  let e := min e1 e2
  (n1 * 2 ^ (e1 - e).toNat + n2 * 2 ^ (e2 - e).toNat, e)

/-- The exact sum, with the invalid event of ∞ − ∞ (R71). -/
def addX (x y : XV) : XV × Flags :=
  match x, y with
  | .nan _, _ => (.nan false, 0)
  | _, .nan _ => (.nan false, 0)
  | .inf s, .inf t => if s = t then (.inf s, 0) else (.nan false, flInvalid)
  | .inf s, _ => (.inf s, 0)
  | _, .inf t => (.inf t, 0)
  | .fin a e, .fin b h => let r := addFin a e b h; (.fin r.1 r.2, 0)

/-- The exact product, with the invalid event of ∞ × 0 (R71, R74). -/
def mulX (x y : XV) : XV × Flags :=
  match x, y with
  | .nan _, _ => (.nan false, 0)
  | _, .nan _ => (.nan false, 0)
  | .inf s, .inf t => (.inf (s != t), 0)
  | .inf s, .fin b _ => if b = 0 then (.nan false, flInvalid) else (.inf (s != decide (b < 0)), 0)
  | .fin a _, .inf t => if a = 0 then (.nan false, flInvalid) else (.inf (t != decide (a < 0)), 0)
  | .fin a e, .fin b h => (.fin (a * b) (e + h), 0)

/-- Negation. -/
def negX : XV → XV
  | .fin n e => .fin (-n) e
  | .nan s => .nan s
  | .inf s => .inf (!s)

/-- A signalling NaN operand sets invalid (R63). -/
def snanFlag (x : XV) : Flags := match x with | .nan true => flInvalid | _ => 0

/-- The exact sum of a list, folding from +0 (used for the summed lanes of R74 and the reductions of R123, R125). A NaN
anywhere makes the sum NaN; otherwise infinities of both signs are the invalid event. -/
def sumX (l : List XV) : XV × Flags :=
  if l.any (fun x => match x with | .nan _ => true | _ => false) then (.nan false, 0)
  else l.foldl (fun acc x => let r := addX acc.1 x; (r.1, acc.2 ||| r.2)) (.fin 0 0, 0)

/-- Is x below y, as exact values (no NaN)? -/
def ltX (x y : XV) : Bool :=
  match x, y with
  | .inf true, .inf true => false
  | .inf true, _ => true
  | _, .inf true => false
  | .inf false, _ => false
  | _, .inf false => true
  | .fin a e, .fin b h => let r := addFin a e (-b) h; decide (r.1 < 0)
  | _, _ => false

/-- Are x and y equal, as exact values (no NaN)? -/
def eqX (x y : XV) : Bool :=
  match x, y with
  | .inf s, .inf t => s == t
  | .fin a e, .fin b h => let r := addFin a e (-b) h; decide (r.1 = 0)
  | _, _ => false

/-- Is it a NaN? -/
def isNanX : XV → Bool
  | .nan _ => true
  | _ => false

/-- floor(log2 |x|) of a finite non-zero value. -/
def floorLog2 (n e : Int) : Int := (Nat.log2 n.natAbs : Int) + e

/-! ### Stochastic rounding (R67, R68) -/

def seedMix : Nat := 0x9e3779b97f4a7c15

/-- R67: one advance of the generator. -/
def seedNext (s : W64) : W64 :=
  let s := if s = 0 then BitVec.ofNat 64 seedMix else s
  let s := s ^^^ (s <<< 13)
  let s := s ^^^ (s >>> 7)
  s ^^^ (s <<< 17)

/-- R67: the draw of lane i, from the advanced state. -/
def seedDraw (s : W64) (i : Nat) : Nat :=
  (((s ^^^ BitVec.ofNat 64 (i * seedMix)) * BitVec.ofNat 64 0x2545f4914f6cdd1d) >>> 32).toNat

/-- R68: the state a Nib of rank q starts from. -/
def seedStart (hdr : W64) (q : Nat) : W64 := hdr ^^^ BitVec.ofNat 64 ((q + 1) * seedMix)

/-! ### Product lanes (R73) -/

/-- Trailing zeros of a positive number. -/
def trailingZeros (a : Nat) : Nat := if a = 0 then 0 else Nat.log2 (a - (a &&& (a - 1)))

/-- R73: the 96-bit lane of an exact value; the significand is odd or both fields are zero. -/
def packLane : XV → BitVec 96
  | .nan _ => BitVec.ofNat 96 (1 * 2 ^ 94)
  | .inf false => BitVec.ofNat 96 (2 * 2 ^ 94)
  | .inf true => BitVec.ofNat 96 (3 * 2 ^ 94)
  | .fin n e =>
    if n = 0 then 0
    else
      let t := trailingZeros n.natAbs
      BitVec.ofNat 96 (wrapN 80 (n / (2 ^ t : Nat)) + wrapN 14 (e + t) * 2 ^ 80)

/-- R73: the exact value of a lane. -/
def unpackLane (l : BitVec 96) : XV :=
  match bitsOf l.toNat 94 2 with
  | 0 => .fin (sInt 80 l.toNat) (sInt 14 (bitsOf l.toNat 80 14))
  | 1 => .nan false
  | 2 => .inf false
  | _ => .inf true

/-! ### Long accumulators (R75 to R80) -/

/-- R75, R80: one lane: 640 bits and four guard bits, and the class tag (0 finite, 1 NaN, 2 +∞, 3 −∞). -/
structure LaLane where
  a : BitVec 644
  cls : BitVec 2
  deriving DecidableEq, Repr

def LaLane.zero : LaLane := ⟨0, 0⟩

/-- The integer a finite lane holds. -/
def LaLane.int (l : LaLane) : Int := l.a.toInt

/-- R75: the range of a lane, on the integer A. -/
def laInRange (i : Int) : Bool := decide (-(2 ^ 639 : Int) ≤ i) && decide (i < (2 ^ 639 : Int))

def laOfXV : XV → LaLane
  | .nan _ => ⟨0, 1⟩
  | .inf false => ⟨0, 2⟩
  | .inf true => ⟨0, 3⟩
  | .fin n e => ⟨BitVec.ofInt 644 (n * 2 ^ (e + 300).toNat), 0⟩

/-- The class of a non-finite lane as an exact value; finite lanes give their exact value. -/
def LaLane.raw (l : LaLane) : XV :=
  match l.cls.toNat with
  | 0 => .fin l.int (-300)
  | 1 => .nan false
  | 2 => .inf false
  | _ => .inf true

/-- R80: the value a readout or XADD.LA kind 9 takes; a lane outside the range is an infinity of its sign. -/
def LaLane.taken (l : LaLane) : XV × Flags :=
  if l.cls = 0 ∧ laInRange l.int = false then (.inf (decide (l.int < 0)), flLaRange) else (l.raw, 0)

/-- A finite value as an integer multiple of 2^-300 (R76: it is one). -/
def laScaled (n e : Int) : Int :=
  if -300 ≤ e then n * 2 ^ (e + 300).toNat else n / (2 ^ (-300 - e).toNat : Nat)

/-- R77, R80: accumulates an exact value; the deferred range check acts on the lane. -/
def LaLane.acc (l : LaLane) (x : XV) : LaLane × Flags :=
  match l.raw, x with
  | .nan _, _ => (⟨0, 1⟩, 0)
  | _, .nan _ => (⟨0, 1⟩, 0)
  | .inf s, .inf t => if s = t then (l, 0) else (⟨0, 1⟩, flInvalid)
  | .inf _, .fin _ _ => (l, 0)
  | .fin _ _, .inf t => (⟨0, if t then 3 else 2⟩, 0)
  | .fin _ _, .fin n e =>
    let sum := l.int + laScaled n e
    if laInRange sum then (⟨BitVec.ofInt 644 sum, 0⟩, 0)
    else (⟨0, if sum < 0 then 3 else 2⟩, flLaRange)

/-- R80: adds raw slice j. Slices 0 to 18 make no range check and wrap modulo 2^644; slice 19 and 20 act under R77. -/
def LaLane.accSlice (l : LaLane) (j w : Nat) : LaLane × Flags :=
  if j ≤ 18 then
    if l.cls = 0 then (⟨l.a + BitVec.ofNat 644 (w * 2 ^ (32 * j)), 0⟩, 0) else (l, 0)
  else if j = 19 then l.acc (.fin (sInt 32 w) 308)
  else
    match w % 4 with
    | 0 => (l, 0)
    | 1 => l.acc (.nan false)
    | 2 => l.acc (.inf false)
    | _ => l.acc (.inf true)

/-- R79, R80: slice j of the lane's image. -/
def LaLane.slice (l : LaLane) (j : Nat) : Nat :=
  match (l.taken).1 with
  | .fin _ _ => if j = 20 then 0 else bitsOf l.a.toNat (32 * j) 32
  | .nan _ => if j = 20 then 1 else 0
  | .inf s => if j = 20 then (if s then 3 else 2) else 0

/-- R79: the pair form, FP32 hi and lo. -/
def LaLane.pair (l : LaLane) : Nat × Nat :=
  let x := (l.taken).1
  let hi := (roundTo .fp32 .nearestEven false 0 x).1
  match x, decodeX .fp32 hi with
  | .fin n e, .fin m h =>
    let d := addFin n e (-m) h
    (hi, (roundTo .fp32 .nearestEven false 0 (.fin d.1 d.2)).1)
  | _, _ => (hi, 0)

/-! ### EXPS and MAXRUN (R81) -/

/-- Fixed-point bounds of e^y for 0 ≤ y = Y / 2^160 < 1: the Taylor sum, rounded down and up. -/
def expSeries (y : Nat) : Nat → Nat → Nat → Nat × Nat
  | 0, _, _ => (0, 2 ^ 12)
  | n + 1, k, term =>
    let r := expSeries y n (k + 1) (term * y / (k * 2 ^ 160))
    (term + r.1, term + 1 + r.2)

/-- Squares an interval of fixed-point numbers with 160 fraction bits. -/
def expSquare (p : Nat × Nat) : Nat × Nat := (p.1 * p.1 / 2 ^ 160, p.2 * p.2 / 2 ^ 160 + 1)

/-- A lower bound of e^|x|, |x| = Y/2^153 below 128, and an upper bound, with 160 fraction bits. -/
def expBounds (y : Nat) : Nat × Nat := iter expSquare 7 (expSeries y 48 1 (2 ^ 160))

/-- A value just below e^x on which rounding down to FP32 gives the FP32 neighbour below e^x. -/
def expLower (n e : Int) : XV :=
  let a : Nat := n.natAbs * 2 ^ (e + 153).toNat / 2 ^ (-(e + 153)).toNat
  let b := expBounds a
  if n < 0 then .fin (2 ^ 680 / b.2 : Nat) (-520) else .fin (b.1 : Nat) (-160)

/-- FP32 bits ordered as a signed number. -/
def fp32Order (bits : Nat) : Int := if bitAt bits 31 then -((bits % 2 ^ 31 : Nat) : Int) else (bits : Int)

/-- R81: EXPS of FP32 bits. The neighbour below or above e^x, as the threshold of Config says: both are within 1 ulp, and
the choice is non-decreasing in x. -/
def exps (bits : Nat) : Nat × Flags :=
  match decodeX .fp32 bits with
  | .nan s => (0x7FC00000, flIf s flInvalid)
  | .inf true => (0, 0)
  | .inf false => (0x7F800000, 0)
  | .fin n e =>
    if n = 0 then (0x3F800000, 0)
    else if 0 < n ∧ 0x42B17218 ≤ bits then (0x7F800000, flOverflow)
    else
      let lo := if n < 0 ∧ 0xC2D00000 ≤ bits then 0
                else (roundTo .fp32 .towardZero false 0 (expLower n e)).1
      (if Config.expsThreshold lo ≤ fp32Order bits then lo + 1 else lo, 0)

/-- R81: MAXRUN of two FP32 values. -/
def maxrun (a b : Nat) : Nat :=
  match decodeX .fp32 a, decodeX .fp32 b with
  | .nan _, _ => 0x7FC00000
  | _, .nan _ => 0x7FC00000
  | x, y => if eqX x y then (if a = 0x80000000 then b else a) else if ltX x y then b else a

/-! ### MX block scales (R64, R72) -/

/-- emax of an MX element format (R72). -/
def Fmt.emax : Fmt → Int
  | .e4m3 => 8 | .e5m2 => 15 | .e2m1 => 2 | _ => 0

/-- R72: the scale byte of a block of values. -/
def mxScaleX (f : Fmt) (xs : List XV) : Nat :=
  if xs.any (fun x => match x with | .fin _ _ => false | _ => true) then 0xFF
  else
    let logs := xs.filterMap (fun x => match x with | .fin n e => if n = 0 then none else some (floorLog2 n e) | _ => none)
    match logs with
    | [] => 0
    | l :: ls =>
      let t := ls.foldl max l - f.emax
      ((max (-127) (min 127 t)) + 127).toNat

/-- R72: the scale byte of a block of FP32 elements. -/
def mxScale (f : Fmt) (block : List Nat) : Nat := mxScaleX f (block.map (decodeX .fp32))

/-- R72, R123: one value quantised under a scale byte. -/
def mxQuantX (f : Fmt) (m : RMode) (r scale : Nat) (x : XV) : Nat × Flags :=
  if scale = 0xFF then
    (0, match x with | .inf _ => flInvalid | .nan s => flIf s flInvalid | _ => 0)
  else
    match x with
    | .nan s => if f = .e2m1 then (0, flInvalid) else (f.nanBits, flIf s flInvalid)
    | .inf neg => ((if neg then f.signBit else 0) + f.maxBits, flSaturate)
    | .fin n e => roundTo f m true r (.fin n (e - ((scale : Int) - 127)))

/-- R72, R123: one FP32 element quantised under a scale byte. -/
def mxQuant (f : Fmt) (m : RMode) (r scale bits : Nat) : Nat × Flags := mxQuantX f m r scale (decodeX .fp32 bits)

/-- R64: the value of an element under its scale byte. -/
def mxValue (f : Fmt) (scale bits : Nat) : XV :=
  if scale = 0xFF then .nan false
  else
    match decodeX f bits with
    | .fin n e => .fin n (e + (scale : Int) - 127)
    | x => x

end Sys2Proof.Machine
end

