-- ==== Sys2Proof/Machine/Tbl.lean ====
section
/-!
DEFINITION. Sparse tables: association lists with strictly rising keys. Petals, cores, Nibs, queues, counters and memory
cells are all held so. A key that is not listed stands for the object's value at creation, which each user names.
-/

namespace Sys2Proof.Machine

/-- A table from numbers to plain data; the operations keep the keys strictly rising. -/
abbrev Tbl (α : Type) := List (Nat × α)

/-- The entry of a key. -/
def look {α : Type} : Tbl α → Nat → Option α
  | [], _ => none
  | (j, x) :: t, k => if j = k then some x else look t k

/-- The entry of a key, or a default. -/
def lookD {α : Type} (t : Tbl α) (k : Nat) (d : α) : α := (look t k).getD d

/-- Write one entry, keeping the order of the keys. -/
def put {α : Type} : Tbl α → Nat → α → Tbl α
  | [], k, x => [(k, x)]
  | (j, y) :: t, k, x =>
    if k < j then (k, x) :: (j, y) :: t
    else if k = j then (k, x) :: t
    else (j, y) :: put t k x

/-- Remove one entry. -/
def del {α : Type} : Tbl α → Nat → Tbl α
  | [], _ => []
  | (j, y) :: t, k => if j = k then t else (j, y) :: del t k

/-- Are the keys strictly rising? -/
def rising {α : Type} : Tbl α → Bool
  | [] => true
  | [_] => true
  | (j, _) :: (k, y) :: t => decide (j < k) && rising ((k, y) :: t)

/-- Change the entry of a key that is listed. -/
def upd {α : Type} (t : Tbl α) (k : Nat) (f : α → α) : Tbl α :=
  match look t k with
  | some x => put t k (f x)
  | none => t

/-- The entries whose key and value meet a test. -/
def sel {α : Type} (t : Tbl α) (p : Nat → α → Bool) : Tbl α := t.filter (fun e => p e.1 e.2)

/-- Change every entry. -/
def mapT {α : Type} (t : Tbl α) (f : Nat → α → α) : Tbl α := t.map (fun e => (e.1, f e.1 e.2))

/-- Add to a counter table; an unlisted counter is zero. -/
def bumpT (t : Tbl Nat) (k n : Nat) : Tbl Nat := put t k (lookD t k 0 + n)

/-- Memory: the bytes written, by address. An address that is not listed holds no byte the model fixes (R159). -/
abbrev Memory := List Host.Cell

/-- Store bytes from an address on. -/
def storeBytes : Memory → Nat → List Byte → Memory
  | m, _, [] => m
  | m, a, b :: bs => storeBytes (put m a b) (a + 1) bs

/-- Remove every cell in [a, a + n). -/
def dropCells (m : Memory) (a n : Nat) : Memory := m.filter (fun c => !(a ≤ c.1 && c.1 < a + n))

/-- The bytes of [a, a + n), each unlisted one as `d` of its address gives it. -/
def loadBytes (m : Memory) (d : Nat → Byte) (a : Nat) : Nat → List Byte
  | 0 => []
  | n + 1 => lookD m a (d a) :: loadBytes m d (a + 1) n

/-- The canonical form of a memory: addresses strictly rising. No listed byte can equal what an unlisted address reads
as, since that is a free value, not a byte (R159). -/
abbrev Memory.wf (m : Memory) : Prop := rising m = true

end Sys2Proof.Machine
end

