-- ==== Sys2Proof/Machine/NibState.lean ====
section
/-!
DEFINITION. The state of a Nib and of its core (02_nib_engine): registers, control registers, results in flight, streams,
scratch with its owner tags, and the sync port.
-/

namespace Sys2Proof.Machine

/-- What a descheduled Nib waits for (R53, R130). -/
inductive WaitFor
  | counter (index : Nat) (target : W64) (consume : Bool)
  | tags (mask : Nat)
  deriving DecidableEq, Repr

/-- The states of a Nib (R53). HALTED is kept beside this, since a resume returns to the state before the halt. -/
inductive NibSt
  | idle
  | running
  | waiting (w : WaitFor) (thenEnd : Bool)
  | done
  | stopped
  deriving DecidableEq, Repr

/-- What an XADD.LA or XMAC.LA adds into an accumulator, lane by lane (R77, R80, R126). -/
inductive LaSrc
  | values (xs : List XV)
  | slices (j : Nat) (ws : List Nat)
  | clear
  deriving DecidableEq, Repr

/-- A result on its way to a register (R94, R98). A v result carries the mask of the bits it writes. -/
inductive Land
  | g (r : Nat) (x : W32)
  | v (r : Nat) (mask x : VReg)
  | p (r : Nat) (lanes : List (BitVec 96))
  | la (r : Nat) (src : LaSrc)
  | cr (o : Nat) (x : W32)
  | clearFlags (mask : Nat)
  | sp (x : W32)
  deriving DecidableEq, Repr

/-- A result in flight: the bundle count from which it is visible. -/
structure Flight where
  due : Nat
  land : Land
  deriving DecidableEq, Repr

/-- A stream that is issued and not complete: the descriptor copied at issue (R44, R46) and its scratch address. -/
structure Stream where
  tag : Nat
  desc : BitVec 512
  descAt : Nat
  deriving DecidableEq, Repr

/-- A stream error detected and not yet raised (R51). -/
structure StreamErr where
  code : Nat
  tag : Nat
  descAt : Nat
  address : Nat
  deriving DecidableEq, Repr

/-- One Nib (R28 to R35, R53). -/
structure Nib where
  st : NibSt
  halted : Bool
  g : Vector W32 32
  v : Vector VReg 32
  p : Vector (Vector (BitVec 96) 64) 8
  la : Vector (Vector LaLane 64) 4
  pc : W32
  sp : W32
  stackLo : W32
  stackHi : W32
  nibSelf : W32
  coreCount : W32
  compat : Bool
  flags : Nat
  rmode : W32
  seed : W64
  timeHi : W32
  launchTag : BitVec 13
  /-- Bundles issued since launch start (R35, R61). -/
  bundles : Nat
  flight : List Flight
  /-- The g file as the read phase of the previous bundle saw it: the early reads of R98. -/
  gEarly : Vector W32 32
  /-- The scratch bytes that the previous bundle's store or frame write replaced (R98: Y reads one bundle early). -/
  undo : List Host.Cell
  /-- Syllables of the bundle being fetched, without a stop bit so far (R89). -/
  openSyls : List Syl
  streams : List Stream
  streamErr : Option StreamErr
  /-- An internal error of a unit that has not been raised yet: UNIT_FAULT (R57). The world sets it. -/
  unitErr : Option (Fin 6)
  deriving DecidableEq, Repr

/-- A Nib before its first launch; the manual gives its registers no value before a launch start sets them (R34). -/
def Nib.zero : Nib where
  st := .idle
  halted := false
  g := Vector.replicate 32 0
  v := Vector.replicate 32 0
  p := Vector.replicate 8 (Vector.replicate 64 0)
  la := Vector.replicate 4 (Vector.replicate 64 LaLane.zero)
  pc := 0
  sp := 0
  stackLo := 0
  stackHi := 0
  nibSelf := 0
  coreCount := 0
  compat := false
  flags := 0
  rmode := 0
  seed := 0
  timeHi := 0
  launchTag := 0
  bundles := 0
  flight := []
  gEarly := Vector.replicate 32 0
  undo := []
  openSyls := []
  streams := []
  streamErr := none
  unitErr := none

/-- An error in the cells of a 64-bit scratch word (R43). -/
inductive WordErr
  | single
  | uncorrectable
  deriving DecidableEq, Repr

/-- One update on its way to the sync-counter fabric (R421, R424): the petal, the counter and the signed amount. -/
structure CtrUpd where
  petal : Nat
  index : Nat
  delta : Int
  deriving DecidableEq, Repr

/-- One core (R37 to R43, R266). -/
structure Core where
  scratch : Memory
  /-- Owner tags by line; a line that is not listed has no current tag (R39). -/
  tags : Tbl Nat
  gen : Nat
  corrections : Nat
  errs : Tbl WordErr
  /-- The petal the core is assigned to (R266). -/
  petal : Option Nat
  /-- The launch that runs on the core: the petal's command tag (R175). -/
  launch : Option Nat
  /-- The regions of the image that runs: code_base, code bytes of the region (R38). -/
  codeBase : Nat
  codeBytes : Nat
  /-- Updates in the sync port, oldest first (R424: at most 32). -/
  port : List CtrUpd
  failed : Bool
  deriving DecidableEq, Repr

/-- A core of the free pool. -/
def Core.zero : Core where
  scratch := []
  tags := []
  gen := 0
  corrections := 0
  errs := []
  petal := none
  launch := none
  codeBase := 0
  codeBytes := 0
  port := []
  failed := false

end Sys2Proof.Machine
end

