-- ==== Sys2Proof/Machine/NibOps.lean ====
section
/-!
DEFINITION. The shared operations of a Nib syllable: the read phase (R90, R98), scratch accesses (R37 to R43), the effects a
syllable has, and the faults it raises (R57).
-/

namespace Sys2Proof.Machine

/-- What a syllable reads: the Nib with every due result landed, its core, and the petal's limits (R90). -/
structure Ctx where
  nib : Nib
  core : Core
  elapsed : W64
  /-- Sync counters of the petal (R420). -/
  counters : Nat
  /-- Plot slots of the petal (R133). -/
  slots : Nat
  /-- Scratch offset after the bundle (R101). -/
  nextPc : Nat

/-- A fault of a syllable: its code (R57) and the scratch offset, PDA or value of the record's address field (R61). -/
structure SylFault where
  code : Nat
  address : Nat
  deriving DecidableEq, Repr

/-- One effect of a syllable. Registers carry the latency class d of R94. -/
inductive Eff
  | g (r : Nat) (x : W32) (d : Nat)
  | v (r : Nat) (mask x : VReg) (d : Nat)
  | p (r : Nat) (lanes : List (BitVec 96))
  | la (r : Nat) (src : LaSrc)
  | cr (o : Nat) (x : W32)
  | flags (f : Flags)
  | seed (s : W64)
  | timeHi (x : W32)
  | store (addr : Nat) (bytes : List Byte)
  | frame (addr : Nat) (bytes : List Byte)
  | corrected (n : Nat)
  | sp (x : W32)
  | restore (r : Nat) (x : W32)
  | jump (t : Nat)
  | finish
  | wait (w : WaitFor)
  | stream (x : Stream)
  | signal (index : Nat) (delta : Int)
  | evpost (code : Nat) (x : W32)
  deriving DecidableEq, Repr

/-- The outcome of a syllable in its bundle: effects, a fault, or a stall of issue (R36). -/
inductive SylOut
  | ok (l : List Eff)
  | fault (f : SylFault)
  | stall
  deriving DecidableEq, Repr

/-! ### Fault codes (R57) -/
def fcIllegalBundle : Nat := 0x80
def fcIllegalOpcode : Nat := 0x81
def fcMisaligned : Nat := 0x82
def fcScratchBounds : Nat := 0x83
def fcCodeWrite : Nat := 0x84
def fcStackOverflow : Nat := 0x85
def fcStackUnderflow : Nat := 0x86
def fcStreamDescriptor : Nat := 0x87
def fcPdaOutside : Nat := 0x88
def fcCounterOutside : Nat := 0x89
def fcTrap : Nat := 0x8A
def fcMemoryUncorrectable : Nat := 0x8B
def fcScratchUncorrectable : Nat := 0x8C
def fcUnitFault : Nat := 0x8D

/-- R57: the status of a Nib fault. -/
def faultStatus (code : Nat) : Nat :=
  if code = fcPdaOutside ∨ code = fcCounterOutside then 0x06
  else if code = fcTrap then 0x0D
  else if code = fcMemoryUncorrectable ∨ code = fcScratchUncorrectable ∨ code = fcUnitFault then 0x0F
  else 0x04

def illegal : SylOut := .fault ⟨fcIllegalOpcode, 0⟩

/-- R111: a syllable whose reserved fields are not all zero raises ILLEGAL_OPCODE. -/
def legalIf (c : Bool) (r : SylOut) : SylOut := if c then r else illegal

/-! ### Registers -/

/-- R28: g0 reads as zero. -/
def gGet (f : Vector W32 32) (r : Nat) : W32 := if r = 0 then 0 else f[r]?.getD 0

/-- A g register as this bundle's read phase sees it. -/
def rdG (c : Ctx) (r : BitVec 5) : W32 := gGet c.nib.g r.toNat
/-- A g register named by a 4-bit field. -/
def rdG4 (c : Ctx) (r : BitVec 4) : W32 := gGet c.nib.g r.toNat
/-- R98: the early reads. Native mode interlocks them, so they see the newest value (R95). -/
def rdGEarly (c : Ctx) (r : Nat) : W32 := gGet (if c.nib.compat then c.nib.gEarly else c.nib.g) r
def rdV (c : Ctx) (r : Nat) : Nat := (c.nib.v[r]?.getD 0).toNat
/-- The 64-bit value g[b+1]:g[b]. -/
def rdGPair (c : Ctx) (r : Nat) : W64 := (rdGEarly c (r + 1)) ++ (rdGEarly c r)

/-- A write of the whole of a v register. -/
def effV (r : Nat) (x : Nat) (d : Nat) : Eff := .v r (BitVec.allOnes 2048) (BitVec.ofNat 2048 x) d

/-- A write of `n` elements of width `w` from element `k` on; the others keep their values. -/
def effVPart (r w k n : Nat) (xs : List Nat) (d : Nat) : Eff :=
  .v r (BitVec.ofNat 2048 (elemMask w k n)) (BitVec.ofNat 2048 (ofElems w xs * 2 ^ (w * k))) d

/-- R32: a control register read. Reserved offsets read zero (R117). -/
def readCr (c : Ctx) (o : Nat) : W32 :=
  let n := c.nib
  match o with
  | 0x00 => n.pc
  | 0x01 => n.sp
  | 0x02 => n.stackLo
  | 0x03 => n.stackHi
  | 0x04 => n.nibSelf
  | 0x05 => n.coreCount
  | 0x06 => if n.compat then 1 else 0
  | 0x07 => BitVec.ofNat 32 n.flags
  | 0x08 => n.rmode
  | 0x09 => n.seed.setWidth 32
  | 0x0A => (n.seed >>> 32).setWidth 32
  | 0x0B => c.elapsed.setWidth 32
  | 0x0C => n.timeHi
  | 0x0D => BitVec.ofNat 32 ((n.streams.map (fun t => 2 ^ t.tag)).foldl (· ||| ·) 0)
  | 0x0E => n.launchTag.setWidth 32
  | _ => 0

/-- R65: the rounding mode of rmode. -/
def curMode (c : Ctx) : RMode := RMode.ofCode (bitsOf c.nib.rmode.toNat 0 3)
/-- R65: rmode.fp8_sat. -/
def curSat (c : Ctx) : Bool := bitAt c.nib.rmode.toNat 3

/-- R67: the generator state after the advance that a stochastic syllable makes, and the effect that stores it. -/
def drawState (c : Ctx) : W64 := seedNext c.nib.seed
def seedEff (c : Ctx) (m : RMode) : List Eff := if m = .stochastic then [.seed (drawState c)] else []
/-- R67: the draw of a lane. -/
def laneDraw (c : Ctx) (m : RMode) (i : Nat) : Nat := if m = .stochastic then seedDraw (drawState c) i else 0

/-! ### Scratch (R37 to R43) -/

/-- R39: is the line's owner tag current? -/
def lineCurrent (k : Core) (line : Nat) : Bool := look k.tags line == some k.gen

/-- R39: a byte of scratch; a line that is not current reads as zero. -/
def scratchByte (k : Core) (a : Nat) : Byte := if lineCurrent k (a / 64) then lookD k.scratch a 0 else 0

def scratchRead (k : Core) (a n : Nat) : List Byte := (List.range n).map (fun i => scratchByte k (a + i))

/-- The 8-byte words that [a, a + n) touches. -/
def wordsOf (a n : Nat) : List Nat := if n = 0 then [] else (List.range ((a + n - 1) / 8 - a / 8 + 1)).map (· + a / 8)

/-- The errors of the words that an access meets in current lines (R43). -/
def scratchErrs (k : Core) (a n : Nat) : List WordErr :=
  (wordsOf a n).filterMap (fun w => if lineCurrent k (w / 8) then look k.errs w else none)

def hasUncorrectable (l : List WordErr) : Bool := l.any (· == .uncorrectable)
def countSingle (l : List WordErr) : Nat := (l.filter (· == .single)).length

/-- Makes a line current: its other bytes read as zero from then on (R39), and its words carry fresh check bits (R43). -/
def ownLine (k : Core) (line : Nat) : Core :=
  if lineCurrent k line then k
  else { k with
    scratch := dropCells k.scratch (64 * line) 64
    errs := sel k.errs (fun w _ => w / 8 != line)
    tags := put k.tags line k.gen }

/-- The lines that [a, a + n) touches. -/
def linesOf (a n : Nat) : List Nat := if n = 0 then [] else (List.range ((a + n - 1) / 64 - a / 64 + 1)).map (· + a / 64)

/-- A write of bytes into scratch. Errors of the words it covers wholly are cleared, and those of a word it covers in
part, since that word is read, corrected, merged and written back (R43). -/
def scratchWrite (k : Core) (a : Nat) (bs : List Byte) : Core :=
  let k := (linesOf a bs.length).foldl ownLine k
  { k with
    scratch := storeBytes k.scratch a bs
    errs := sel k.errs (fun w _ => !(wordsOf a bs.length).contains w) }

/-- R37: the checks of an M access. -/
def checkAccess (ea : W32) (n : Nat) : Option SylFault :=
  if ea.toNat / 2 ^ 20 ≠ 0 then some ⟨fcScratchBounds, ea.toNat⟩
  else if ea.toNat % n ≠ 0 then some ⟨fcMisaligned, ea.toNat⟩
  else none

/-- R37, R43: a load of n bytes. -/
def loadScratch (c : Ctx) (ea : W32) (n : Nat) (k : List Byte → List Eff) : SylOut :=
  match checkAccess ea n with
  | some f => .fault f
  | none =>
    let es := scratchErrs c.core ea.toNat n
    if hasUncorrectable es then .fault ⟨fcScratchUncorrectable, ea.toNat⟩
    else
      let s := countSingle es
      .ok (k (scratchRead c.core ea.toNat n) ++ (if s = 0 then [] else [.corrected s, .flags flScratch]))

/-- R37, R38, R43: a store of bytes. -/
def storeScratch (c : Ctx) (ea : W32) (bs : List Byte) : SylOut :=
  match checkAccess ea bs.length with
  | some f => .fault f
  | none =>
    if overlaps ea.toNat bs.length c.core.codeBase c.core.codeBytes then .fault ⟨fcCodeWrite, ea.toNat⟩
    else
      let es := if bs.length < 8 then scratchErrs c.core ea.toNat bs.length else []
      if hasUncorrectable es then .fault ⟨fcScratchUncorrectable, ea.toNat⟩
      else
        let s := countSingle es
        .ok (.store ea.toNat bs :: (if s = 0 then [] else [.corrected s, .flags flScratch]))

/-- R98: the bytes a Y syllable reads. In compatibility mode it reads one bundle early, before the previous bundle's own
stores. -/
def scratchEarly (c : Ctx) (a n : Nat) : List Byte :=
  let bs := scratchRead c.core a n
  if c.nib.compat then (List.range n).map (fun i => lookD c.nib.undo (a + i) (bs[i]?.getD 0)) else bs

/-! ### Landing (R35, R94, R98) -/

def mapLanes {α : Type} (f : Nat → LaLane → α) (x : Vector LaLane 64) : List α :=
  (List.range 64).map (fun i => f i (x[i]?.getD LaLane.zero))

def lanesOf (l : List LaLane) : Vector LaLane 64 := Vector.ofFn (fun i : Fin 64 => l[i.val]?.getD LaLane.zero)
def plansOf (l : List (BitVec 96)) : Vector (BitVec 96) 64 := Vector.ofFn (fun i : Fin 64 => l[i.val]?.getD 0)

/-- R77, R80: an accumulator after an accumulate, with the flags it sets. -/
def accumulate (x : Vector LaLane 64) : LaSrc → Vector LaLane 64 × Flags
  | .clear => (Vector.replicate 64 LaLane.zero, 0)
  | .values xs =>
    let r := mapLanes (fun i l => LaLane.acc l (xs[i]?.getD (.fin 0 0))) x
    (lanesOf (r.map (·.1)), (r.map (·.2)).foldl (· ||| ·) 0)
  | .slices j ws =>
    let r := mapLanes (fun i l => LaLane.accSlice l j (ws[i]?.getD 0)) x
    (lanesOf (r.map (·.1)), (r.map (·.2)).foldl (· ||| ·) 0)

/-- Writes of control registers (R32, R117): RO and RSVD offsets ignore the write. -/
def writeCr (n : Nib) (o : Nat) (x : W32) : Nib :=
  match o with
  | 0x01 => { n with sp := x }
  | 0x08 => { n with rmode := x &&& 0xF }
  | 0x09 => { n with seed := ((n.seed >>> 32).setWidth 32 : W32) ++ x }
  | 0x0A => { n with seed := x ++ (n.seed.setWidth 32 : W32) }
  | _ => n

/-- A result reaches its register. A write to g0 is discarded (R28). -/
def landOne (n : Nib) : Land → Nib
  | .g r x => if r = 0 then n else { n with g := n.g.setIfInBounds r x }
  | .v r m x => { n with v := n.v.setIfInBounds r (((n.v[r]?.getD 0) &&& ~~~m) ||| (x &&& m)) }
  | .p r ls => { n with p := n.p.setIfInBounds r (plansOf ls) }
  | .la r src =>
    let x := accumulate (n.la[r]?.getD (Vector.replicate 64 LaLane.zero)) src
    { n with la := n.la.setIfInBounds r x.1, flags := n.flags ||| x.2 }
  | .cr o x => writeCr n o x
  | .clearFlags m => { n with flags := n.flags &&& (255 ^^^ (m &&& 255)) }
  | .sp x => { n with sp := x }

/-- Results due at the present bundle count reach their registers in issue order (R35, R98). -/
def landDue (n : Nib) : Nib :=
  let n' := (n.flight.filter (fun f => f.due ≤ n.bundles)).foldl (fun a f => landOne a f.land) n
  { n' with flight := n.flight.filter (fun f => n.bundles < f.due) }

/-- Every result in flight lands, before DONE or STOPPED (R58, R129). -/
def landAll (n : Nib) : Nib :=
  let n' := n.flight.foldl (fun a f => landOne a f.land) n
  { n' with flight := [] }

/-- R35: is an X-class result for this register still in flight? -/
def stalePending (n : Nib) (la : Bool) (r : Nat) : Bool :=
  n.flight.any (fun f => match f.land with
    | .p q _ => !la && q == r
    | .la q _ => la && q == r
    | _ => false)

/-- R33, R35, R97: the flag an early read of a p or la register sets. -/
def staleFlag (c : Ctx) (la : Bool) (r : Nat) : Flags := flIf (!c.nib.compat && stalePending c.nib la r) flStale

end Sys2Proof.Machine
end

