-- ==== Sys2Proof/Machine/NibCtl.lean ====
section
/-!
DEFINITION. The B-class syllables: branches, calls and the end and trap syllables (R100 to R105, R128), and the Y-class
syllables: streams, fences, sync counters and event posts (R44 to R47, R130, R131).
-/

namespace Sys2Proof.Machine

/-! ### B class -/

/-- R87: a target in halfwords from the first byte of the bundle. -/
def relTarget (c : Ctx) (w off : Nat) : Nat := (c.nib.pc + sext32 w off * 2).toNat

/-- R128: x must be 0. -/
def semEnd (_c : Ctx) (x : BitVec 4) : SylOut := legalIf (x == 0) (.ok [.finish])
/-- R128: the address field of the record holds x. -/
def semTrap (_c : Ctx) (x : BitVec 4) : SylOut := .fault ⟨fcTrap, x.toNat⟩

/-- R101, R102: the size of a frame whose saved mask is given. -/
def frameSize (mask : Nat) : Nat := alignUp (16 + 4 * popN 32 mask) 16

/-- R102: the bytes of a frame. -/
def frameBytes (c : Ctx) (mask sp : Nat) : List Byte :=
  let saved := (onesOf 32 mask).flatMap (fun i => leBytes 4 (gGet c.nib.g i).toNat)
  let pad := frameSize mask - 16 - saved.length
  leBytes 4 c.nextPc ++ leBytes 4 mask ++ leBytes 4 sp ++ leBytes 4 0 ++ saved ++ List.replicate pad 0

/-- R101: writes the frame, moves sp and branches; the checks on sp come before any write. -/
def callOp (c : Ctx) (maskReg : BitVec 5) (target : Nat) : SylOut :=
  let mask := (rdG c maskReg).toNat / 2 * 2
  let sp := c.nib.sp.toNat
  let size := frameSize mask
  if sp % 16 ≠ 0 ∨ sp < c.nib.stackLo.toNat ∨ c.nib.stackHi.toNat < sp then .fault ⟨fcStackOverflow, sp⟩
  else if sp < c.nib.stackLo.toNat + size then .fault ⟨fcStackOverflow, sp⟩
  else .ok [.frame (sp - size) (frameBytes c mask sp), .sp (BitVec.ofNat 32 (sp - size)), .jump target]

/-- R101, R128. -/
def semCall (c : Ctx) (f : LK) : SylOut := callOp c f.a (relTarget c 15 f.off.toNat)
/-- R100, R101: imm10 must be zero; an odd target raises MISALIGNED. -/
def semCallr (c : Ctx) (f : LY) : SylOut :=
  legalIf (f.imm == 0)
    (let t := (rdG c f.b).toNat
     if t % 2 = 1 then .fault ⟨fcMisaligned, t⟩ else callOp c f.a t)

/-- R103: restores the registers of the frame at sp, pops it and returns. -/
def semRet (c : Ctx) (x : BitVec 4) : SylOut :=
  legalIf (x == 0)
    (let sp := c.nib.sp.toNat
     let hi := c.nib.stackHi.toNat
     if sp % 16 ≠ 0 ∨ sp < c.nib.stackLo.toNat ∨ hi < sp + 16 then .fault ⟨fcStackUnderflow, sp⟩
     else
       let mask := leNat (scratchRead c.core (sp + 4) 4) / 2 * 2
       let size := frameSize mask
       if hi < sp + size then .fault ⟨fcStackUnderflow, sp⟩
       else
         let es := scratchErrs c.core sp size
         let ret := leNat (scratchRead c.core sp 4)
         if hasUncorrectable es then .fault ⟨fcScratchUncorrectable, sp⟩
         else if ret % 2 = 1 then .fault ⟨fcMisaligned, ret⟩
         else
           let rs := (onesOf 32 mask).mapIdx (fun k i =>
             Eff.restore i (BitVec.ofNat 32 (leNat (scratchRead c.core (sp + 16 + 4 * k) 4))))
           let n := countSingle es
           .ok (rs ++ [.sp (BitVec.ofNat 32 (sp + size)), .jump ret] ++
             (if n = 0 then [] else [.corrected n, .flags flScratch])))

/-- A branch taken when a condition holds. -/
def branchIf (b : Bool) (t : Nat) : SylOut := .ok (if b then [.jump t] else [])

/-- R128. -/
def semBr (c : Ctx) (off : BitVec 20) : SylOut := branchIf true (relTarget c 20 off.toNat)
/-- R128: the condition on signed g[a]; 6 and 7 are reserved. -/
def semBc (c : Ctx) (f : LC) : SylOut :=
  let x := (rdG c f.a).toInt
  let t := relTarget c 12 f.off.toNat
  match f.cond.toNat with
  | 0 => branchIf (decide (x = 0)) t
  | 1 => branchIf (decide (x ≠ 0)) t
  | 2 => branchIf (decide (x < 0)) t
  | 3 => branchIf (decide (0 ≤ x)) t
  | 4 => branchIf (decide (0 < x)) t
  | 5 => branchIf (decide (x ≤ 0)) t
  | _ => illegal
/-- R128: a and imm10 must be 0; an odd target raises MISALIGNED. -/
def semBrr (c : Ctx) (f : LY) : SylOut :=
  legalIf (f.a == 0 && f.imm == 0)
    (let t := (rdG c f.b).toNat
     if t % 2 = 1 then .fault ⟨fcMisaligned, t⟩ else branchIf true t)
/-- R128: cond must be 0. -/
def semDbnz (c : Ctx) (f : LC) : SylOut :=
  let x := rdG c f.a - 1
  legalIf (f.cond == 0)
    (.ok (.g f.a.toNat x 1 :: (if x ≠ 0 then [.jump (relTarget c 12 f.off.toNat)] else [])))
/-- R128: a compare and branch. -/
def cmpBranch (c : Ctx) (f : LY) (p : W32 → W32 → Bool) : SylOut :=
  branchIf (p (rdG c f.a) (rdG c f.b)) (relTarget c 10 f.imm.toNat)
/-- R128. -/
def semBeq (c : Ctx) (f : LY) : SylOut := cmpBranch c f (fun x y => x == y)
/-- R128. -/
def semBne (c : Ctx) (f : LY) : SylOut := cmpBranch c f (fun x y => x != y)
/-- R128: signed. -/
def semBlt (c : Ctx) (f : LY) : SylOut := cmpBranch c f (fun x y => x.slt y)
/-- R128: unsigned. -/
def semBltu (c : Ctx) (f : LY) : SylOut := cmpBranch c f (fun x y => x.ult y)

/-! ### Streams (R44 to R46) -/

/-- The fields of a stream descriptor (R44). -/
structure StreamD where
  op : Nat
  tag : Nat
  signal : Bool
  scratch : Nat
  pda : Nat
  run : Nat
  c1 : Nat
  c2 : Nat
  ss1 : Nat
  ss2 : Nat
  ps1 : Int
  ps2 : Int
  counter : Nat
  inc : Nat
  deriving DecidableEq, Repr

/-- R44: reads the fields. -/
def streamD (d : Nat) : StreamD where
  op := fld d 0 0 4
  tag := fld d 0 4 4
  signal := fld d 0 8 1 == 1
  scratch := fld d 4 0 32
  pda := fld d 8 0 48
  run := fld d 0x10 0 32
  c1 := fld d 0x14 0 16
  c2 := fld d 0x14 16 16
  ss1 := fld d 0x18 0 32
  ss2 := fld d 0x1C 0 32
  ps1 := sInt 64 (fld d 0x20 0 64)
  ps2 := sInt 64 (fld d 0x28 0 64)
  counter := fld d 0x30 0 32
  inc := fld d 0x34 0 32

/-- R47: the runs in row-major order: scratch offset and PDA of the first byte of each. -/
def streamRuns (d : StreamD) : List (Nat × Int) :=
  (List.range d.c2).flatMap (fun s => (List.range d.c1).map (fun r =>
    (d.scratch + s * d.ss2 + r * d.ss1, (d.pda : Int) + s * d.ps2 + r * d.ps1)))

/-- R44: reserved fields and ranges. -/
def streamFormat (raw : Nat) (d : StreamD) : Bool :=
  (d.op == 1 || d.op == 2) && fld raw 0 9 23 == 0 && fld raw 8 48 16 == 0 && fld raw 0x38 0 64 == 0 &&
  d.scratch % 64 == 0 && decide (d.scratch < 2 ^ 20) && d.pda % 64 == 0 &&
  d.run % 64 == 0 && decide (64 ≤ d.run) && decide (d.run ≤ 1048576) &&
  decide (1 ≤ d.c1) && decide (1 ≤ d.c2) && d.ss1 % 64 == 0 && d.ss2 % 64 == 0 &&
  decide (d.ps1 % 64 = 0) && decide (d.ps2 % 64 = 0) &&
  (!d.signal || (decide (1 ≤ d.inc) && decide (d.inc < 2 ^ 31)))

/-- R134: is a PDA inside the petal's slots or its hub page? -/
def pdaGranted (slots : Nat) (a : Int) : Bool :=
  (decide (0 ≤ a) && decide (a < (slots * 2 ^ 30 : Nat))) || (decide (0xFFFFFFFF8000 ≤ a) && decide (a < 2 ^ 48))

/-- Is every byte of [a, a + n) inside the petal's slots, or every byte inside its hub page? -/
def pdaRange (slots : Nat) (a : Int) (n : Nat) : Bool :=
  pdaGranted slots a && pdaGranted slots (a + n - 1) &&
    (decide (a + n ≤ (slots * 2 ^ 30 : Nat)) || decide (0xFFFFFFFF8000 ≤ a))

/-- R45: the checks of a descriptor, in the order in which the manual lists them. -/
def streamCheck (c : Ctx) (raw descAt : Nat) : Option SylFault :=
  let d := streamD raw
  if !streamFormat raw d then some ⟨fcStreamDescriptor, descAt⟩
  else
    let runs := streamRuns d
    match runs.find? (fun r => decide (2 ^ 20 < r.1 + d.run)) with
    | some r => some ⟨fcScratchBounds, r.1⟩
    | none =>
      match runs.find? (fun r => d.op == 1 && overlaps r.1 d.run c.core.codeBase c.core.codeBytes) with
      | some r => some ⟨fcCodeWrite, r.1⟩
      | none =>
        match runs.find? (fun r => !pdaRange c.slots r.2 d.run) with
        | some r => some ⟨fcPdaOutside, wrapN 64 r.2⟩
        | none =>
          if d.signal && decide (c.counters ≤ d.counter) then some ⟨fcCounterOutside, 0⟩ else none

/-- R37, R44 to R46: issues the stream whose descriptor lies at g[a]; a pending tag stalls issue before any check. -/
def semStream (c : Ctx) (f : LY) : SylOut :=
  legalIf (f.b == 0 && f.imm == 0)
    (let at_ := rdGEarly c f.a.toNat
     match checkAccess at_ 64 with
     | some e => .fault e
     | none =>
       let es := scratchErrs c.core at_.toNat 64
       if hasUncorrectable es then .fault ⟨fcScratchUncorrectable, at_.toNat⟩
       else
         let raw := leNat (scratchEarly c at_.toNat 64)
         if c.nib.streams.any (fun t => t.tag == (streamD raw).tag) then .stall
         else
           match streamCheck c raw at_.toNat with
           | some e => .fault e
           | none =>
             let n := countSingle es
             .ok (.stream ⟨(streamD raw).tag, BitVec.ofNat 512 raw, at_.toNat⟩ ::
               (if n = 0 then [] else [.corrected n, .flags flScratch])))

/-! ### Fences, counters and events (R130) -/

/-- R130: waits until no tag of this Nib is pending. -/
def semSfencea (_c : Ctx) (x : BitVec 4) : SylOut := legalIf (x == 0) (.ok [.wait (.tags 0xFFFF)])
/-- R130. -/
def semSfencet (_c : Ctx) (x : BitVec 4) : SylOut := .ok [.wait (.tags (2 ^ x.toNat))]
/-- R130: bits [31:16] of g[a] are ignored. -/
def semSfence (c : Ctx) (f : LY) : SylOut :=
  legalIf (f.b == 0 && f.imm == 0) (.ok [.wait (.tags ((rdGEarly c f.a.toNat).toNat % 65536))])

/-- R420: a Y syllable on a counter outside the petal raises COUNTER_OUTSIDE_PETAL. -/
def onCounter (c : Ctx) (a : BitVec 5) (k : Nat → SylOut) : SylOut :=
  let i := (rdGEarly c a.toNat).toNat
  if i < c.counters then k i else .fault ⟨fcCounterOutside, 0⟩

/-- R130: adds sext(g[b]). -/
def semSignal (c : Ctx) (f : LY) : SylOut :=
  legalIf (f.imm == 0) (onCounter c f.a (fun i => .ok [.signal i (rdGEarly c f.b.toNat).toInt]))
/-- R130: adds zext(imm10). -/
def semSignali (c : Ctx) (f : LY) : SylOut :=
  legalIf (f.b == 0) (onCounter c f.a (fun i => .ok [.signal i f.imm.toNat]))
/-- R130: subtracts sext(g[b]). -/
def semConsume (c : Ctx) (f : LY) : SylOut :=
  legalIf (f.imm == 0) (onCounter c f.a (fun i => .ok [.signal i (-(rdGEarly c f.b.toNat).toInt)]))
/-- R130: b must be even. -/
def semWait (c : Ctx) (f : LY) : SylOut :=
  legalIf (f.imm == 0 && decide (f.b.toNat % 2 = 0))
    (onCounter c f.a (fun i => .ok [.wait (.counter i (rdGPair c f.b.toNat) false)]))
/-- R130: b must be even. -/
def semWaitc (c : Ctx) (f : LY) : SylOut :=
  legalIf (f.imm == 0 && decide (f.b.toNat % 2 = 0))
    (onCounter c f.a (fun i => .ok [.wait (.counter i (rdGPair c f.b.toNat) true)]))
/-- R130, R179: posts an event with the code imm10 and the value g[a]. -/
def semEvpost (c : Ctx) (f : LY) : SylOut :=
  legalIf (f.b == 0) (.ok [.evpost f.imm.toNat (rdGEarly c f.a.toNat)])

end Sys2Proof.Machine
end

