-- ==== Sys2Proof/Machine/MgtState.lean ====
section
/-!
DEFINITION. The state of security and debug, of power levels, of the Inkstand and of the Quill cores, of start-up and the
board, of the interrupt controller and of the JTAG port (17 to 23).
-/

namespace Sys2Proof.Machine

/-! ### Lifecycle, flash and debug (18, 19) -/

/-- R473. -/
inductive Lifecycle
  | manufacture | deployed | retired
  deriving DecidableEq, Repr

/-- HFI_STATUS.lifecycle (R289). -/
def Lifecycle.code : Lifecycle → Nat
  | .manufacture => 0 | .deployed => 1 | .retired => 2

/-- What a region of the flash holds: what manufacture put there, bytes written since, or nothing (R518). -/
inductive Flash
  | factory
  | written (bytes : List Byte)
  | erased
  deriving DecidableEq, Repr

/-- An image slot of the flash, and whether its image is verified and may be activated (R524). -/
structure FwSlot where
  content : Flash
  verified : Bool
  /-- The slot is no fallback until an image in it has booted (R524). -/
  fallback : Bool
  deriving DecidableEq, Repr

/-- An open debug session (R475, R478). -/
structure DbgSess where
  level : Nat
  since : W64
  seconds : Nat
  deriving DecidableEq, Repr

/-- The live nonce of a page (R477). -/
structure DbgNonce where
  bytes : List Byte
  since : W64
  deriving DecidableEq, Repr

/-- A D2 session that is being opened (R481): its length, the start of step 2, and whether its work has been stopped. -/
structure D2Open where
  seconds : Nat
  since : W64
  forced : Bool
  deriving DecidableEq, Repr

/-- Lifecycle, fuses, flash and debug sessions. -/
structure Sec where
  lifecycle : Lifecycle
  identityOff : Bool
  /-- The fused hash of the operator debug key (R479). -/
  operatorKey : Option (List Byte)
  /-- The anti-rollback counter (R470). -/
  rollback : Nat
  slotA : FwSlot
  slotB : FwSlot
  /-- R469, R518: the boot preference: false A, true B. -/
  bootPref : Bool
  /-- The calibration table in flash, and the one in force (R523). -/
  calFlash : Flash
  calLoaded : Flash
  /-- A section failed at boot (R523). -/
  calDefaults : Bool
  /-- By mailbox page. -/
  sessions : Tbl DbgSess
  nonces : Tbl DbgNonce
  /-- Bytes of the authorisation buffer loaded since the challenge (R477). -/
  authBuf : Tbl Byte
  d2 : Option D2Open
  deriving DecidableEq, Repr

/-- The state of a module as it ships (R473, R560): DEPLOYED, firmware in slot A, which is tried first (R469), and slot B empty. -/
def Sec.new : Sec where
  lifecycle := .deployed
  identityOff := false
  operatorKey := none
  rollback := 0
  slotA := ⟨.factory, true, true⟩
  slotB := ⟨.erased, false, true⟩
  bootPref := false
  calFlash := .factory
  calLoaded := .factory
  calDefaults := false
  sessions := []
  nonces := []
  authBuf := []
  d2 := none

/-! ### Power (20) -/

/-- A level request that a debug session defers (R485): kind, unit, level, page. -/
structure Deferred where
  kind : Nat
  unit : Nat
  level : Nat
  auto : Bool
  page : Nat
  deriving DecidableEq, Repr

/-- Power levels and rate targets. Units are keyed by kind × 4096 + number (R490). -/
structure Pwr where
  /-- A unit that is not listed is at W0. -/
  levels : Tbl Nat
  /-- Held levels; a unit that is not listed is under idle-timer control (R494). -/
  held : Tbl Nat
  deferred : List Deferred
  module : Nat
  moduleHeld : Option Nat
  /-- Set targets by rail (R504), and the limits of R505; an unlisted target is 1,600. -/
  targets : Tbl Nat
  /-- A thermal limit that is not listed does not limit. -/
  thermal : Tbl Nat
  power : Option Nat
  /-- Rails whose die has had fewer than 8 valid sensors since the last module reset (R542). -/
  blind : Tbl Bool
  /-- Rails at 105 °C and 0.65 V whose condition has been logged (R505). -/
  floorLogged : Tbl Bool
  /-- HBM is parked in LPDDR frames (R502). -/
  parked : Bool
  /-- When a unit entered its listed level, when the module last woke, and when the limits last moved (R493, R499, R505). -/
  since : Tbl W64
  wokeAt : W64
  thermalAt : Tbl W64
  powerAt : W64
  deriving DecidableEq, Repr

def Pwr.new : Pwr where
  levels := []
  held := []
  deferred := []
  module := 0
  moduleHeld := none
  targets := []
  thermal := []
  power := none
  blind := []
  floorLogged := []
  parked := false
  since := []
  wokeAt := 0
  thermalAt := []
  powerAt := 0

/-! ### The Quill cores and the Inkstand (10, 21) -/

/-- A Quill core (R260 to R262). -/
inductive QuillSt
  | inService
  /-- Halted and reset; its journal waits for a sibling (true), or has been taken over (false). -/
  | crashed (journal : Bool)
  | removed (journal : Bool)
  deriving DecidableEq, Repr

/-- One Quill core. -/
structure Quill where
  st : QuillSt
  beat : W64
  crashes : List W64
  deriving DecidableEq, Repr

def Quill.new : Quill := ⟨.inService, 0, []⟩

/-- A sample of every sensor (R512, R513): temperatures with their status, voltages with their fault bit, and rails as
currents in mA and voltages in mV. -/
structure Sample where
  time : W64
  inputMv : Nat
  inputMa : Nat
  inputMw : Nat
  temps : List (BitVec 18)
  volts : List (BitVec 17)
  rails : List (BitVec 48)
  deriving DecidableEq, Repr

def Sample.none : Sample := ⟨0, 0, 0, 0, [], [], []⟩

/-- A firmware update that holds the path (R526): over the mailbox, or over the sideband with the component that the update
agent serves; where its image passed step 1 of R524, the slot that is being written. -/
structure Update where
  sideband : Bool
  writing : Option (List Byte)
  deriving DecidableEq, Repr

/-- What the sideband keeps (R527). -/
structure Sideband where
  eid : BitVec 8
  tid : BitVec 8
  /-- The event receiver's address; none where no SetEventReceiver has named one. -/
  receiver : Option (BitVec 8)
  /-- The I3C dynamic address; without one the sideband is on SMBus at 0x5A. -/
  i3c : Option (BitVec 7)
  deriving DecidableEq, Repr

/-- The Inkstand. -/
structure Ink where
  quills : Tbl Quill
  /-- R511. -/
  refreshed : W64
  restarting : Option W64
  /-- The moment of ready, or of the last Quill-core crash or Inkstand restart since (R470). -/
  quietAt : W64
  /-- Heartbeat misses latched during a restart. -/
  latchedMiss : List Nat
  sample : Sample
  latched : BitVec 8
  active : BitVec 8
  /-- R516: what each petal had used of each rail by the last interval's end, by petal × 64 + rail, and Elapsed-counter steps
  that launches ended since then have run, by petal × 4 + die. -/
  used : Tbl Nat
  dieSteps : Tbl Nat
  intervalAt : W64
  update : Option Update
  /-- Programming the flash fails. The world sets it. -/
  flashFails : Bool
  side : Sideband
  deriving DecidableEq, Repr

def Ink.new : Ink where
  quills := []
  refreshed := 0
  restarting := none
  quietAt := 0
  latchedMiss := []
  sample := Sample.none
  latched := 0
  active := 0
  used := []
  dieSteps := []
  intervalAt := 0
  update := none
  flashFails := false
  side := ⟨0, 0, none, none⟩

/-! ### Start-up and the board (22, 23) -/

/-- Where the module stands between power and service (R529 to R533). -/
inductive Stage
  /-- No valid input. -/
  | off
  /-- The always-on domain runs; the regulators are not up. -/
  | aux
  /-- Regulators and the Inkstand ROM are up; t0 has not come. -/
  | rom
  /-- A slot is being booted; `second` is the other slot's attempt (R532). -/
  | booting (second : Bool)
  | service
  | recovery
  /-- THERMTRIP_N is held (R543). -/
  | tripped
  deriving DecidableEq, Repr

/-- The cause of a module reset (R534). -/
inductive ResetCause
  | input | thermtrip | command | exitW4
  deriving DecidableEq, Repr

/-- The board side of the module. -/
structure Board where
  stage : Stage
  cause : ResetCause
  /-- t0 of the present start (R529). -/
  t0 : W64
  /-- The slot being tried, or that booted: false A, true B. -/
  slot : Bool
  readyAt : W64
  /-- R470 has acted in this service. -/
  raised : Bool
  /-- A module reset is due 10 ms after this moment (R535). -/
  resetAt : Option W64
  inputValid : Bool
  /-- The input has exceeded 60 V (R539). -/
  overVoltage : Bool
  /-- The input must lie within 40.0 to 58.0 V for 100 ms before the module starts again (R539). -/
  needReturn : Bool
  pwrEn : Bool
  /-- PERST_N is asserted. -/
  perst : Bool
  /-- REFCLK_SEL as sampled at t0 (R554). -/
  refSel : Bool
  /-- The references that are good: 100 MHz from the baseboard, 100 MHz on the module, 156.25 MHz (R541). -/
  refGood : BitVec 3
  /-- The source from which memory PHYs and the elapsed counter run: 0 baseboard, 1 on-module, 2 the internal oscillator. -/
  refUsed : Nat
  /-- Outputs latched off (R540). -/
  latched : BitVec 34
  deriving DecidableEq, Repr

/-- The board before the first input: PERST_N is asserted and every reference good. -/
def Board.new : Board where
  stage := .off
  cause := .input
  t0 := 0
  slot := false
  readyAt := 0
  raised := false
  resetAt := none
  inputValid := false
  overVoltage := false
  needReturn := false
  pwrEn := true
  perst := true
  refSel := false
  refGood := 7
  refUsed := 0
  latched := 0

/-! ### The interrupt controller (17) -/

/-- A source (R437); `by_` is the processor that claimed it, `raises` the counted raises and `masks` the maskings of R441. -/
structure IrqSrc where
  priority : Nat
  target : Nat
  enable : Bool
  pending : Bool
  active : Bool
  stuck : Bool
  latched : Bool
  overrun : Nat
  by_ : Nat
  raises : List W64
  masks : List W64
  deriving DecidableEq, Repr

def IrqSrc.new : IrqSrc where
  priority := 0
  target := 0x7F
  enable := false
  pending := false
  active := false
  stuck := false
  latched := false
  overrun := 0
  by_ := 0
  raises := []
  masks := []

/-- A processor's part (R437): threshold, its stack of (priority, source) with the top first, and IRQ_PFAULT. -/
structure IrqProc where
  threshold : Nat
  stack : List (Nat × Nat)
  pfault : W32
  deriving DecidableEq, Repr

def IrqProc.new : IrqProc := ⟨0, [], 0⟩

/-- The controller. -/
structure Irq where
  srcs : Tbl IrqSrc
  procs : Tbl IrqProc
  deriving DecidableEq, Repr

/-! ### JTAG (R483) -/

/-- The register that the TAP's instruction selects. -/
inductive JtagIr
  | idcode | bypass | samplePreload | extest | intest | clamp | highz
  deriving DecidableEq, Repr

/-- What the JTAG port does to the pins. -/
inductive JtagPins
  | untouched | boundary | clamped | highz
  deriving DecidableEq, Repr

/-- The TAP: the instruction asked for, the register that it selects, and the pins. -/
structure Jtag where
  ir : JtagIr
  selected : JtagIr
  pins : JtagPins
  deriving DecidableEq, Repr

/-- IEEE 1149.1: after a reset the IDCODE register is selected. -/
def Jtag.new : Jtag := ⟨.idcode, .idcode, .untouched⟩

end Sys2Proof.Machine
end

