-- ==== Sys2Proof/Machine/NetState.lean ====
section
/-!
DEFINITION. The state of the Ethernet complex and of the RDMA engine (15, 16).
-/

namespace Sys2Proof.Machine

/-! ### Frames -/

/-- A RoCE v2 packet as the RDMA engine parses it (R392, R395). -/
structure RocePkt where
  dst : BitVec 128
  src : BitVec 128
  opcode : BitVec 8
  ackReq : Bool
  destQp : BitVec 24
  psn : BitVec 24
  /-- The frame arrived marked Congestion Experienced (R411). -/
  ce : Bool
  icrcOk : Bool
  /-- RDMA extended header: remote address, key, DMA length. -/
  addr : W64
  rkey : W32
  dmaLen : W32
  imm : W32
  syndrome : BitVec 8
  payload : List Byte
  deriving DecidableEq, Repr

/-- A frame in an ingress queue; only RoCE frames wait there, since the other handlers take theirs at once (R373). -/
structure RxFrame where
  len : Nat
  pkt : RocePkt
  deriving DecidableEq, Repr

/-- A frame on its way out: the petal whose line it is in, 0x1FF for device traffic and mirror copies (R373, R376). -/
structure TxFrame where
  petal : Nat
  bytes : List Byte
  deriving DecidableEq, Repr

/-! ### Ports (R362 to R383) -/

/-- An egress queue (R375, R377). Tokens are in units of 1/8000 byte, so that a rate in Mbit/s adds `rate` units each ns. -/
structure EgressQ where
  frames : List TxFrame
  quantum : Nat
  deficit : Nat
  /-- Mbit/s; 0 = the shaper is off. -/
  rate : Nat
  burst : Nat
  tokens : Nat
  tokensAt : W64
  deriving DecidableEq, Repr

/-- An ingress queue (R374). -/
structure IngressQ where
  frames : List RxFrame
  limit : Nat
  deriving DecidableEq, Repr

/-- A gate control list (R380): entries of gates and interval, base time in ns, cycle time in ns. -/
structure GateList where
  entries : List (Nat × Nat)
  base : Nat
  cycle : Nat
  deriving DecidableEq, Repr

/-- An Ethernet port. -/
structure NetPort where
  enable : Bool
  malformed : Nat
  mirrorPort : Nat
  mirrorQueue : Nat
  ptp : Bool
  domain : Nat
  tcMap : W32
  dscpMap : BitVec 192
  /-- 0 down, 1 training, 2 up (R386). -/
  link : Nat
  lanes : Nat
  failed : Nat
  /-- Port time, in steps of 125 ps, at a moment of the elapsed counter; it has run from there with the frequency adjustment
  `ppb`, in parts per 10^9 (R378). -/
  time : Nat
  timeAt : W64
  ppb : Int
  offset : Int
  ingress : Vector IngressQ 8
  slow : List (List Byte)
  egress : Vector EgressQ 16
  /-- Which of queues 3 to 15 the round robin visits next (R375). -/
  turn : Nat
  /-- It has gained its quantum on the present visit. -/
  visited : Bool
  gate : Option GateList
  /-- The entry that runs, and the port time in ns at which it started. -/
  gateIdx : Nat
  gateFrom : Nat
  /-- A list that is pending, and the port time in ns at which it takes over (R382). -/
  gateNext : Option GateList
  gateAt : Nat
  deriving DecidableEq, Repr

/-- R387, R388: a port's settings after module reset. R378: port time starts from zero. -/
def NetPort.new : NetPort where
  enable := true
  malformed := 0
  mirrorPort := 0
  mirrorQueue := 0
  ptp := false
  domain := 0
  tcMap := 0xA9876543
  dscpMap := 0
  link := 0
  lanes := 0
  failed := 0
  time := 0
  timeAt := 0
  ppb := 0
  offset := 0
  ingress := Vector.replicate 8 ⟨[], 1048576⟩
  slow := []
  egress := Vector.replicate 16 ⟨[], 160, 0, 0, 0, 0, 0⟩
  turn := 3
  visited := false
  gate := none
  gateIdx := 0
  gateFrom := 0
  gateNext := none
  gateAt := 0

/-- A frame held by a flow limiter: its port, egress queue, frame, and whether it lies on the wheel's second level. -/
structure Held where
  port : Nat
  queue : Nat
  frame : TxFrame
  second : Bool
  deriving DecidableEq, Repr

/-- A flow rate limiter (R384). tat is in ps of the wheel. -/
structure Limiter where
  enable : Bool
  rate : Nat
  burst : Nat
  tat : Nat
  held : List Held
  deriving DecidableEq, Repr

def Limiter.new : Limiter := ⟨false, 0, 0, 0, []⟩

/-- The Ethernet complex. -/
structure Net where
  mode : Nat
  ports : Tbl NetPort
  rules : Tbl (BitVec 1024)
  ranges : Tbl (BitVec 64)
  limiters : Tbl Limiter
  /-- Address entries by port × 16 + index: request bytes 0x10 to 0x2F (R394). -/
  addrs : Tbl (BitVec 256)
  deriving DecidableEq, Repr

/-- After module reset (R362, R387). The address entries have no reset value; the model takes them as not valid. -/
def Net.new : Net := ⟨1, [], [], [], [], []⟩

/-! ### RDMA (16) -/

/-- R400. -/
inductive QpSt
  | created | ready | error | destroying
  deriving DecidableEq, Repr

/-- A send entry that has been accepted and started (R402, R404). -/
structure Wqe where
  raw : BitVec 512
  tag : Nat
  op : Nat
  len : Nat
  local_ : W64
  remote : W64
  rkey : W32
  /-- Its packets are `first` to `first + count − 1` in the QP's numbering from 0. -/
  first : Nat
  count : Nat
  /-- READ: bytes received and written. -/
  got : Nat
  /-- Validation failed: its status and detail, posted in ring order (R402, R404). -/
  fail : Option (Nat × Nat)
  deriving DecidableEq, Repr

/-- What a responder owes its peer: an acknowledgement, or the packets of a READ response (R414). -/
inductive Owed
  | ack (psn syndrome msn : Nat)
  | cnp
  | read (psn addr len sent msn key : Nat)
  deriving DecidableEq, Repr

/-- A message being received (R404, R410). -/
structure Inbound where
  write : Bool
  /-- WRITE: the next PDA and the key it was checked under. -/
  addr : Nat
  key : W32
  left : Nat
  /-- SEND: the receive entry it consumes and the bytes so far. -/
  entry : BitVec 256
  got : Nat
  since : W64
  deriving DecidableEq, Repr

/-- A QP (R398 to R414). -/
structure Qp where
  petal : Nat
  num : Nat
  /-- Request bytes from 0x10 of RDM_QP_CREATE. -/
  cfg : BitVec 256
  st : QpSt
  wireQpn : Nat
  startPsn : Nat
  remoteQpn : Nat
  remoteIp : BitVec 128
  /-- Send ring: head of acceptance and tail. -/
  sqHead : Nat
  sqTail : Nat
  rqHead : Nat
  rqTail : Nat
  wqes : List Wqe
  una : Nat
  nxt : Nat
  top : Nat
  /-- One more than the highest index ever sent. -/
  high : Nat
  window : Nat
  /-- Bytes acknowledged since the last decrease of the window; none before the first. -/
  sinceDec : Option Nat
  retries : Nat
  rnrRetries : Nat
  /-- When the oldest unacknowledged packet was last sent (R412). -/
  timer : Option W64
  /-- An RNR wait in progress (R413). -/
  rnrFrom : Option W64
  rnrWait : Nat
  /-- Responder: next expected PSN, message number, messages in progress. -/
  ePsn : Nat
  msn : Nat
  inbound : Option Inbound
  gapNak : Bool
  unacked : Nat
  unackedAt : Option W64
  lastCnp : Option W64
  owed : List Owed
  resident : Bool
  lastUse : W64
  deriving DecidableEq, Repr

/-- A completion queue: request bytes from 0x10 of RDM_CQ_CREATE, and its ring (R397). -/
structure RdmCq where
  cfg : BitVec 192
  cqHead : Nat
  cqTail : Nat
  used : Nat
  reserved : Nat
  seq : Nat
  phase : Bool
  deriving DecidableEq, Repr

/-- A memory region (R407). -/
structure Region where
  base : Nat
  len : Nat
  read : Bool
  write : Bool
  variant : Nat
  /-- RDM_MR_DEREG has been accepted; messages checked before it run to their end (R410). -/
  closing : Bool
  deriving DecidableEq, Repr

/-- The RDMA engine. -/
structure Rdma where
  /-- By petal × 2^20 + petal QP number. -/
  qps : Tbl Qp
  /-- By petal × 4096 + number. -/
  cqs : Tbl RdmCq
  /-- By petal × 65536 + region index. -/
  regions : Tbl Region
  /-- The variant that a region index takes next. -/
  variants : Tbl Nat
  /-- The variant of a petal's whole-space key (R409). -/
  whole : Tbl Nat
  labels : Tbl W64
  /-- RDM_DB_IGNORED (R401). -/
  ignored : Tbl Nat
  /-- Wire QPNs not to be assigned before a moment (R393). -/
  resting : List (Nat × W64)
  /-- The miss buffer: port and frame (R415). -/
  miss : List (Nat × RxFrame)
  /-- How many communicators name a QP, by petal × 2^20 + petal QP number (R409). -/
  named : Tbl Nat
  /-- When a port last wrote an event-log entry of a foreign signal (R432). -/
  foreignAt : Tbl W64
  deriving DecidableEq, Repr

def Rdma.new : Rdma := ⟨[], [], [], [], [], [], [], [], [], [], []⟩

end Sys2Proof.Machine
end

