-- ==== Sys2Proof/Machine/PcieState.lean ====
section
/-!
DEFINITION. The state of the PCI Express side: the nine switch ports with their slots, PF0's configuration, the requests that
PF0 has issued, and its translation cache (13).
-/

namespace Sys2Proof.Machine

/-- A slot of a downstream port (R330 to R333). -/
structure Slot where
  /-- Power Controller Control: true = 1, power off (R330). -/
  pcc : Bool
  pwren : Bool
  /-- SLOT_PERST_N is asserted. -/
  perst : Bool
  /-- When SLOT_PERST_N was asserted by a power-off that has not ended. -/
  offAt : Option W64
  /-- Attention and Power Indicator Control: 1 on, 2 blink, 3 off. -/
  attnInd : BitVec 2
  pwrInd : BitVec 2
  /-- SLOT_PRSNT_N low, in-band presence, In-Band PD Disable. -/
  prsnt : Bool
  inBand : Bool
  inBandOff : Bool
  /-- A recognised press is held, so that the next counts only after 20 ms of high (R331). -/
  pressed : Bool
  unstable : Bool
  /-- Moments of the presence changes that R332 counts. -/
  changes : List W64
  /-- The presence state last reported. -/
  reported : Bool
  /-- Slot Status: Attention Button Pressed, Presence Detect Changed, Command Completed, Data Link Layer State Changed. -/
  abp : Bool
  pdc : Bool
  cc : Bool
  dllsc : Bool
  /-- Slot Control enables: ABP, PDC, CC, DLLSC and Hot-Plug Interrupt. -/
  abpEn : Bool
  pdcEn : Bool
  ccEn : Bool
  dllscEn : Bool
  hpie : Bool
  deriving DecidableEq, Repr

/-- R326: after reset Power Controller Control reads 0, power on; SLOT_PERST_N starts asserted. Indicators start off. -/
def Slot.new : Slot where
  pcc := false
  pwren := false
  perst := true
  offAt := none
  attnInd := 3
  pwrInd := 3
  prsnt := false
  inBand := false
  inBandOff := false
  pressed := false
  unstable := false
  changes := []
  reported := false
  abp := false
  pdc := false
  cc := false
  dllsc := false
  abpEn := false
  pdcEn := false
  ccEn := false
  dllscEn := false
  hpie := false

/-- A switch port: 0 upstream, 1 to 8 downstream ports 0 to 7. -/
structure SwPort where
  up : Bool
  /-- Negotiated width and, under L0p, the active width. -/
  width : Nat
  active : Nat
  /-- Flit mode is in use on the link. -/
  flit : Bool
  laneFault : BitVec 16
  reversed : Bool
  polarity : BitVec 16
  /-- 0 L0, 1 L1, 2 L1.1, 3 L1.2. -/
  l1 : Nat
  aspmL1 : Bool
  l11En : Bool
  l12En : Bool
  l0pEn : Bool
  /-- CLKREQ_N is deasserted. -/
  clkreqOff : Bool
  trained : Bool
  /-- ACS Control of a downstream port. -/
  acs : BitVec 7
  slot : Slot
  /-- Uncorrectable and advisory errors logged in the port's AER. -/
  aer : Nat
  /-- The Type 1 header's Memory Space Enable, Memory Base and Limit, Prefetchable Memory Base and Limit, and their upper halves. -/
  memOn : Bool
  memWin : W32
  pfWin : W32
  pfBaseHi : W32
  pfLimitHi : W32
  deriving DecidableEq, Repr

def SwPort.new : SwPort where
  up := false
  width := 0
  active := 0
  flit := false
  laneFault := 0
  reversed := false
  polarity := 0
  l1 := 0
  aspmL1 := false
  l11En := false
  l12En := false
  l0pEn := false
  clkreqOff := false
  trained := false
  acs := 0
  slot := Slot.new
  aer := 0
  memOn := false
  memWin := 0
  pfWin := 0
  pfBaseHi := 0
  pfLimitHi := 0

/-- A non-posted request of PF0 that has no completion (R324, R325): its tag, the port it went through, the petal and the
command tag of the task that needs it, and the PASID under which it went. -/
structure PcieReq where
  tag : Nat
  port : Nat
  petal : Nat
  task : Nat
  pasid : Nat
  page : Nat
  since : W64
  deriving DecidableEq, Repr

/-- A translation: PASID (2^20 = none), page, translated page, and whether it may be written (R322, R323). -/
structure Xlat where
  pasid : Nat
  page : Nat
  target : Nat
  write : Bool
  deriving DecidableEq, Repr

/-- The PCI Express side of the module. -/
structure Pcie where
  ports : Tbl SwPort
  /-- PF0: Memory Space Enable, BARs, ATS Enable, PASID Enable, Completion Timeout Value, advisory non-fatal errors logged. -/
  memSpace : Bool
  bar0 : W32
  bar2 : W64
  bar4 : W32
  msixEnable : Bool
  msixMask : Bool
  ats : Bool
  pasidOn : Bool
  cto : BitVec 4
  aer : Nat
  /-- Function Level Reset in progress since a moment (R327); configuration requests receive Request Retry Status. -/
  flr : Option W64
  retry : Bool
  /-- ATS: translations held, oldest first; `host` is what the host's translation agent answers. -/
  atc : List Xlat
  host : List Xlat
  reqs : List PcieReq
  /-- Invalidations that wait for requests issued under their translation (R323): PASID, or 2^21 for every one; page. -/
  invs : List (Nat × Nat)
  /-- Tags held unused after a timeout, with the moment of the timeout (R325). -/
  heldTags : List (Nat × W64)
  nextTag : Nat
  /-- Tasks of which a request has failed (R325): petal, command tag. -/
  failed : List (Nat × Nat)
  deriving DecidableEq, Repr

/-- After reset (R316, R324, R326). -/
def Pcie.new : Pcie where
  ports := []
  memSpace := false
  bar0 := 0
  bar2 := 0
  bar4 := 0
  msixEnable := false
  msixMask := false
  ats := false
  pasidOn := false
  cto := 0
  aer := 0
  flr := none
  retry := true
  atc := []
  host := []
  reqs := []
  invs := []
  heldTags := []
  nextTag := 0
  failed := []

end Sys2Proof.Machine
end

