-- ==== Sys2Proof/Machine/PetalState.lean ====
section
/-!
DEFINITION. The state of petals and of what every petal holds: rings, launches, mailbox pages, windows, pages and frames,
and the waiters of the sync-counter fabric (06, 07, 10, 11, 12, 17).
-/

namespace Sys2Proof.Machine

/-! ### Rings and launches (07) -/

/-- A submission ring with its completion ring (R168 to R170). Cipher, collective and attention rings follow it too. -/
structure Ring where
  sqLog : Nat
  cqLog : Nat
  sqPda : Nat
  cqPda : Nat
  msix : Nat
  sqTail : Nat
  sqHead : Nat
  cqHead : Nat
  cqTail : Nat
  /-- Records written and not yet consumed. -/
  cqUsed : Nat
  /-- Completion entries reserved by accepted work. -/
  reserved : Nat
  /-- Records written so far. -/
  seq : Nat
  /-- The phase bit of the next record (R170). -/
  phase : Bool
  /-- Its destruction has begun: it fetches nothing more (R182). -/
  closing : Bool
  deriving DecidableEq, Repr

/-- R168: the doorbell registers at queue creation; R170: the phase of the first pass is 1. -/
def Ring.new (sqLog cqLog sqPda cqPda msix : Nat) : Ring where
  sqLog := sqLog
  cqLog := cqLog
  sqPda := sqPda
  cqPda := cqPda
  msix := msix
  sqTail := 0
  sqHead := 0
  cqHead := 0
  cqTail := 0
  cqUsed := 0
  reserved := 0
  seq := 0
  phase := true
  closing := false

/-- A registered image (R165). -/
structure Image where
  header : BitVec 1024
  digest : BitVec 256
  deriving DecidableEq, Repr

/-- A fault record's contents (R61). -/
structure FaultRec where
  code : Nat
  unit : Nat
  nib : Nat
  pc : Nat
  flags : Nat
  address : Nat
  time : W64
  bundles : Nat
  streamTag : Nat
  descriptor : Nat
  bundle : List Byte
  deriving DecidableEq, Repr

/-- An accepted launch (R169 to R181). -/
structure Launch where
  petal : Nat
  queue : Nat
  tag : Nat
  desc : BitVec 512
  header : BitVec 1024
  digest : BitVec 256
  /-- Global core numbers, ascending (R172). -/
  cores : List Nat
  args : List W32
  /-- When it became the head of the launches of its queue that have not started (R175). -/
  headAt : Option W64
  /-- R175: it has reserved its cores. -/
  reserves : Bool
  started : Option W64
  fault : Option FaultRec
  more : Nat
  /-- Status and detail of a stop by timeout or abort. -/
  stop : Option (Nat × Nat)
  /-- Steps during which a Nib of it was HALTED (R180). -/
  haltedSteps : Nat
  haltedFrom : Option W64
  deriving DecidableEq, Repr

/-! ### Sync counters (17) -/

/-- Who waits at the fabric (R425): a Nib, or a watch of a petal. -/
inductive WaiterId
  | nib (n : Nat)
  | watch (petal num : Nat)
  deriving DecidableEq, Repr

/-- A waiter entry (R425, R426). -/
structure Waiter where
  who : WaiterId
  petal : Nat
  index : Nat
  target : W64
  consume : Bool
  since : W64
  deriving DecidableEq, Repr

/-- A registered watch: the record of R428 and its registration time. -/
structure Watch where
  petal : Nat
  num : Nat
  consume : Bool
  irq : Bool
  binding : Nat
  msix : Nat
  counter : Nat
  threshold : W64
  notifyAddr : W64
  notifyValue : W64
  timeoutMs : Nat
  timeoutValue : W64
  since : W64
  deriving DecidableEq, Repr

/-! ### Pages of petal memory (06) -/

/-- The pins of a page (R144): tier pin 0 none, 1 HBM, 2 LPDDR, and the count of place pins. -/
structure Pin where
  tier : Nat
  place : Nat
  deriving DecidableEq, Repr

/-- Where a page move stands (R143): chosen and waiting for its units, copying, or switched with its source still held for
earlier accesses. -/
inductive MovePh
  | queued | copying | switched
  deriving DecidableEq, Repr

/-- A page move (R143): the page goes from frame `source` to frame `dest`. In a swap `partner` names the other page, its frame
and its destination. A retirement move (R154) leaves the page map alone: `spare` says which spare takes the frame's place. -/
structure Move where
  petal : Nat
  page : Nat
  source : Nat
  dest : Nat
  partner : Option (Nat × Nat × Nat)
  spare : Option Nat
  phase : MovePh
  deriving DecidableEq, Repr

/-- The walk position of a Blotter walk unit and its passes (R155). -/
structure Walk where
  line : Nat
  passes : Nat
  deriving DecidableEq, Repr

/-- A key slot that holds a key (R445, R447). -/
structure KeySlot where
  /-- 1 AES-256-GCM, 2 AES-256-XTS, 3 AES-256-CMAC. -/
  kind : Nat
  material : BitVec 512
  salt : BitVec 128
  ivCounter : W64
  /-- R455: KEY_DESTROY is waiting for the requests that use it. -/
  destroying : Bool
  deriving DecidableEq, Repr

/-! ### Petals (11) -/

/-- The states of a petal; a FREE petal is not listed (R276). -/
inductive PState
  | active | quiescing | quiesced | resizing | resetting | destroying
  deriving DecidableEq, Repr

/-- The state code of QUERY_PETAL (R276). -/
def PState.code : PState → Nat
  | .active => 1 | .quiescing => 2 | .quiesced => 3 | .resizing => 4 | .resetting => 5 | .destroying => 6

/-- One staged setting: the command's opcode and payload (R250), and for BIND_PETAL whether the tenant has accepted it
(R275). -/
structure Staged where
  opcode : Nat
  payload : BitVec 1920
  bytes : Nat
  accepted : Bool
  /-- What the command read from memory when it was staged (R389). -/
  extra : List Byte
  deriving DecidableEq, Repr

/-- An EPOCH_COMMIT that has been accepted (R251): its mailbox tag, the settings it applies, and its commit point. -/
structure Commit where
  tag : Nat
  items : List Staged
  point : Option W64
  deriving DecidableEq, Repr

/-- A staging area with its epoch number (R250, R251). -/
structure Area where
  epoch : Nat
  stage : List Staged
  commits : List Commit
  deriving DecidableEq, Repr

/-- R251: an area at petal creation or module reset. -/
def Area.new : Area := ⟨0, [], []⟩

/-- Who holds a command tag (R183). -/
inductive TagUse
  | launch | mailbox | collective | attention | scroll | cipher | rdma
  deriving DecidableEq, Repr

/-- One petal (R266 to R281). -/
structure Petal where
  st : PState
  control : Bool
  /-- The resource record in force (R268). -/
  record : BitVec 1024
  /-- Quiesce causes held: command, lease, reset, firmware debug (R271). -/
  causeCmd : Bool
  causeLease : Bool
  causeFlr : Bool
  causeDebug : Bool
  bindings : List W64
  area : Area
  /-- Global core numbers, ascending (R172). -/
  cores : List Nat
  /-- Plots in the order they were granted: unit and plot number (R133, R136). -/
  hbm : List (Nat × Nat)
  lpddr : List (Nat × Nat)
  /-- Pages that do not lie at their first frame: page number to frame (R133, R141). -/
  loc : Tbl Nat
  pins : Tbl Pin
  heat : Tbl Nat
  heatCount : Tbl Nat
  /-- When the present heat interval began (R139). -/
  heatAt : W64
  policy : BitVec 128
  images : Tbl Image
  queues : Tbl Ring
  tags : Tbl TagUse
  /-- The earliest forced end of a drain (R276). -/
  drainAt : Option W64
  /-- The drain has been forced (R276). -/
  drainForced : Bool
  /-- R302: device-issued requests toward the upstream port are withheld until ENABLE_PETAL. -/
  upstreamHeld : Bool
  /-- Sync counter values; an unlisted counter is 0 (R420). -/
  counters : Tbl W64
  watches : Tbl Watch
  /-- How the last watch of a number ended: true fired or timed out, false cancelled (R430). -/
  watchEnds : Tbl Bool
  /-- SYN.last_blocked (R435). -/
  lastBlocked : W64
  /-- R302: messages of the petal's vectors are withheld until a session opens. -/
  msixHeld : Bool
  /-- The XTS key pair in the key store, once installed (R446). -/
  xts : Option (BitVec 512)
  keySlots : Tbl KeySlot
  deriving DecidableEq, Repr

/-! ### Mailbox pages (12) -/

/-- What a pending command waits for (R296). -/
inductive PendWhy
  /-- EPOCH_COMMIT waits for the transactions of earlier epochs (R254). -/
  | epochDrain (tag : Nat)
  /-- The start-up fill (R138) or reclaim (R142). -/
  | fill
  /-- A petal reaches QUIESCED: for QUIESCE_PETAL, and for ENABLE_PETAL (R276). -/
  | quiesce (petal : Nat)
  | enable (petal : Nat)
  /-- A tagged task of a petal completes; `decided` says that this abort decided its status (R264). -/
  | taskEnd (petal tag : Nat) (decided : Bool)
  /-- Every task of an object has completed: its kind and number (R297), of a petal. -/
  | objEnd (petal kind num : Nat)
  /-- A communicator of a petal leaves JOINING (R190). -/
  | join (petal num : Nat)
  /-- The targets of a volume answer (R353, R356). -/
  | backing (petal vol : Nat)
  /-- The command acts once its condition holds (R351, R224). -/
  | again
  /-- Work of the device for the command whose outcome is decided: page moves (R142, R145, R561), a report (R449), a copy. -/
  | work
  /-- A debug session drains (R481), a power level is entered (R499), an earlier command of the page holds its object. -/
  | debugDrain
  | powerEntry (kind unit : Nat)
  | deferred
  deriving DecidableEq, Repr

/-- A final response: status, 24-bit detail, payload from byte 0x10 and its length in bytes (R293). -/
structure Reply where
  status : Nat
  detail : Nat
  payload : Nat
  bytes : Nat
  deriving DecidableEq, Repr

/-- A command that answered PENDING and holds a late slot (R296). -/
structure Pend where
  slot : Nat
  tag : Nat
  irq : Bool
  opcode : Nat
  length : Nat
  payload : BitVec 1920
  /-- The object the request names: its kind and number (R297). -/
  obj : Option (Nat × Nat)
  why : PendWhy
  /-- The final outcome once it is known. -/
  outcome : Option Reply
  deriving DecidableEq, Repr

/-- One mailbox page: petal p's page is page p, the operator mailbox of the device page is page 512 (R288, R290). -/
structure MPage where
  req : BitVec 2048
  rsp : BitVec 2048
  late : Tbl (BitVec 256)
  lateData : Tbl (BitVec 512)
  pends : List Pend
  done : BitVec 16
  busy : Bool
  overrun : Bool
  /-- 0 none, 1 held, 2 expired, 3 refused (R291). -/
  session : BitVec 2
  sessId : W32
  minor : BitVec 16
  /-- The page's mailbox vector; 0xFFF none (R299). -/
  vector : Nat
  lastRenew : W64
  lateRenewals : Nat
  /-- Writes of a wrong value to PTL_LEASE_RENEW (R301). -/
  badRenewals : Nat
  malformed : Nat
  lateSeq : Nat
  driverId : W64
  deriving DecidableEq, Repr

/-- R290, R291: the registers of a page at petal creation (of the device page: at module reset). -/
def MPage.new : MPage where
  req := 0
  rsp := 0
  late := []
  lateData := []
  pends := []
  done := 0
  busy := false
  overrun := false
  session := 0
  sessId := 0
  minor := 0
  vector := 0xFFF
  lastRenew := 0
  lateRenewals := 0
  badRenewals := 0
  malformed := 0
  lateSeq := 0
  driverId := 0

/-- A BAR2 window (R310): its owner petal and its entry. -/
structure Window where
  owner : Nat
  entry : W64
  deriving DecidableEq, Repr

end Sys2Proof.Machine
end

