-- ==== Sys2Proof/Machine/ServiceState.lean ====
section
/-!
DEFINITION. The state of the cipher engine and of key sessions (18), of communicators (08), of Scroll queue pairs and volumes (14),
and of attention contexts (09).
-/

namespace Sys2Proof.Machine

/-- A key session (R452). `dk` names the key pair whose decapsulation key is held until the session is established. -/
structure KeySess where
  digest : List Byte
  dk : Option Nat
  wrap : List Byte
  bindings : List W64
  lastSeq : Nat
  since : W64
  deriving DecidableEq, Repr

/-- A cipher request queue (R457): its rings, whose addresses have the form of R197, and its binding. -/
structure CphQueue where
  ring : Ring
  bind : Nat
  deriving DecidableEq, Repr

/-- An accepted cipher request (R459): the queue, the entry, and the key with which it started. -/
structure CphReq where
  petal : Nat
  queue : Nat
  tag : Nat
  raw : BitVec 1024
  started : Bool
  key : List Byte
  deriving DecidableEq, Repr

/-! ### Communicators (08) -/

/-- R190. -/
inductive CommSt
  | joining | ready | broken
  deriving DecidableEq, Repr

/-- A communicator (R187 to R195): request bytes 0x10 to 0x6F, the node table, and its ring. -/
structure Comm where
  petal : Nat
  num : Nat
  req : BitVec 768
  table : List (BitVec 128)
  st : CommSt
  since : W64
  ring : Ring
  /-- Operations accepted since creation (R201). -/
  opSeq : Nat
  /-- The JOIN message of each node that has sent one and matched (R193). -/
  joins : Tbl (BitVec 704)
  /-- STEP messages of operations that have not started: the node and the message. -/
  steps : List (Nat × BitVec 832)
  deriving DecidableEq, Repr

/-- An accepted operation (R196 to R212). -/
structure ColOp where
  petal : Nat
  comm : Nat
  tag : Nat
  seq : Nat
  desc : BitVec 2048
  started : Option W64
  /-- The optimizer descriptor as read at the start (R207). -/
  opt : BitVec 512
  /-- A stop that is decided: status and detail. -/
  stop : Option (Nat × Nat)
  deriving DecidableEq, Repr

/-! ### Scroll (14) -/

/-- A block in a volume's cache (R354): its place in the cache region, whether it is dirty, and when it was last used. -/
structure CBlk where
  slot : Nat
  dirty : Bool
  used : Nat
  deriving DecidableEq, Repr

/-- A self-test that runs on a volume (R357): its mailbox tag and page, its kind, and whether a command has pre-empted it. -/
structure SelfTest where
  tag : Nat
  kind : Nat
  yielded : Bool
  deriving DecidableEq, Repr

/-- A volume (R353 to R358): request bytes 0x10 to 0x2F and the extent table. -/
structure Vol where
  petal : Nat
  num : Nat
  req : BitVec 256
  exts : List (BitVec 512)
  /-- Its extents are not all connected yet (R353); its destruction has begun (R356). -/
  connecting : Bool
  closing : Bool
  since : W64
  cache : Tbl CBlk
  clock : Nat
  /-- When a destage last failed, until one succeeds; and how many have failed (R355). -/
  failedAt : Option W64
  failures : Nat
  /-- 0 W0, 1 W1, 2 W2 (R358), and the moment from which the volume has been idle. -/
  level : Nat
  idleAt : W64
  /-- When Keep Alive was last sent (R355). -/
  keptAt : W64
  test : Option SelfTest
  /-- Ciphertext bytes that destage has written to the targets, by byte of the volume; what is not listed is the targets'. -/
  target : Memory
  deriving DecidableEq, Repr

/-- A freeze (R348 to R350): cause and the commands that were accepted and not completed: ring index, tag, opcode, fate. -/
structure SclFreeze where
  cause : Nat
  tag : Nat
  status : Nat
  detail : Nat
  first : Nat
  time : W64
  entries : List (Nat × Nat × Nat × Nat)
  deriving DecidableEq, Repr

/-- A Scroll queue pair (R339): its rings, whose addresses have the form of R197. -/
structure SclQp where
  petal : Nat
  num : Nat
  bind : Nat
  ring : Ring
  frozen : Bool
  /-- The last freeze. -/
  log : Option SclFreeze
  deriving DecidableEq, Repr

/-- An accepted Scroll command (R342): the ring index and the entry. -/
structure SclCmd where
  petal : Nat
  qp : Nat
  tag : Nat
  index : Nat
  raw : BitVec 512
  begun : Option W64
  deriving DecidableEq, Repr

/-! ### Attention (09) -/

/-- Where a KV page lies (R221, R240): an arena slot, or a spill slot, with the failure that reading it back has met. -/
inductive KvPlace
  | arena (slot : Nat)
  | spilled (slot : Nat) (bad : Option (Nat × Nat))
  deriving DecidableEq, Repr

/-- A sequence that is LIVE or DESTROYING (R223, R224). Pages are keyed by layer × 4096 + page. -/
structure AtnSeq where
  maxTokens : Nat
  spillOk : Bool
  destroying : Bool
  lens : Tbl Nat
  pages : Tbl KvPlace
  /-- Map slots (R221). -/
  maps : List Nat
  attended : Option W64
  /-- A spill write of it has failed since it was last attended (R240). -/
  excluded : Bool
  deriving DecidableEq, Repr

/-- An entry accepted on a ring, for the order of batch signals (R234): has it completed, and the add it asks for. -/
structure AtnTrack where
  ord : Nat
  done : Bool
  sig : Option (Nat × Nat)
  deriving DecidableEq, Repr

/-- A request ring (R225). -/
structure AtnRing where
  ring : Ring
  bind : Nat
  entryBytes : Nat
  errCounter : Nat
  accepted : Nat
  track : List AtnTrack
  deriving DecidableEq, Repr

/-- A spill write in progress (R240): the page, its arena slot and its spill slot, and the slot's bytes. -/
structure SpillWrite where
  seq : Nat
  key : Nat
  slot : Nat
  spill : Nat
  bytes : List Byte
  deriving DecidableEq, Repr

/-- A context (R218): request bytes 0x10 to 0x5F. -/
structure AtnCtx where
  petal : Nat
  num : Nat
  req : BitVec 640
  seqs : Tbl AtnSeq
  rings : Tbl AtnRing
  spilling : List SpillWrite
  closing : Bool
  deriving DecidableEq, Repr

/-- An accepted entry (R227): its header, its query and inline areas, and whether one of those read uncorrectable. -/
structure AtnEntry where
  petal : Nat
  ctx : Nat
  ring : Nat
  tag : Nat
  ord : Nat
  hdr : BitVec 1024
  body : List Byte
  badBody : Bool
  started : Option W64
  /-- ATTEND: the length it saw at its start, the arena slots of the pages it reads (R231), and of each row, token by token and
  head by head: 0 no position is attended, 1 an attended element is NaN or infinite, 2 neither (R238, R239). -/
  len : Nat
  view : Tbl Nat
  rows : List Nat
  /-- Pages read back from the spill volume (R233). -/
  filled : Nat
  /-- A failure that its start has decided. -/
  fail : Option (Nat × Nat)
  deriving DecidableEq, Repr

end Sys2Proof.Machine
end

