-- ==== Sys2Proof/Machine/State.lean ====
section
/-!
DEFINITION. The state of the Y1 module, the reasons a step can stop, and the state after reset.
-/

namespace Sys2Proof.Machine

/-- Why a step stops with a fault. -/
inductive Fault
  /-- Raised by REGISTER_WRITE when it names an offset of the interrupt controller's range at which the manual gives no
  register (R437). Safe: the model stops where the manual says nothing. -/
  | noSuchRegister
  deriving DecidableEq, Repr

/-- Why a step is refused. -/
inductive Refusal
  /-- Raised by the dispatch for a command without a meaning. Safe. -/
  | notModelled (mnemonic : String)
  deriving DecidableEq, Repr

/-- What leaves the module, oldest first; the model's own record of its outputs. -/
inductive Out
  /-- An MSI-X message (R305). -/
  | msix (vector : Nat) (address : W64) (data : W32)
  /-- A device-issued write to a bus address for a petal (R322). -/
  | dmaWrite (petal : Nat) (address : Nat) (bytes : List Byte)
  /-- An ATS Invalidation Completion (R323), and a hot-plug MSI of a switch port (R333). -/
  | invalidated (pasid page : Nat)
  | slotMsi (port : Nat)
  /-- A completion that PF0 returns: status 0 successful, 1 Unsupported Request, 2 Request Retry
  Status (R326), 4 Completer Abort; EP; data (R318). -/
  | completion (status : Nat) (ep : Bool) (data : List Byte)
  /-- A frame that an Ethernet port sends (R375). -/
  | frame (port : Nat) (bytes : List Byte)
  /-- A control message that a communicator hands to a QP (R193). -/
  | control (petal qp : Nat) (bytes : List Byte)
  /-- An NVMe command to an extent's target (R355): petal, volume, extent, and 0 Keep Alive, 1 Connect, 2 Read, 3 Write, 4 Flush,
  5 Deallocate, 6 Identify. -/
  | nvme (petal vol extent command : Nat)
  /-- A response on the sideband to a command of a layer: 0 MCTP control, else the PLDM type plus 1; or an event message. -/
  | sideband (layer command : Nat) (data : List Byte)
  /-- What a read of a register of the hub's firmware address space returns (R437). -/
  | hubRead (value : Nat)
  /-- A packet that the integrated switch passes from one port to another (R18). -/
  | routed (source target : Nat)
  deriving DecidableEq, Repr

/-- An event-log entry (R519); `what` names the event, whose code the manual does not give. -/
structure LogEntry where
  seq : Nat
  time : W64
  boot : Nat
  severity : Nat
  source : Nat
  what : String
  inst : Nat
  petal : Nat
  payload : List Byte
  deriving DecidableEq, Repr

/-- The machine. Tables list only what differs from the value at creation or reset. -/
structure State where
  /-- R24. -/
  elapsed : W64
  /-- The model's own counter: how many free values have been drawn. -/
  freeCtr : Nat
  pending : List Instr
  nibs : Tbl Nib
  cores : Tbl Core
  petals : Tbl Petal
  pages : Tbl MPage
  launches : List Launch
  /-- Waiters of the counter fabric, in the order in which R425 serves them. -/
  waiters : List Waiter
  /-- Counter groups (R257): fields by kind, inst and field number. -/
  ctr : Tbl Nat
  wrapped : Tbl Bool
  windows : Tbl Window
  msixOwner : Tbl Nat
  msixTable : Tbl (BitVec 128)
  msixPend : Tbl Bool
  pcie : Pcie
  busMaster : Bool
  /-- HFI_STATUS.ready: firmware is in service and the mailboxes answer (R289). -/
  ready : Bool
  devArea : Area
  mem : Memory
  /-- Poisoned lines by petal and PDA line (R152). -/
  poison : Tbl Bool
  /-- Plots of a unit that are granted: unit × 128 + plot to petal (R136). -/
  plots : Tbl Nat
  /-- Retired frames (R154): the number of the spare that has taken the frame's place, plus 1; 0 where none was left. -/
  retired : Tbl Nat
  /-- Spares that a unit has used (R137). -/
  sparesUsed : Tbl Nat
  /-- Moments of the corrections of a frame in the last 24 h and of a unit in the last hour (R153, R154). -/
  frameCorr : Tbl (List W64)
  unitCorr : Tbl (List W64)
  /-- Failed memory units (R544). -/
  unitFailed : Tbl Bool
  moves : List Move
  /-- Blotter walks: units 0–255 HBM pseudo-channels, 256–319 LPDDR channels, 320–351 hub banks; scratch by core and bank. -/
  walks : Tbl Walk
  scratchWalks : Tbl Nat
  scrubHbm : Nat
  scrubLpddr : Nat
  scrubHub : Nat
  hbmFilled : Bool
  lpddrFilled : Bool
  /-- R481: petal keys are withdrawn from the ciphers. -/
  keysWithdrawn : Bool
  /-- Host and accelerator memory (outside the module); unlisted bytes are free. -/
  bus : Memory
  net : Net
  rdma : Rdma
  keySess : Tbl KeySess
  /-- By petal × 64 + queue. -/
  cphQs : Tbl CphQueue
  /-- In the order of acceptance. -/
  cphReqs : List CphReq
  /-- By petal × 64 + number. -/
  comms : Tbl Comm
  /-- In the order of acceptance. -/
  colOps : List ColOp
  /-- By petal × 4096 + number. -/
  sclQps : Tbl SclQp
  sclCmds : List SclCmd
  /-- By petal × 256 + number. -/
  vols : Tbl Vol
  /-- SCL_DB_IGNORED (R340). -/
  sclIgnored : Tbl Nat
  /-- By petal × 16 + number. -/
  ctxs : Tbl AtnCtx
  atnEntries : List AtnEntry
  sec : Sec
  pwr : Pwr
  ink : Ink
  board : Board
  irq : Irq
  jtag : Jtag
  logBuf : List LogEntry
  logFlash : List LogEntry
  logSeq : Nat
  logLost : Nat
  boots : Nat
  sent : List Out
  deriving DecidableEq, Repr

/-- The machine right after reset. -/
def State.reset : State where
  elapsed := 0
  freeCtr := 0
  pending := []
  nibs := []
  cores := []
  petals := []
  pages := []
  launches := []
  waiters := []
  ctr := []
  wrapped := []
  windows := []
  msixOwner := []
  msixTable := []
  msixPend := []
  pcie := Pcie.new
  busMaster := false
  ready := false
  devArea := Area.new
  mem := []
  poison := []
  plots := []
  retired := []
  sparesUsed := []
  frameCorr := []
  unitCorr := []
  unitFailed := []
  moves := []
  walks := []
  scratchWalks := []
  scrubHbm := 2000000
  scrubLpddr := 600000
  scrubHub := 1000000
  hbmFilled := false
  lpddrFilled := false
  keysWithdrawn := false
  bus := []
  net := Net.new
  rdma := Rdma.new
  keySess := []
  cphQs := []
  cphReqs := []
  comms := []
  colOps := []
  sclQps := []
  sclCmds := []
  vols := []
  sclIgnored := []
  ctxs := []
  atnEntries := []
  sec := Sec.new
  pwr := Pwr.new
  ink := Ink.new
  board := Board.new
  irq := ⟨[], []⟩
  jtag := Jtag.new
  logBuf := []
  logFlash := []
  logSeq := 0
  logLost := 0
  boots := 0
  sent := []

end Sys2Proof.Machine
end

