-- ==== Sys2Proof/Machine/Ops.lean ====
section
/-!
DEFINITION. The named operations over State that the chapters share: free values, counters, the event log, petal memory,
rings and their completion records, MSI-X messages, device-issued writes, and command tags.
-/

namespace Sys2Proof.Machine

/-! ### Status codes (R7) -/
def stOk : Nat := 0x00
def stPending : Nat := 0x01
def stBusy : Nat := 0x02
def stInvalidOpcode : Nat := 0x03
def stInvalidArgument : Nat := 0x04
def stNoResources : Nat := 0x05
def stNotPermitted : Nat := 0x06
def stNotQuiesced : Nat := 0x07
def stVersionRefused : Nat := 0x08
def stLengthError : Nat := 0x09
def stAuthFailed : Nat := 0x0A
def stNotFound : Nat := 0x0B
def stAlreadyComplete : Nat := 0x0C
def stAborted : Nat := 0x0D
def stTimeout : Nat := 0x0E
def stDeviceFault : Nat := 0x0F
def stFrozen : Nat := 0x10
def stLeaseExpired : Nat := 0x11
def stRevoked : Nat := 0x12

/-! ### Free values -/

/-- Advances the counter of free values: each meaning that draws does so once, first. -/
def fresh (s : State) : State := { s with freeCtr := s.freeCtr + 1 }

/-- Free value `i` of the present draw. -/
def freeVal (s : State) (i : Nat) : Nat := Config.free s.freeCtr i

/-! ### Counter groups (R257, R258) -/

def ctrKey (kind inst fld : Nat) : Nat := kind * 2 ^ 48 + inst * 2 ^ 8 + fld
def grpKey (kind inst : Nat) : Nat := kind * 2 ^ 40 + inst

/-- R258: counts up; past 2^64 − 1 a field continues from zero and sets its group's wrapped bit. -/
def count (s : State) (kind inst fld n : Nat) : State :=
  let v := lookD s.ctr (ctrKey kind inst fld) 0 + n
  if 2 ^ 64 ≤ v then
    { s with ctr := put s.ctr (ctrKey kind inst fld) (v % 2 ^ 64), wrapped := put s.wrapped (grpKey kind inst) true }
  else { s with ctr := put s.ctr (ctrKey kind inst fld) v }

def countVal (s : State) (kind inst fld : Nat) : Nat := lookD s.ctr (ctrKey kind inst fld) 0

/-- Sets a field that is a gauge. -/
def gauge (s : State) (kind inst fld v : Nat) : State := { s with ctr := put s.ctr (ctrKey kind inst fld) v }

/-- Sets a counter group to its reset values. -/
def resetGroup (s : State) (kind inst : Nat) : State :=
  { s with ctr := sel s.ctr (fun k _ => k / 2 ^ 8 != kind * 2 ^ 40 + inst), wrapped := del s.wrapped (grpKey kind inst) }

def kMemPetal : Nat := 0x01
def kMemUnit : Nat := 0x02
def kLch : Nat := 0x03
def kCol : Nat := 0x04
def kAtn : Nat := 0x05
def kPtl : Nat := 0x06
def kSyn : Nat := 0x0D
def kIrq : Nat := 0x0E
def kSynDev : Nat := 0x0F

/-! ### The event log (R519, R520) -/

/-- R514, R515, R527: alarm bits latch; each newly latched bit sends a PlatformEventMessage to the event receiver: format version 1,
the terminus, a sensor event of state sensor 0x0500, the bit, and its new and previous states. -/
def latchAlarms (s : State) (mask : Nat) : State :=
  let new := (List.range 8).filter (fun i => bitAt mask i && !bitAt s.ink.latched.toNat i)
  let msgs := match s.ink.side.receiver with
    | some _ => new.map (fun i => Out.sideband 3 0x0A ([1, s.ink.side.tid, 0, 0x00, 0x05, 1, BitVec.ofNat 8 i, 2, 1]))
    | none => []
  { s with ink := { s.ink with latched := s.ink.latched ||| BitVec.ofNat 8 mask }, sent := s.sent ++ msgs }

/-- R520: an entry enters the buffer of 1,024; a full buffer drops the entry of lowest severity, the oldest of those, which latches
alarm bit 7. -/
def logAdd (s : State) (source severity : Nat) (what : String) (inst petal : Nat) (payload : List Byte) : State :=
  let e : LogEntry := ⟨s.logSeq, s.elapsed, s.boots, severity, source, what, inst, petal, payload⟩
  let add := s.logBuf ++ [e]
  if add.length ≤ 1024 then { s with logBuf := add, logSeq := s.logSeq + 1 }
  else
    let low := add.foldl (fun m x => min m x.severity) 7
    match add.find? (fun x => x.severity == low) with
    | some d =>
      latchAlarms { s with logBuf := add.filter (fun x => x.seq != d.seq), logSeq := s.logSeq + 1, logLost := s.logLost + 1 } 0x80
    | none => { s with logBuf := add, logSeq := s.logSeq + 1 }

/-- R519, R520: creates an entry; the first after a loss is preceded by a log_loss entry with the count of the entries lost. -/
def logEvent (s : State) (source severity : Nat) (what : String) (inst petal : Nat) (payload : List Byte) : State :=
  let s := if s.logLost = 0 then s else logAdd { s with logLost := 0 } 0 2 "log_loss" 0 0xFFFF (leBytes 8 s.logLost)
  logAdd s source severity what inst petal payload

/-- The petal field of an entry that names none (R519). -/
def noPetal : Nat := 0xFFFF

/-! ### Nibs, cores, petals -/

def getNib (s : State) (n : Nat) : Nib := lookD s.nibs n Nib.zero
def setNib (s : State) (n : Nat) (x : Nib) : State := { s with nibs := put s.nibs n x }
def getCore (s : State) (k : Nat) : Core := lookD s.cores k Core.zero
def setCore (s : State) (k : Nat) (x : Core) : State := { s with cores := put s.cores k x }
def getPetal (s : State) (p : Nat) : Option Petal := look s.petals p
def setPetal (s : State) (p : Nat) (x : Petal) : State := { s with petals := put s.petals p x }
/-- Changes a petal that exists. -/
def modPetal (s : State) (p : Nat) (f : Petal → Petal) : State := { s with petals := upd s.petals p f }
def getPage (s : State) (g : Nat) : MPage := lookD s.pages g MPage.new
def setPage (s : State) (g : Nat) (x : MPage) : State := { s with pages := put s.pages g x }

/-! ### The resource record (R268) -/

def recCores (r : BitVec 1024) : Nat := fld r.toNat 0 0 10
def recTags (r : BitVec 1024) : Nat := fld r.toNat 0 16 14
def recHbm (r : BitVec 1024) : Nat := fld r.toNat 4 0 10
def recLpddr (r : BitVec 1024) : Nat := fld r.toNat 4 16 10
def recQpResident (r : BitVec 1024) : Nat := fld r.toNat 8 0 15
def recScroll (r : BitVec 1024) : Nat := fld r.toNat 8 16 13
def recKeySlots (r : BitVec 1024) : Nat := fld r.toNat 0xC 0 13
def recQueues (r : BitVec 1024) : Nat := fld r.toNat 0xC 16 7
def recCounters (r : BitVec 1024) : Nat := fld r.toNat 0x10 0 17
def recQpTotal (r : BitVec 1024) : Nat := fld r.toNat 0x14 0 21

/-- R133: the plot slots of a petal. -/
def slotsOf (x : Petal) : Nat := recHbm x.record + recLpddr x.record

/-- R134: is every byte of a PDA range inside the petal's slots, or inside its hub page? -/
def pdaInside (x : Petal) (a n : Nat) : Bool := pdaRange (slotsOf x) a n

/-! ### Petal memory (06) -/

/-- The model's key of a petal's byte: its petal and PDA. -/
def memKey (p a : Nat) : Nat := p * 2 ^ 48 + a % 2 ^ 48

/-- R150: does the cipher hold the petal's key now? -/
def keyPresent (s : State) (p : Nat) : Bool :=
  match getPetal s p with
  | some x => x.xts.isSome && !(s.keysWithdrawn && !x.control)
  | none => false

/-- The bytes of [a, a + n) of a petal's memory; a byte the petal has not written is unspecified (R159). -/
def memRead (s : State) (p a n : Nat) : List Byte :=
  loadBytes s.mem (fun k => Config.residual s.freeCtr k) (memKey p a) n

/-- A little-endian field of petal memory. -/
def memNat (s : State) (p a n : Nat) : Nat := leNat (memRead s p a n)

/-- The PDA lines that a range touches. -/
def pdaLines (a n : Nat) : List Nat := linesOf a n

/-- A frame is numbered unit × 65536 + plot × 512 + page, units 0–7 HBM stacks and 8–23 LPDDR packages (R13, R135). -/
def frameOf (unit plot page : Nat) : Nat := unit * 65536 + plot * 512 + page
def frameUnit (f : Nat) : Nat := f / 65536
def framePlot (f : Nat) : Nat := f % 65536 / 512

/-- R133: the frame a page has at creation. -/
def homeFrame (x : Petal) (page : Nat) : Nat :=
  let slot := page / 512
  let h := x.hbm.length
  match (if slot < h then x.hbm[slot]? else x.lpddr[slot - h]?) with
  | some (u, q) => frameOf u q (page % 512)
  | none => 0

/-- R133, R141: the frame that holds a page now. -/
def frameAt (x : Petal) (page : Nat) : Nat := lookD x.loc page (homeFrame x page)

/-- Is the frame in HBM? -/
def inHbm (f : Nat) : Bool := decide (frameUnit f < 8)

/-- A memory unit that has failed (R544). -/
def isFailed (s : State) (u : Nat) : Bool := look s.unitFailed u == some true

/-- R544: does a line of a petal's memory lie in a frame of a failed device? The hub page has no frame. -/
def lineFailed (s : State) (p l : Nat) : Bool :=
  if s.unitFailed = [] ∨ 0xFFFFFFFF8000 / 64 ≤ l then false
  else match getPetal s p with
    | some x => isFailed s (frameUnit (frameAt x (l / 32768)))
    | none => false

/-- R152, R544: does a line, by PDA line number, read uncorrectable? -/
def lineBad (s : State) (p l : Nat) : Bool := look s.poison (memKey p (64 * l) / 64) == some true || lineFailed s p l

/-- The first line of a range that reads uncorrectable. -/
def poisonIn (s : State) (p a n : Nat) : Option Nat := (pdaLines a n).find? (lineBad s p)

/-- R139, R160: counts the line accesses of a range to its pages' heat and to the petal's counters. The hub page has no
frame. -/
def touchLines (s : State) (p a n : Nat) : State :=
  (pdaLines a n).foldl (fun s l =>
    if 0xFFFFFFFF8000 / 64 ≤ l then s
    else
      match getPetal s p with
      | none => s
      | some x =>
        let page := l / 32768
        let s := count s kMemPetal p (if inHbm (frameAt x page) then 8 else 9) 1
        setPetal s p { x with heatCount := put x.heatCount page (min 65535 (lookD x.heatCount page 0 + 1)) }) s

/-- A read of a range: its line accesses, and those that read uncorrectable, are counted (R160). -/
def touch (s : State) (p a n : Nat) : State :=
  touchLines (count s kMemPetal p 11 ((pdaLines a n).filter (lineBad s p)).length) p a n

/-- The pieces of a byte list that fall into single 64-byte lines, from address a on. -/
def linePieces (a : Nat) (bs : List Byte) : List (Nat × List Byte) :=
  (linesOf a bs.length).map (fun l =>
    let lo := max a (64 * l)
    let hi := min (a + bs.length) (64 * l + 64)
    (lo, (bs.drop (lo - a)).take (hi - lo)))

/-- R152: writes one line's bytes: a whole line clears poison, a part of a poisoned line is discarded, and a line of a failed device
takes none (R544). Answers whether the bytes were written. -/
def writeLine (s : State) (p : Nat) (piece : Nat × List Byte) : State × Bool :=
  let key := memKey p piece.1
  let bad := look s.poison (key / 64) == some true
  if lineFailed s p (piece.1 / 64) then (s, false)
  else if bad && decide (piece.2.length < 64) then (count s kMemPetal p 11 1, false)
  else ({ s with mem := storeBytes s.mem key piece.2, poison := if bad then del s.poison (key / 64) else s.poison }, true)

/-- A write of bytes into a petal's memory through the inline cipher (R16, R148). Without a key nothing is written (R150).
Answers whether every line was written. -/
def memWrite (s : State) (p a : Nat) (bs : List Byte) : State × Bool :=
  if keyPresent s p then
    (linePieces a bs).foldl (fun acc piece =>
      let r := writeLine acc.1 p piece
      (r.1, acc.2 && r.2)) (touchLines s p a bs.length, true)
  else (s, false)

/-- The state after a memory write whose outcome is not reported. -/
def memPut (s : State) (p a : Nat) (bs : List Byte) : State := (memWrite s p a bs).1

/-! ### Device-issued requests to bus addresses (R302, R316, R322, R334) -/

def swPort (s : State) (i : Nat) : SwPort := lookD s.pcie.ports i SwPort.new
def setSwPort (s : State) (i : Nat) (x : SwPort) : State := { s with pcie := { s.pcie with ports := put s.pcie.ports i x } }

/-- The binding of a petal by index. -/
def bindingOf (s : State) (p bind : Nat) : Nat :=
  ((getPetal s p).bind (fun x => x.bindings[bind]?)).getD 0 |>.toNat

/-- The PASID of a request under a binding; 2^20 where it carries none (R273, R322). -/
def pasidOf (b : Nat) : Nat := if bitAt b 36 then bitsOf b 16 20 else 2 ^ 20

/-- R322: the translated address of a request; none where the translation is refused. Without ATS it is the address. -/
def translate (s : State) (b a : Nat) (write : Bool) : Option Nat :=
  if !s.pcie.ats then some a
  else
    let hit (x : Xlat) : Bool := x.pasid == pasidOf b && x.page == a / 4096 && (x.write || !write)
    ((s.pcie.atc.find? hit).or (s.pcie.host.find? hit)).map (fun x => x.target * 4096 + a % 4096)

/-- R322, R323: the translation that a request uses is held; the cache holds 8,192, and the oldest leaves it. -/
def holdXlat (s : State) (b a : Nat) : State :=
  if !s.pcie.ats then s
  else
    let is (x : Xlat) : Bool := x.pasid == pasidOf b && x.page == a / 4096
    if s.pcie.atc.any is then s
    else
      match s.pcie.host.find? is with
      | some x =>
        let l := s.pcie.atc ++ [x]
        { s with pcie := { s.pcie with atc := if 8192 < l.length then l.drop 1 else l } }
      | none => s

/-- A window of a bridge by its base and limit register, whose upper twelve bits of each half are address bits [31:20], and the upper
halves of both: base and length. -/
def bridgeWindow (v hiBase hiLimit : Nat) : Nat × Nat :=
  let base := bitsOf v 4 12 * 2 ^ 20 + hiBase * 2 ^ 32
  let limit := bitsOf v 20 12 * 2 ^ 20 + 2 ^ 20 + hiLimit * 2 ^ 32
  (base, limit - base)

/-- R302: the bus ranges that the memory windows of the downstream ports claim: port 1 to 8, base, length. -/
def dsWindows (s : State) : List (Nat × Nat × Nat) :=
  (List.range' 1 8).flatMap (fun i =>
    let x := swPort s i
    if x.memOn then
      [bridgeWindow x.memWin.toNat 0 0, bridgeWindow x.pfWin.toNat x.pfBaseHi.toNat x.pfLimitHi.toNat].map (fun w => (i, w.1, w.2))
    else [])

/-- R302, R322: the port that the integrated switch routes a request of PF0 to: a downstream port whose windows claim the
address and whose ACS settings allow it, and otherwise the upstream port, 0. -/
def routeOf (s : State) (a : Nat) : Nat :=
  match (dsWindows s).find? (fun w => decide (w.2.1 ≤ a) && decide (a < w.2.1 + w.2.2)) with
  | some w =>
    let acs := (swPort s w.1).acs.toNat
    if !bitAt acs 2 || (s.pcie.ats && bitAt acs 6) then w.1 else 0
  | none => 0

/-- Why a request to a bus address cannot be issued: LEASE_EXPIRED where it is withheld toward the upstream port (R302, R327),
DEVICE_FAULT where it fails as a completer abort would (R316, R322, R334). -/
def busWhy (s : State) (p bind a : Nat) (write : Bool) : Option Nat :=
  let b := bindingOf s p bind
  match translate s b a write with
  | none => some stDeviceFault
  | some t =>
    if !bitAt b 37 || !s.busMaster then some stDeviceFault
    else if routeOf s t = 0 then
      (if ((getPetal s p).map (·.upstreamHeld)).getD false then some stLeaseExpired
       else if (swPort s 0).up then none else some stDeviceFault)
    else if (swPort s (routeOf s t)).up then none else some stDeviceFault

/-- R322: issues a posted write to a bus address; the answer says why it was not issued. -/
def busWrite (s : State) (p bind a : Nat) (bs : List Byte) : State × Option Nat :=
  match busWhy s p bind a true with
  | some e => (s, some e)
  | none =>
    let t := (translate s (bindingOf s p bind) a true).getD a
    let s := holdXlat s (bindingOf s p bind) a
    (count { s with bus := storeBytes s.bus t bs, sent := s.sent ++ [.dmaWrite p t bs] } kPtl p 1 bs.length, none)

/-- The bytes at a bus address; those that the model does not hold come from outside (R18). -/
def busBytes (s : State) (p bind a n : Nat) : List Byte :=
  loadBytes s.bus (fun k => Config.foreign s.freeCtr k) ((translate s (bindingOf s p bind) a false).getD a) n

/-- R197: the forms of a buffer address. -/
inductive BufAddr
  | pda (a : Nat)
  | bus (a : Nat)
  | absent
  | malformed
  deriving DecidableEq, Repr

/-- R197: reads the form. -/
def bufAddr (x : Nat) : BufAddr :=
  if x = 2 ^ 64 - 1 then .absent
  else if bitAt x 63 then (if bitsOf x 57 6 = 0 then .bus (bitsOf x 0 57) else .malformed)
  else if bitsOf x 48 15 = 0 then .pda (bitsOf x 0 48) else .malformed

/-! ### MSI-X (R305) -/

/-- R305: sends the message of a vector, or sets its pending bit where it is masked or withheld. A vector owned by none
never sends. -/
def sendMsix (s : State) (vec : Nat) : State :=
  match look s.msixOwner vec with
  | none => s
  | some o =>
    let e := (lookD s.msixTable vec (1 <<< 96)).toNat
    let held := match getPetal s o with | some x => x.msixHeld | none => false
    if held || bitAt e 96 || !s.pcie.msixEnable || s.pcie.msixMask || !s.busMaster then { s with msixPend := put s.msixPend vec true }
    else { s with sent := s.sent ++ [.msix vec (BitVec.ofNat 64 (bitsOf e 0 64)) (BitVec.ofNat 32 (bitsOf e 64 32))] }

/-! ### Buffers (R197) -/

/-- The bytes of a buffer, by the form of its address. -/
def bufRead (s : State) (p bind addr n : Nat) : List Byte :=
  match bufAddr addr with
  | .pda a => memRead s p a n
  | .bus a => busBytes s p bind a n
  | _ => List.replicate n 0

/-- Writes a buffer; the answer says why a bus write was not issued. -/
def bufWrite (s : State) (p bind addr : Nat) (bs : List Byte) : State × Option Nat :=
  match bufAddr addr with
  | .pda a => (memPut s p a bs, none)
  | .bus a => busWrite s p bind a bs
  | _ => (s, none)

/-- Does a buffer in petal memory meet a poisoned line? -/
def bufPoison (s : State) (p addr n : Nat) : Bool :=
  match bufAddr addr with
  | .pda a => (poisonIn s p a n).isSome
  | _ => false

/-- Why a bus buffer cannot be reached now; a PDA buffer always can. -/
def bufWhy (s : State) (p bind addr : Nat) (write : Bool) : Option Nat :=
  match bufAddr addr with
  | .bus a => busWhy s p bind a write
  | _ => none

/-- Counts the accesses of a buffer. -/
def bufTouch (s : State) (p addr n : Nat) : State :=
  match bufAddr addr with
  | .pda a => touch s p a n
  | .bus _ => count s kPtl p 0 n
  | _ => s

/-- R345, row 6, and the rules that follow it: may a petal name this buffer: a PDA inside its memory, or a bus address under a
binding? `bind` 0xF or 0xFF names none. -/
def bufOk (s : State) (p bind addr n : Nat) : Bool :=
  match bufAddr addr with
  | .pda a => ((getPetal s p).map (fun x => pdaInside x a n)).getD false && keyPresent s p
  | .bus _ => decide (bind < 4)
  | _ => false

/-! ### Requests of PF0 that wait for completions (R324, R325) -/

/-- R325: a tag is in use while its request has no completion, or while it is held after a timeout. -/
def tagBusy (c : Pcie) (t : Nat) : Bool := c.reqs.any (fun r => r.tag == t) || c.heldTags.any (fun h => h.1 == t)

/-- The first tag from t on that is not in use. -/
def pickTag (c : Pcie) : Nat → Nat → Nat
  | 0, t => t
  | n + 1, t => if tagBusy c t then pickTag c n ((t + 1) % 16384) else t

/-- A task of a petal issues a read of a bus buffer. -/
def dmaIssue (s : State) (p bind addr task : Nat) : State :=
  match bufAddr addr with
  | .bus a =>
    let b := bindingOf s p bind
    match busWhy s p bind a false with
    | some _ => { s with pcie := { s.pcie with failed := s.pcie.failed ++ [(p, task)] } }
    | none =>
      let t := (translate s b a false).getD a
      let s := holdXlat s b a
      let g := pickTag s.pcie (s.pcie.reqs.length + s.pcie.heldTags.length) s.pcie.nextTag
      let r : PcieReq := ⟨g, routeOf s t, p, task, pasidOf b, a / 4096, s.elapsed⟩
      { s with pcie := { s.pcie with reqs := s.pcie.reqs ++ [r], nextTag := (g + 1) % 16384 } }
  | _ => s

/-- Does a task wait for a completion? -/
def dmaPending (s : State) (p task : Nat) : Bool := s.pcie.reqs.any (fun r => r.petal == p && r.task == task)

/-- Has a request of a task failed? -/
def dmaFailed (s : State) (p task : Nat) : Bool := s.pcie.failed.contains (p, task)

/-- The failures of a task are forgotten when it ends. -/
def dmaForget (s : State) (p task : Nat) : State :=
  { s with pcie := { s.pcie with failed := s.pcie.failed.filter (· != (p, task)) } }

/-- Sends where a vector is named; 0xFFFF and 0xFFF name none. -/
def sendVector (s : State) (vec : Nat) : State := if vec < 2048 then sendMsix s vec else s

/-! ### Rings (R169, R170) -/

/-- R169: the entries offered and not accepted. -/
def ringOffered (r : Ring) : Nat := (r.sqTail + 2 ^ r.sqLog - r.sqHead) % 2 ^ r.sqLog

/-- R169: is a completion entry free? -/
def ringFree (r : Ring) : Bool := decide (r.cqUsed + r.reserved < 2 ^ r.cqLog)

/-- R168, R169: a tail write; none where it is ignored and counted. -/
def ringTail (r : Ring) (v : Nat) : Option Ring :=
  if 2 ^ r.sqLog ≤ v then none
  else if (v + 2 ^ r.sqLog - r.sqHead) % 2 ^ r.sqLog < ringOffered r then none
  else some { r with sqTail := v }

/-- R168, R169: a completion head write; none where it is ignored and counted. -/
def ringHead (r : Ring) (v : Nat) : Option Ring :=
  let d := (v + 2 ^ r.cqLog - r.cqHead) % 2 ^ r.cqLog
  if 2 ^ r.cqLog ≤ v then none
  else if r.cqUsed < d then none
  else some { r with cqHead := v, cqUsed := r.cqUsed - d }

/-- R169: takes the next entry: the head advances and one completion entry is reserved. -/
def ringTake (r : Ring) : Ring := { r with sqHead := (r.sqHead + 1) % 2 ^ r.sqLog, reserved := r.reserved + 1 }

/-- R307: a completion record as a 256-bit number. -/
def record (tag status queue result seq detail : Nat) (phase : Bool) : Nat :=
  tag % 2 ^ 16 + status % 2 ^ 8 * 2 ^ 16 + b2n phase * 2 ^ 24 + queue % 2 ^ 16 * 2 ^ 32 +
    result % 2 ^ 64 * 2 ^ 64 + seq % 2 ^ 64 * 2 ^ 128 + detail % 2 ^ 24 * 2 ^ 192

/-- The ring after a record has been written into its entry CQ_TAIL (R170). -/
def ringAdvance (r : Ring) : Ring :=
  let t := (r.cqTail + 1) % 2 ^ r.cqLog
  { r with cqTail := t, cqUsed := r.cqUsed + 1, seq := r.seq + 1, phase := if t = 0 then !r.phase else r.phase }

/-- R168, R169: a write of an ignored doorbell is counted in LCH.doorbells_ignored, for launch, collective, attention and cipher doorbells alike. -/
def doorbellIgnored (s : State) (p : Nat) : State := count s kLch p 7 1

/-- R170, R307: writes one completion record into the ring's memory, advances the tail and sends the vector. `reservedEntry`
says whether it uses an entry that accepted work reserved. -/
def ringPost (s : State) (p : Nat) (r : Ring) (queue tag status result detail : Nat) (reservedEntry : Bool) : State × Ring :=
  let rec_ := record tag status queue result r.seq detail r.phase
  let s := memPut s p (r.cqPda + 32 * r.cqTail) (leBytes 32 rec_)
  let r := ringAdvance r
  (sendVector s r.msix, if reservedEntry then { r with reserved := r.reserved - 1 } else r)

/-- The same for a ring whose address has the form of R197; the last answer is why a bus write was not issued. -/
def ringPostBus (s : State) (p bind : Nat) (r : Ring) (queue tag status result detail : Nat) : State × Ring × Option Nat :=
  let rec_ := record tag status queue result r.seq detail r.phase
  let w := bufWrite s p bind (r.cqPda + 32 * r.cqTail) (leBytes 32 rec_)
  let r := ringAdvance r
  (sendVector w.1 r.msix, { r with reserved := r.reserved - 1 }, w.2)

/-! ### Command tags (R183) -/

def tagHeld (x : Petal) (t : Nat) : Bool := (look x.tags t).isSome
def holdTag (s : State) (p t : Nat) (u : TagUse) : State := modPetal s p (fun x => { x with tags := put x.tags t u })
def freeTag (s : State) (p t : Nat) : State := modPetal s p (fun x => { x with tags := del x.tags t })

/-! ### Pending commands (R296) -/

/-- Gives every pending command that waits for `why` on a page its outcome, if it has none yet. -/
def resolveOn (s : State) (g : Nat) (why : PendWhy) (r : Reply) : State :=
  let pg := getPage s g
  setPage s g { pg with pends := pg.pends.map (fun q => if q.why = why ∧ q.outcome = none then { q with outcome := some r } else q) }

/-- The same on every page. -/
def resolve (s : State) (why : PendWhy) (r : Reply) : State :=
  { s with pages := mapT s.pages (fun _ pg =>
      { pg with pends := pg.pends.map (fun q => if q.why = why ∧ q.outcome = none then { q with outcome := some r } else q) }) }

def replyOk : Reply := ⟨stOk, 0, 0, 0⟩
def replyErr (st detail : Nat) : Reply := ⟨st, detail, 0, 0⟩
/-- An OK response with a payload of `n` bytes. -/
def replyData (payload n : Nat) : Reply := ⟨stOk, 0, payload, n⟩

/-- R264: a task of a petal has completed, and the aborts that wait for it return. -/
def resolveTask (s : State) (p t : Nat) : State :=
  resolve (resolve s (.taskEnd p t true) replyOk) (.taskEnd p t false) (replyErr stAlreadyComplete 0)

/-! ### Leaving power levels (R492, R496, R500) -/

/-- R490: the unit kinds. -/
def ukNib : Nat := 0
def ukCore : Nat := 1
def ukCluster : Nat := 2
def ukDie : Nat := 3
def ukHub : Nat := 4
def ukModule : Nat := 5

/-- The key of a unit: kind and number. -/
def unitKey (kind u : Nat) : Nat := kind * 4096 + u

/-- R490, R492: a unit with the units that contain it. -/
def unitChain (kind u : Nat) : List Nat :=
  let die (d : Nat) : List Nat := [unitKey ukDie d]
  let cluster (c : Nat) : List Nat := unitKey ukCluster c :: die (c / 16)
  let core (k : Nat) : List Nat := unitKey ukCore k :: cluster (k / 8)
  match kind with
  | 0 => unitKey ukNib u :: core (u / 4)
  | 1 => core u
  | 2 => cluster u
  | 3 => die u
  | _ => [unitKey kind u]

/-- R496: a unit and its containers return to W0. -/
def wakeUnit (s : State) (kind u : Nat) : State :=
  { s with pwr := { s.pwr with levels := s.pwr.levels.filter (fun e => !(unitChain kind u).contains e.1) } }

/-- R500: the module leaves W1 to W3 for W0; parked frames are back in HBM and links are in L0 again. -/
def awake (s : State) : State :=
  if 1 ≤ s.pwr.module ∧ s.pwr.module ≤ 3 then
    { s with
      pwr := { s.pwr with module := 0, parked := false, wokeAt := s.elapsed, levels := s.pwr.levels.filter (fun e => e.1 / 4096 != ukHub) }
      pcie := { s.pcie with ports := mapT s.pcie.ports (fun _ x => { x with l1 := 0 }) } }
  else s

/-- R6: has a bound of `ns` nanoseconds passed since a moment? -/
def elapsedAtLeast (s : State) (since : W64) (ns : Nat) : Bool := decide (since.toNat * 10 + ns ≤ s.elapsed.toNat * 10)

end Sys2Proof.Machine
end

