-- ==== Sys2Proof/Machine/Boot.lean ====
section
/-!
DEFINITION. Firmware images, the calibration table and debug levels as other chapters ask for them (R468, R469, R475, R522).
-/

namespace Sys2Proof.Machine

/-- The `n` bytes from offset `a` on. -/
def bytesAt (l : List Byte) (a n : Nat) : List Byte := (l.drop a).take n

/-- A little-endian field of `n` bytes at offset `a`. -/
def natAt (l : List Byte) (a n : Nat) : Nat := leNat (bytesAt l a n)

def zeros (n : Nat) : List Byte := List.replicate n 0

/-- A list cut or filled with zeros to `n` bytes. -/
def fitTo (n : Nat) (l : List Byte) : List Byte := l.take n ++ zeros (n - l.length)

/-! ### Flash (R518) -/

def slotOf (s : State) (b : Bool) : FwSlot := if b then s.sec.slotB else s.sec.slotA

def setSlot (s : State) (b : Bool) (x : FwSlot) : State :=
  { s with sec := if b then { s.sec with slotB := x } else { s.sec with slotA := x } }

/-- The image that a slot holds; empty where it holds none. -/
def slotImage (s : State) (b : Bool) : List Byte :=
  match (slotOf s b).content with
  | .factory => Config.factoryImage b
  | .written l => l
  | .erased => []

/-- The bytes of a calibration table. -/
def calBytes : Flash → List Byte
  | .factory => Config.factoryTable
  | .written l => l
  | .erased => []

/-! ### Images (R468, R469) -/

/-- R468: the image digest. -/
def imageDigest (l : List Byte) : List Byte := sha3 (bytesAt l 0 0x40 ++ l.drop 0x1000)

/-- R468: is the header well formed? -/
def imageFormed (l : List Byte) : Bool :=
  natAt l 0 4 == 0x57463159 && natAt l 4 2 == 1 && natAt l 6 2 == 0 && natAt l 8 4 == l.length &&
    decide (0x1001 ≤ l.length) && decide (l.length ≤ 100663296) && decide (natAt l 0xC 4 < 64) &&
    bytesAt l 0x18 0x28 == zeros 0x28 && bytesAt l 0x9D4 0x62C == zeros 0x62C

/-- R468: the security version. -/
def imageVersion (l : List Byte) : Nat := natAt l 0xC 4 % 64

/-- R469: does the digest agree and the signature verify? -/
def imageSigned (l : List Byte) : Bool :=
  imageDigest l == bytesAt l 0x40 32 && Config.dsaVerify Config.firmwareKey (bytesAt l 0x40 32) (bytesAt l 0x60 2420)

/-- R469: does the ROM accept the image of a slot? -/
def imageBoots (s : State) (b : Bool) : Bool :=
  let l := slotImage s b
  imageFormed l && imageSigned l && decide (s.sec.rollback ≤ imageVersion l)

/-- The image that booted. -/
def bootedImage (s : State) : List Byte := slotImage s s.board.slot

/-- HFI_FW_BUILD (R288, R468). -/
def fwBuild (s : State) : W32 := BitVec.ofNat 32 (natAt (bootedImage s) 0x10 4)

/-! ### Debug levels (R475) -/

/-- The session of a page. -/
def sessionOf (s : State) (g : Nat) : Option DbgSess := look s.sec.sessions g

/-- The device debug level: that of the device page's session, number 512 among the pages. -/
def deviceLevel (s : State) : Nat := ((sessionOf s 512).map (·.level)).getD 0

/-- Is a D1 session open on a petal? -/
def petalDebug (s : State) (p : Nat) : Bool := decide (p < 512) && (sessionOf s p).isSome

end Sys2Proof.Machine
end

