-- ==== Sys2Proof/Machine/NibMem.lean ====
section
/-!
DEFINITION. The M-class syllables: scratch loads and stores (R118, R119).
-/

namespace Sys2Proof.Machine

/-- R118: the effective address of a long form: g[a] + sext(imm14) × n, modulo 2^32. -/
def eaLI (c : Ctx) (f : LI) (n : Nat) : W32 := rdGEarly c f.a.toNat + sext32 14 f.imm.toNat * BitVec.ofNat 32 n
/-- R118: the effective address of a short form. -/
def eaSA (c : Ctx) (f : SA) : W32 := rdGEarly c f.b.toNat

/-- A load into a g register, class L3, with the extension given (R119). -/
def loadG (c : Ctx) (d : Nat) (ea : W32) (n : Nat) (ext : Nat → W32) : SylOut :=
  loadScratch c ea n (fun bs => [.g d (ext (leNat bs)) 3])
/-- A load into a v register: bytes n to 255 become zero (R119). -/
def loadV (c : Ctx) (d : Nat) (ea : W32) (n : Nat) : SylOut :=
  loadScratch c ea n (fun bs => [effV d (leNat bs) 3])
/-- A store of the low n bytes of a g register (R119). -/
def storeG (c : Ctx) (x : W32) (ea : W32) (n : Nat) : SylOut := storeScratch c ea (leBytes n x.toNat)
/-- A store of bytes 0 to n − 1 of a v register (R119). -/
def storeV (c : Ctx) (d : Nat) (ea : W32) (n : Nat) : SylOut := storeScratch c ea (leBytes n (rdV c d))

/-- R119. -/
def semLdb (c : Ctx) (f : LI) : SylOut := loadG c f.d.toNat (eaLI c f 1) 1 (sext32 8)
/-- R119. -/
def semLdbu (c : Ctx) (f : LI) : SylOut := loadG c f.d.toNat (eaLI c f 1) 1 (BitVec.ofNat 32)
/-- R119. -/
def semLdh (c : Ctx) (f : LI) : SylOut := loadG c f.d.toNat (eaLI c f 2) 2 (sext32 16)
/-- R119. -/
def semLdhu (c : Ctx) (f : LI) : SylOut := loadG c f.d.toNat (eaLI c f 2) 2 (BitVec.ofNat 32)
/-- R119. -/
def semLdw (c : Ctx) : SAorLI → SylOut
  | .short f => loadG c f.a.toNat (eaSA c f) 4 (BitVec.ofNat 32)
  | .long f => loadG c f.d.toNat (eaLI c f 4) 4 (BitVec.ofNat 32)
/-- R119. -/
def semStb (c : Ctx) (f : LI) : SylOut := storeG c (rdG c f.d) (eaLI c f 1) 1
/-- R119. -/
def semSth (c : Ctx) (f : LI) : SylOut := storeG c (rdG c f.d) (eaLI c f 2) 2
/-- R119. -/
def semStw (c : Ctx) : SAorLI → SylOut
  | .short f => storeG c (rdG4 c f.a) (eaSA c f) 4
  | .long f => storeG c (rdG c f.d) (eaLI c f 4) 4
/-- R119. -/
def semVld64 (c : Ctx) (f : LI) : SylOut := loadV c f.d.toNat (eaLI c f 64) 64
/-- R119. -/
def semVld128 (c : Ctx) (f : LI) : SylOut := loadV c f.d.toNat (eaLI c f 128) 128
/-- R119. -/
def semVld256 (c : Ctx) : SAorLI → SylOut
  | .short f => loadV c f.a.toNat (eaSA c f) 256
  | .long f => loadV c f.d.toNat (eaLI c f 256) 256
/-- R119. -/
def semVst64 (c : Ctx) (f : LI) : SylOut := storeV c f.d.toNat (eaLI c f 64) 64
/-- R119. -/
def semVst128 (c : Ctx) (f : LI) : SylOut := storeV c f.d.toNat (eaLI c f 128) 128
/-- R119. -/
def semVst256 (c : Ctx) : SAorLI → SylOut
  | .short f => storeV c f.a.toNat (eaSA c f) 256
  | .long f => storeV c f.d.toNat (eaLI c f 256) 256

/-- R118: fn[3:0] is 3 to 8 and fn[8:5] is 0. -/
def indexLegal (f : IndexForm) : Bool := decide (3 ≤ f.log.toNat) && decide (f.log.toNat ≤ 8) && f.top == 0
/-- R118: the effective address of an LR form: g[a] + g[b]. -/
def eaIndex (c : Ctx) (f : IndexForm) : W32 := rdGEarly c f.a.toNat + rdGEarly c f.b.toNat
/-- R118, R119. -/
def semVldx (c : Ctx) (f : IndexForm) : SylOut :=
  legalIf (indexLegal f) (loadV c f.d.toNat (eaIndex c f) (2 ^ f.log.toNat))
/-- R118, R119. -/
def semVstx (c : Ctx) (f : IndexForm) : SylOut :=
  legalIf (indexLegal f) (storeV c f.d.toNat (eaIndex c f) (2 ^ f.log.toNat))

end Sys2Proof.Machine
end

