-- ==== Sys2Proof/Machine/NibVec.lean ====
section
/-!
DEFINITION. The V-class syllables (R120 to R123), over the exact arithmetic of Machine/Exact.lean.
-/

namespace Sys2Proof.Machine

/-- R120: the element type of V-lane and VFMA; 5 to 7 are reserved. -/
def laneFmt : Nat → Option Fmt
  | 0 => some .fp32 | 1 => some .bf16 | 2 => some .fp16 | 3 => some .int32 | 4 => some .int8 | _ => none

/-- The operands of a V-lane syllable: destination, sources, type and broadcast. -/
structure LaneArgs where
  d : Nat
  a : Nat
  b : Nat
  fmt : Fmt
  bg : Bool
  deriving DecidableEq, Repr

/-- R120, R122: the operands of each form; none where a field holds a reserved value. -/
def laneArgs : LaneForm → Option LaneArgs
  | .shortF f => some ⟨f.a.toNat, f.a.toNat, f.b.toNat, .fp32, false⟩
  | .shortI f => some ⟨f.a.toNat, f.a.toNat, f.b.toNat, .int32, false⟩
  | .long d a b t bg top =>
    if top then none else (laneFmt t.toNat).map (fun m => ⟨d.toNat, a.toNat, b.toNat, m, bg⟩)

/-- The elements of operand b (R120: the low bits of g[b] in every element when bg is 1). -/
def operandB (c : Ctx) (x : LaneArgs) : List Nat :=
  let w := x.fmt.width
  if x.bg then List.replicate (2048 / w) ((rdG c (BitVec.ofNat 5 x.b)).toNat % 2 ^ w) else elems (rdV c x.b) w (2048 / w)

/-- Collects lane results: the bits and the OR of the flags (R71). -/
def collect (l : List (Nat × Flags)) : List Nat × Flags := (l.map (·.1), (l.map (·.2)).foldl (· ||| ·) 0)

/-- One element-wise operation over the whole register. `rounding` says whether it rounds under rmode (R65). -/
def laneRun (c : Ctx) (x : LaneArgs) (rounding : Bool) (op : RMode → Nat → Nat → Nat → Nat × Flags) : SylOut :=
  let w := x.fmt.width
  let m : RMode := if rounding && !x.fmt.isInt then curMode c else .nearestEven
  let as := elems (rdV c x.a) w (2048 / w)
  let r := collect ((List.zip as (operandB c x)).mapIdx (fun i p => op m (laneDraw c m i) p.1 p.2))
  .ok ([effV x.d (ofElems w r.1) 2, .flags r.2] ++ seedEff c m)

/-- A V-lane syllable, or ILLEGAL_OPCODE where its form is reserved. -/
def laneSyl (c : Ctx) (f : LaneForm) (rounding : Bool) (op : Fmt → RMode → Nat → Nat → Nat → Nat × Flags) : SylOut :=
  match laneArgs f with
  | none => illegal
  | some x => laneRun c x rounding (op x.fmt)

/-- A rounding operation on exact values, with the invalid event of a signalling operand (R63, R121). -/
def roundOp (m : Fmt) (md : RMode) (r : Nat) (xs : List XV) (y : XV × Flags) : Nat × Flags :=
  let z := roundTo m md false r y.1
  (z.1, z.2 ||| y.2 ||| (xs.map snanFlag).foldl (· ||| ·) 0)

/-- Integer arithmetic wraps modulo 2^width and sets no flag (R121). -/
def intOp (m : Fmt) (op : Int → Int → Int) (x y : Nat) : Nat × Flags :=
  (wrapN m.width (op (sInt m.width x) (sInt m.width y)), 0)

/-- R121. -/
def semVadd (c : Ctx) (f : LaneForm) : SylOut :=
  laneSyl c f true (fun m md r x y =>
    if m.isInt then intOp m (· + ·) x y
    else roundOp m md r [decodeX m x, decodeX m y] (addX (decodeX m x) (decodeX m y)))
/-- R121. -/
def semVsub (c : Ctx) (f : LaneForm) : SylOut :=
  laneSyl c f true (fun m md r x y =>
    if m.isInt then intOp m (· - ·) x y
    else roundOp m md r [decodeX m x, decodeX m y] (addX (decodeX m x) (negX (decodeX m y))))
/-- R121: integer VMUL keeps the low half of the product. -/
def semVmul (c : Ctx) (f : LaneForm) : SylOut :=
  laneSyl c f true (fun m md r x y =>
    if m.isInt then intOp m (· * ·) x y
    else roundOp m md r [decodeX m x, decodeX m y] (mulX (decodeX m x) (decodeX m y)))

/-- R121: is x below y, with −0 below +0? The bits are those of non-NaN values. -/
def ltBits (m : Fmt) (x y : Nat) : Bool :=
  if m.isInt then decide (sInt m.width x < sInt m.width y)
  else
    let a := decodeX m x
    let b := decodeX m y
    ltX a b || (eqX a b && bitAt x (m.width - 1) && !bitAt y (m.width - 1))

/-- R121: minimum (or maximum); a NaN operand gives the canonical NaN. -/
def pickMin (max : Bool) (m : Fmt) (x y : Nat) : Nat × Flags :=
  let a := decodeX m x
  let b := decodeX m y
  if isNanX a || isNanX b then (m.nanBits, snanFlag a ||| snanFlag b)
  else if ltBits m y x then (if max then x else y, 0) else (if max then y else x, 0)

/-- R121. -/
def semVmin (c : Ctx) (f : LaneForm) : SylOut := laneSyl c f false (fun m _ _ x y => pickMin false m x y)
/-- R121. -/
def semVmax (c : Ctx) (f : LaneForm) : SylOut := laneSyl c f false (fun m _ _ x y => pickMin true m x y)

/-- R121: VABS and VNEG need b = 0 and bg = 0. -/
def unarySyl (c : Ctx) (f : LaneForm) (op : Fmt → Nat → Nat × Flags) : SylOut :=
  match laneArgs f with
  | none => illegal
  | some x => legalIf (x.b == 0 && !x.bg) (laneRun c x false (fun _ _ a _ => op x.fmt a))

/-- A change of the sign bit; a NaN operand gives the canonical NaN (R121). -/
def signOp (m : Fmt) (g : Nat → Nat) (x : Nat) : Nat × Flags :=
  let a := decodeX m x
  if isNanX a then (m.nanBits, snanFlag a) else (g x, 0)

/-- R121. -/
def semVabs (c : Ctx) (f : LaneForm) : SylOut :=
  unarySyl c f (fun m x =>
    if m.isInt then (wrapN m.width (sInt m.width x).natAbs, 0) else signOp m (fun b => b % m.signBit) x)
/-- R121. -/
def semVneg (c : Ctx) (f : LaneForm) : SylOut :=
  unarySyl c f (fun m x =>
    if m.isInt then (wrapN m.width (-(sInt m.width x)), 0) else signOp m (fun b => b ^^^ m.signBit) x)

/-- R121: a compare writes all ones where it holds; it does not hold with a NaN operand. -/
def cmpLane (p : XV → XV → Bool) (m : Fmt) (x y : Nat) : Nat × Flags :=
  let a := decodeX m x
  let b := decodeX m y
  if isNanX a || isNanX b then (0, snanFlag a ||| snanFlag b) else (if p a b then 2 ^ m.width - 1 else 0, 0)

/-- R121. -/
def semVcmpeq (c : Ctx) (f : LaneForm) : SylOut := laneSyl c f false (fun m _ _ x y => cmpLane eqX m x y)
/-- R121. -/
def semVcmplt (c : Ctx) (f : LaneForm) : SylOut := laneSyl c f false (fun m _ _ x y => cmpLane ltX m x y)
/-- R121. -/
def semVcmple (c : Ctx) (f : LaneForm) : SylOut :=
  laneSyl c f false (fun m _ _ x y => cmpLane (fun a b => ltX a b || eqX a b) m x y)
/-- R121: bits, whatever the type. -/
def semVand (c : Ctx) (f : LaneForm) : SylOut := laneSyl c f false (fun _ _ _ x y => (x &&& y, 0))
/-- R121: bits, whatever the type. -/
def semVor (c : Ctx) (f : LaneForm) : SylOut := laneSyl c f false (fun _ _ _ x y => (x ||| y, 0))
/-- R121: bits, whatever the type. -/
def semVxor (c : Ctx) (f : LaneForm) : SylOut := laneSyl c f false (fun _ _ _ x y => (x ^^^ y, 0))

/-- R121: shifts exist for INT32 and INT8 only; the amount is each element of b modulo the width. -/
def shiftSyl (c : Ctx) (f : LaneForm) (op : Nat → Nat → Nat → Nat) : SylOut :=
  match laneArgs f with
  | none => illegal
  | some x => legalIf x.fmt.isInt (laneRun c x false (fun _ _ a b => (op x.fmt.width a (b % x.fmt.width), 0)))

/-- R121. -/
def semVshl (c : Ctx) (f : LaneForm) : SylOut := shiftSyl c f (fun w x n => x * 2 ^ n % 2 ^ w)
/-- R121. -/
def semVshr (c : Ctx) (f : LaneForm) : SylOut := shiftSyl c f (fun _ x n => x / 2 ^ n)
/-- R121. -/
def semVsra (c : Ctx) (f : LaneForm) : SylOut := shiftSyl c f (fun w x n => wrapN w (sInt w x / (2 ^ n : Nat)))

/-- R120, R121: v[d] = round(v[d] + a × b), rounding once; vop must be 0. -/
def semVfma (c : Ctx) (f : LR) : SylOut :=
  let fn := f.fn.toNat
  match laneFmt (bitsOf fn 4 3) with
  | none => illegal
  | some m =>
    legalIf (decide (fn % 16 = 0) && !bitAt fn 8)
      (let x : LaneArgs := ⟨f.d.toNat, f.a.toNat, f.b.toNat, m, bitAt fn 7⟩
       let w := m.width
       let md : RMode := if m.isInt then .nearestEven else curMode c
       let ds := elems (rdV c x.d) w (2048 / w)
       let as := elems (rdV c x.a) w (2048 / w)
       let r := collect ((List.zip ds (List.zip as (operandB c x))).mapIdx (fun i p =>
         if m.isInt then (wrapN w (sInt w p.1 + sInt w p.2.1 * sInt w p.2.2), 0)
         else
           let a := decodeX m p.2.1
           let b := decodeX m p.2.2
           let d := decodeX m p.1
           let pr := mulX a b
           let s := addX d pr.1
           roundOp m md (laneDraw c md i) [a, b, d] (s.1, s.2 ||| pr.2)))
       .ok ([effV x.d (ofElems w r.1) 2, .flags r.2] ++ seedEff c md))

/-- R122. -/
def semVmov (c : Ctx) (f : SA) : SylOut := .ok [effV f.a.toNat (rdV c f.b.toNat) 2]

/-! ### Conversions and MX (R123) -/

/-- R123: format codes of VCVT; 7 to 15 are reserved. -/
def cvtFmt : Nat → Option Fmt
  | 0 => some .fp32 | 1 => some .bf16 | 2 => some .fp16 | 3 => some .e4m3 | 4 => some .e5m2
  | 5 => some .int32 | 6 => some .int8 | _ => none

/-- Does part `k` of 64 elements exist for a format of this width (R123)? -/
def partOk (w k : Nat) : Bool := decide (64 * (k + 1) * w ≤ 2048)

/-- R123: converts 64 elements under rmode. -/
def semVcvt (c : Ctx) (f : LR) : SylOut :=
  let fn := f.fn.toNat
  let b := f.b.toNat
  match cvtFmt (fn % 16), cvtFmt (fn / 16 % 16) with
  | some s, some t =>
    legalIf (!bitAt fn 8 && !bitAt b 4 && partOk s.width (b % 4) && partOk t.width (b / 4 % 4))
      (let m := curMode c
       let xs := (List.range 64).map (fun i => elem (rdV c f.a.toNat) s.width (64 * (b % 4) + i))
       let r := collect (xs.mapIdx (fun i x => roundTo t m (curSat c) (laneDraw c m i) (decodeX s x)))
       .ok ([effVPart f.d.toNat t.width (64 * (b / 4 % 4)) 64 r.1 4, .flags r.2] ++ seedEff c m))
  | _, _ => illegal

/-- R123: element formats of the MX syllables. -/
def mxFmt : Nat → Option Fmt
  | 3 => some .e4m3 | 4 => some .e5m2 | 7 => some .e2m1 | _ => none

/-- R72, R123: the scale bytes of blocks 0 and 1. No flag is set. -/
def semVmxs (c : Ctx) (f : LR) : SylOut :=
  match mxFmt (f.fn.toNat % 16) with
  | none => illegal
  | some m =>
    legalIf (decide (f.fn.toNat / 16 = 0) && f.b == 0)
      (let xs := elems (rdV c f.a.toNat) 32 64
       .ok [.g f.d.toNat (BitVec.ofNat 32 (mxScale m (xs.take 32) + 256 * mxScale m (xs.drop 32))) 4])

/-- The scale byte of element i: g[b][7:0] for the first block of 32, g[b][15:8] for the second (R123). -/
def scaleOf (c : Ctx) (b : BitVec 5) (i : Nat) : Nat := bitsOf (rdG c b).toNat (if i < 32 then 0 else 8) 8

/-- R72, R123: quantises 64 FP32 elements with given scales. -/
def semVmxq (c : Ctx) (f : LR) : SylOut :=
  let fn := f.fn.toNat
  match mxFmt (fn % 16) with
  | none => illegal
  | some t =>
    legalIf (decide (fn / 128 = 0) && partOk t.width (bitsOf fn 4 3))
      (let m := curMode c
       let r := collect ((elems (rdV c f.a.toNat) 32 64).mapIdx (fun i x => mxQuant t m (laneDraw c m i) (scaleOf c f.b i) x))
       .ok ([effVPart f.d.toNat t.width (64 * bitsOf fn 4 3) 64 r.1 4, .flags r.2] ++ seedEff c m))

/-- R123: decodes 64 MX elements to FP32, nearest-even. -/
def semVmxd (c : Ctx) (f : LR) : SylOut :=
  let fn := f.fn.toNat
  match mxFmt (fn % 16) with
  | none => illegal
  | some s =>
    legalIf (decide (fn / 128 = 0) && partOk s.width (bitsOf fn 4 3))
      (let r := collect ((List.range 64).map (fun i =>
         roundTo .fp32 .nearestEven false 0
           (mxValue s (scaleOf c f.b i) (elem (rdV c f.a.toNat) s.width (64 * bitsOf fn 4 3 + i)))))
       .ok [effV f.d.toNat (ofElems 32 r.1) 4, .flags r.2])

/-- R81, R123. -/
def expsOp (c : Ctx) (d b : Nat) : SylOut :=
  let r := collect ((elems (rdV c b) 32 64).map exps)
  .ok [effV d (ofElems 32 r.1) 4, .flags r.2]
/-- R81, R122, R123: b and fn must be 0 in the long form. -/
def semExps (c : Ctx) : SAorLR → SylOut
  | .short f => expsOp c f.a.toNat f.b.toNat
  | .long f => legalIf (f.b == 0 && f.fn == 0) (expsOp c f.d.toNat f.a.toNat)

/-- R81, R123. -/
def maxrunOp (c : Ctx) (d b : Nat) : SylOut :=
  .ok [effV d (ofElems 32 ((List.zip (elems (rdV c d) 32 64) (elems (rdV c b) 32 64)).map (fun p => maxrun p.1 p.2))) 4]
/-- R81, R122, R123: b and fn must be 0 in the long form. -/
def semMaxrun (c : Ctx) : SAorLR → SylOut
  | .short f => maxrunOp c f.a.toNat f.b.toNat
  | .long f => legalIf (f.b == 0 && f.fn == 0) (maxrunOp c f.d.toNat f.a.toNat)

/-- R123: reductions of type FP32 or INT32; b and fn[8:5] must be 0. -/
def reduceSyl (c : Ctx) (f : ReduceForm) (k : Fmt → List Nat → SylOut) : SylOut :=
  legalIf (f.b == 0 && f.top == 0 && (f.type == 0 || f.type == 3))
    (k (if f.type == 0 then .fp32 else .int32) (elems (rdV c f.a.toNat) 32 64))

/-- R123: an FP32 sum is exact and rounded once under rmode; an INT32 sum wraps. -/
def semVrsum (c : Ctx) (f : ReduceForm) : SylOut :=
  reduceSyl c f (fun m xs =>
    if m.isInt then .ok [.g f.d.toNat (BitVec.ofNat 32 (xs.foldl (· + ·) 0)) 4]
    else
      let md := curMode c
      let vs := xs.map (decodeX m)
      let z := roundOp m md (laneDraw c md 0) vs (sumX vs)
      .ok ([.g f.d.toNat (BitVec.ofNat 32 z.1) 4, .flags z.2] ++ seedEff c md))

/-- R123: maximum or minimum by R121. -/
def reducePick (c : Ctx) (f : ReduceForm) (max : Bool) : SylOut :=
  reduceSyl c f (fun m xs =>
    match xs with
    | [] => .ok []
    | y :: ys =>
      let z := ys.foldl (fun acc x => let p := pickMin max m acc.1 x; (p.1, acc.2 ||| p.2)) (y, 0)
      .ok [.g f.d.toNat (BitVec.ofNat 32 z.1) 4, .flags z.2])
/-- R123. -/
def semVrmax (c : Ctx) (f : ReduceForm) : SylOut := reducePick c f true
/-- R123. -/
def semVrmin (c : Ctx) (f : ReduceForm) : SylOut := reducePick c f false

/-! ### Moves (R123) -/

/-- R123: widths of VBCAST, VEXT and VINS; 3 is reserved. -/
def bcastWidth : Nat → Option Nat
  | 0 => some 32 | 1 => some 16 | 2 => some 8 | _ => none

/-- R123. -/
def semVbcast (c : Ctx) (f : LR) : SylOut :=
  match bcastWidth (f.fn.toNat % 4) with
  | none => illegal
  | some w =>
    legalIf (decide (f.fn.toNat / 4 = 0) && f.b == 0)
      (.ok [effV f.d.toNat (ofElems w (List.replicate (2048 / w) ((rdG c f.a).toNat % 2 ^ w))) 2])

/-- R123: the width and index of VEXT and VINS, none where reserved. -/
def extFields (imm : BitVec 14) : Option (Nat × Nat) :=
  match bcastWidth (bitsOf imm.toNat 9 2) with
  | none => none
  | some w => if imm.toNat / 2 ^ 11 = 0 ∧ (imm.toNat % 512 + 1) * w ≤ 2048 then some (w, imm.toNat % 512) else none

/-- R123. -/
def semVext (c : Ctx) (f : LI) : SylOut :=
  match extFields f.imm with
  | none => illegal
  | some (w, i) => .ok [.g f.d.toNat (BitVec.ofNat 32 (elem (rdV c f.a.toNat) w i)) 4]
/-- R123. -/
def semVins (c : Ctx) (f : LI) : SylOut :=
  match extFields f.imm with
  | none => illegal
  | some (w, i) => .ok [effVPart f.d.toNat w i 1 [(rdG c f.a).toNat % 2 ^ w] 2]
/-- R123. -/
def semVshuf (c : Ctx) (f : LR) : SylOut :=
  legalIf (f.fn == 0)
    (.ok [effV f.d.toNat (ofElems 32 ((elems (rdV c f.b.toNat) 32 64).map
      (fun j => elem (rdV c f.a.toNat) 32 (j % 64)))) 2])
/-- R123. -/
def semVsplati (_c : Ctx) (f : LU) : SylOut :=
  .ok [effV f.d.toNat (ofElems 32 (List.replicate 64 (sext32 19 f.imm.toNat).toNat)) 2]
/-- R123. -/
def semVsel (c : Ctx) (f : LR) : SylOut :=
  legalIf (f.fn == 0)
    (.ok [effV f.d.toNat (ofElems 32 ((List.range 64).map (fun i =>
      if elem (rdV c f.d.toNat) 32 i ≠ 0 then elem (rdV c f.a.toNat) 32 i else elem (rdV c f.b.toNat) 32 i))) 2])

end Sys2Proof.Machine
end

