-- ==== Sys2Proof/Machine/NibMul.lean ====
section
/-!
DEFINITION. The X-class syllables: exact multiplies, long accumulators and readouts (R73 to R80, R124 to R127).
-/

namespace Sys2Proof.Machine

/-- R124: element format of fmt, whether it is an MX format, and the element pairs summed into one lane (R30). -/
def mulFmt : Nat → Option (Fmt × Bool × Nat)
  | 0 => some (.bf16, false, 1) | 1 => some (.fp16, false, 1) | 2 => some (.fp32, false, 1) | 3 => some (.int8, false, 1)
  | 4 => some (.e4m3, false, 2) | 5 => some (.e5m2, false, 2) | 6 => some (.e4m3, true, 2) | 7 => some (.e5m2, true, 2)
  | 8 => some (.e2m1, true, 4) | _ => none

/-- R124: the value of an element, under its block's scale byte for MX formats. -/
def mulElem (f : Fmt) (mx : Bool) (scales block bits : Nat) : XV :=
  if mx then mxValue f (bitsOf scales (8 * block) 8) bits else decodeX f bits

/-- R30, R74, R124: the 64 exact lanes of A × B with their flags; none where a field is reserved. -/
def mulLanes (c : Ctx) (f : LR) : Option (List XV × Flags) :=
  let fn := f.fn.toNat
  let bg := bitAt fn 6
  let ha := bitAt fn 4
  let hb := bitAt fn 5
  let sel := fn / 128 % 4
  match mulFmt (fn % 16) with
  | none => none
  | some (m, mx, grp) =>
    if (bg && hb) || (!mx && decide (sel ≠ 0)) || (m == .fp32 && (ha || hb)) then none
    else
      let w := m.width
      let av := rdV c f.a.toNat / 2 ^ (if ha then 1024 else 0)
      let bv := rdV c f.b.toNat / 2 ^ (if hb then 1024 else 0)
      let g := (rdG c f.b).toNat % 2 ^ w
      let s := 16 + 4 * sel
      let sa := (gGet c.nib.g s).toNat + 2 ^ 32 * (gGet c.nib.g (s + 1)).toNat
      let sb := (gGet c.nib.g (s + 2)).toNat + 2 ^ 32 * (gGet c.nib.g (s + 3)).toNat
      let lane (i : Nat) : XV × Flags :=
        let ps := (List.range grp).map (fun k =>
          let j := grp * i + k
          let a := mulElem m mx sa (j / 32) (elem av w j)
          let b := if bg then mulElem m mx sb 0 g else mulElem m mx sb (j / 32) (elem bv w j)
          let p := mulX a b
          (p.1, p.2 ||| snanFlag a ||| snanFlag b))
        let t := sumX (ps.map (·.1))
        (t.1, (ps.map (·.2)).foldl (· ||| ·) t.2)
      let ls := (List.range 64).map lane
      some (ls.map (·.1), (ls.map (·.2)).foldl (· ||| ·) 0)

/-- R125: exact products into p[d]; native mode only (R97). -/
def semXmul (c : Ctx) (f : LR) : SylOut :=
  match mulLanes c f with
  | none => illegal
  | some (ls, fl) => legalIf (!c.nib.compat && decide (f.d.toNat < 8)) (.ok [.p f.d.toNat (ls.map packLane), .flags fl])

/-- R125: la[d] += A × B. -/
def semXmacLa (c : Ctx) (f : LR) : SylOut :=
  match mulLanes c f with
  | none => illegal
  | some (ls, fl) => legalIf (decide (f.d.toNat < 4)) (.ok [.la f.d.toNat (.values ls), .flags fl])

/-- R125, R126: adds product register a into la[d]; native mode only. -/
def addProduct (c : Ctx) (d a : Nat) : SylOut :=
  legalIf (!c.nib.compat && decide (d < 4) && decide (a < 8))
    (let ls := c.nib.p[a]?.getD (Vector.replicate 64 0)
     .ok [.la d (.values (ls.toList.map unpackLane)), .flags (staleFlag c false a)])

/-- R126: the element formats of kinds 1 to 7. -/
def addFmt : Nat → Option Fmt
  | 1 => some .fp32 | 2 => some .bf16 | 3 => some .fp16 | 4 => some .e4m3 | 5 => some .e5m2
  | 6 => some .int8 | 7 => some .int32 | _ => none

/-- R125, R126. -/
def semXaddLa (c : Ctx) : SAorLR → SylOut
  | .short f => addProduct c f.a.toNat f.b.toNat
  | .long f =>
    let fn := f.fn.toNat
    let d := f.d.toNat
    let kind := fn % 16
    if kind = 0 then legalIf (f.b == 0 && decide (fn / 16 = 0)) (addProduct c d f.a.toNat)
    else if kind = 8 then
      legalIf (decide (d < 4) && decide (f.b.toNat ≤ 20) && decide (fn / 16 = 0))
        (.ok [.la d (.slices f.b.toNat (elems (rdV c f.a.toNat) 32 64))])
    else if kind = 9 then
      legalIf (decide (d < 4) && decide (f.a.toNat < 4) && f.b == 0 && decide (fn / 16 = 0))
        (let ls := mapLanes (fun _ l => LaLane.taken l) (c.nib.la[f.a.toNat]?.getD (Vector.replicate 64 LaLane.zero))
         .ok [.la d (.values (ls.map (·.1))),
              .flags ((ls.map (·.2)).foldl (· ||| ·) (staleFlag c true f.a.toNat))])
    else
      match addFmt kind with
      | none => illegal
      | some m =>
        let part := fn / 16 % 4
        legalIf (decide (d < 4) && f.b == 0 && decide (fn / 64 = 0) && partOk m.width part)
          (let vs := (List.range 64).map (fun i => decodeX m (elem (rdV c f.a.toNat) m.width (64 * part + i)))
           .ok [.la d (.values vs), .flags ((vs.map snanFlag).foldl (· ||| ·) 0)])

/-- R125: every lane becomes finite zero. -/
def semXclrLa (_c : Ctx) : SAorLR → SylOut
  | .short f => legalIf (decide (f.a.toNat < 4) && f.b == 0) (.ok [.la f.a.toNat .clear])
  | .long f => legalIf (decide (f.d.toNat < 4) && f.a == 0 && f.b == 0 && f.fn == 0) (.ok [.la f.d.toNat .clear])

/-- R127: the rounded targets. -/
def readFmt : Nat → Option Fmt
  | 0 => some .fp32 | 1 => some .bf16 | 2 => some .fp16 | 3 => some .e4m3 | 4 => some .e5m2 | 5 => some .int32 | _ => none

/-- R127: may the mode code and the saturation bit stand with this target? -/
def readModeOk (t : Fmt) (rm : Nat) (sat : Bool) : Bool := decide (rm ≤ 4) && (!sat || t == .e4m3 || t == .e5m2)

/-- R94: class L1, with d = 2 in compatibility mode. -/
def readClass (c : Ctx) : Nat := if c.nib.compat then 2 else 1

/-- R78, R127: a rounded readout of 64 lane values. -/
def readout (c : Ctx) (f : LR) (vals : List (XV × Flags)) (stale : Flags) : SylOut :=
  let fn := f.fn.toNat
  match readFmt (fn % 8) with
  | none => illegal
  | some t =>
    legalIf (readModeOk t (fn / 8 % 8) (bitAt fn 6) && partOk t.width (fn / 128 % 4) && f.b == 0)
      (let m := RMode.ofCode (fn / 8 % 8)
       let r := collect (vals.mapIdx (fun i x =>
         let z := roundTo t m (bitAt fn 6) (laneDraw c m i) x.1
         (z.1, z.2 ||| x.2)))
       .ok ([effVPart f.d.toNat t.width (64 * (fn / 128 % 4)) 64 r.1 (readClass c), .flags (r.2 ||| stale)] ++ seedEff c m))

/-- R125, R127: readout of p[a]; native mode only. -/
def semPrd (c : Ctx) (f : LR) : SylOut :=
  legalIf (!c.nib.compat && decide (f.a.toNat < 8))
    (readout c f (((c.nib.p[f.a.toNat]?.getD (Vector.replicate 64 0)).toList.map unpackLane).map (fun x => (x, 0)))
      (staleFlag c false f.a.toNat))

/-- R79, R80, R125, R127: readout of la[a], rounded, in pair form or raw. -/
def semLard (c : Ctx) (f : LR) : SylOut :=
  let fn := f.fn.toNat
  let a := f.a.toNat
  let stale := staleFlag c true a
  let lanes := c.nib.la[a]?.getD (Vector.replicate 64 LaLane.zero)
  legalIf (decide (a < 4))
    (if fn % 8 = 6 then
      legalIf (decide (fn / 8 = 0))
        (let ps := mapLanes (fun _ l => LaLane.pair l) lanes
         .ok [effV f.d.toNat (ofElems 32 (ps.map (·.1))) (readClass c),
              effV f.b.toNat (ofElems 32 (ps.map (·.2))) (readClass c), .flags stale])
    else if fn % 8 = 7 then
      legalIf (decide (fn / 8 = 0) && decide (f.b.toNat ≤ 20))
        (.ok [effV f.d.toNat (ofElems 32 (mapLanes (fun _ l => LaLane.slice l f.b.toNat) lanes)) (readClass c), .flags stale])
    else readout c f (mapLanes (fun _ l => LaLane.taken l) lanes) stale)

/-- R125: rounds one accumulator lane into g[d]. -/
def semLard1 (c : Ctx) (f : LI) : SylOut :=
  let imm := f.imm.toNat
  let lane := imm % 64
  match readFmt (imm / 64 % 8) with
  | none => illegal
  | some t =>
    legalIf (decide (f.a.toNat < 4) && readModeOk t (imm / 512 % 8) (bitAt imm 12) && !bitAt imm 13)
      (let m := RMode.ofCode (imm / 512 % 8)
       let x := LaLane.taken (((c.nib.la[f.a.toNat]?.getD (Vector.replicate 64 LaLane.zero))[lane]?).getD LaLane.zero)
       let z := roundTo t m (bitAt imm 12) (laneDraw c m lane) x.1
       .ok ([.g f.d.toNat (BitVec.ofNat 32 z.1) (readClass c), .flags (z.2 ||| x.2 ||| staleFlag c true f.a.toNat)] ++
         seedEff c m))

/-- R125: compatibility multiply, each lane rounded to FP32 under rmode, class C4. -/
def semXmulv (c : Ctx) (f : LR) : SylOut :=
  match mulLanes c f with
  | none => illegal
  | some (ls, fl) =>
    legalIf c.nib.compat
      (let m := curMode c
       let r := collect (ls.mapIdx (fun i x => roundTo .fp32 m false (laneDraw c m i) x))
       .ok ([effV f.d.toNat (ofElems 32 r.1) 4, .flags (r.2 ||| fl)] ++ seedEff c m))

/-- R125: compatibility dot product: the exact sum of the lanes rounded to FP32 under rmode, class C4. -/
def semXdot (c : Ctx) (f : LR) : SylOut :=
  match mulLanes c f with
  | none => illegal
  | some (ls, fl) =>
    legalIf c.nib.compat
      (let m := curMode c
       let s := sumX ls
       let z := roundTo .fp32 m false (laneDraw c m 0) s.1
       .ok ([.g f.d.toNat (BitVec.ofNat 32 z.1) 4, .flags (z.2 ||| s.2 ||| fl)] ++ seedEff c m))

end Sys2Proof.Machine
end

