-- ==== Sys2Proof/Machine/NibScalar.lean ====
section
/-!
DEFINITION. The S-class syllables (R114 to R117).
-/

namespace Sys2Proof.Machine

/-- A comparison delivers 1 or 0 (R115). -/
def flagW (b : Bool) : W32 := if b then 1 else 0

/-- An S-ALU operation in its short or long form; class L1 (R114, R115). -/
def aluOp (c : Ctx) (f : AluForm) (op : W32 → W32 → W32) : SylOut :=
  match f with
  | .short f => .ok [.g f.a.toNat (op (rdG4 c f.a) (rdG4 c f.b)) 1]
  | .long f => .ok [.g f.d.toNat (op (rdG c f.a) (rdG c f.b)) 1]

/-- An S-ALU operation with the long form only. -/
def rrOp (c : Ctx) (f : RR) (op : W32 → W32 → W32) : SylOut := .ok [.g f.d.toNat (op (rdG c f.a) (rdG c f.b)) 1]

/-- An immediate operation of format LI, class L1 (R116). -/
def immOp (c : Ctx) (f : LI) (op : W32 → W32 → W32) (imm : W32) : SylOut :=
  .ok [.g f.d.toNat (op (rdG c f.a) imm) 1]

/-- A shift by an immediate: imm14[13:7] must be 0 (R116). -/
def shiftOp (c : Ctx) (f : ShiftImm) (op : W32 → Nat → W32) : SylOut :=
  legalIf (f.top == 0) (.ok [.g f.d.toNat (op (rdG c f.a) f.amount.toNat) 1])

/-- R114: MOV; a word that encodes no instruction raises ILLEGAL_OPCODE (R111). -/
def semMov (c : Ctx) : MovForm → SylOut
  | .short f => .ok [.g f.a.toNat (rdG4 c f.b) 1]
  | .unassigned _ _ => illegal
/-- R115: a + b mod 2^32. -/
def semAdd (c : Ctx) (f : AluForm) : SylOut := aluOp c f (fun x y => x + y)
/-- R115: a − b mod 2^32. -/
def semSub (c : Ctx) (f : AluForm) : SylOut := aluOp c f (fun x y => x - y)
/-- R115. -/
def semAnd (c : Ctx) (f : AluForm) : SylOut := aluOp c f (fun x y => x &&& y)
/-- R115. -/
def semOr (c : Ctx) (f : AluForm) : SylOut := aluOp c f (fun x y => x ||| y)
/-- R115. -/
def semXor (c : Ctx) (f : AluForm) : SylOut := aluOp c f (fun x y => x ^^^ y)
/-- R115: the amount is g[b] & 31. -/
def semShl (c : Ctx) (f : AluForm) : SylOut := aluOp c f (fun x y => x <<< (y.toNat % 32))
/-- R115: logical. -/
def semShr (c : Ctx) (f : AluForm) : SylOut := aluOp c f (fun x y => x >>> (y.toNat % 32))
/-- R115: arithmetic. -/
def semSra (c : Ctx) (f : AluForm) : SylOut := aluOp c f (fun x y => x.sshiftRight (y.toNat % 32))
/-- R115. -/
def semCmpeq (c : Ctx) (f : AluForm) : SylOut := aluOp c f (fun x y => flagW (x == y))
/-- R115: signed. -/
def semCmplt (c : Ctx) (f : AluForm) : SylOut := aluOp c f (fun x y => flagW (x.slt y))
/-- R115: a & ~b. -/
def semAndn (c : Ctx) (f : RR) : SylOut := rrOp c f (fun x y => x &&& ~~~y)
/-- R115: rotated left by g[b] & 31. -/
def semRol (c : Ctx) (f : RR) : SylOut := rrOp c f (fun x y => x.rotateLeft (y.toNat % 32))
/-- R115: low 32 bits of the product. -/
def semMul (c : Ctx) (f : RR) : SylOut := rrOp c f (fun x y => x * y)
/-- R115: high 32 bits, unsigned. -/
def semMulhu (c : Ctx) (f : RR) : SylOut := rrOp c f (fun x y => BitVec.ofNat 32 (x.toNat * y.toNat / 2 ^ 32))
/-- R115: high 32 bits, signed. -/
def semMulhs (c : Ctx) (f : RR) : SylOut := rrOp c f (fun x y => BitVec.ofInt 32 (x.toInt * y.toInt / 2 ^ 32))
/-- R115: signed minimum. -/
def semMin (c : Ctx) (f : RR) : SylOut := rrOp c f (fun x y => if x.slt y then x else y)
/-- R115: signed maximum. -/
def semMax (c : Ctx) (f : RR) : SylOut := rrOp c f (fun x y => if x.slt y then y else x)
/-- R115: unsigned minimum. -/
def semMinu (c : Ctx) (f : RR) : SylOut := rrOp c f (fun x y => if x.ult y then x else y)
/-- R115: unsigned maximum. -/
def semMaxu (c : Ctx) (f : RR) : SylOut := rrOp c f (fun x y => if x.ult y then y else x)
/-- R115. -/
def semCmpne (c : Ctx) (f : RR) : SylOut := rrOp c f (fun x y => flagW (x != y))
/-- R115: unsigned. -/
def semCmpltu (c : Ctx) (f : RR) : SylOut := rrOp c f (fun x y => flagW (x.ult y))
/-- R115: signed. -/
def semCmple (c : Ctx) (f : RR) : SylOut := rrOp c f (fun x y => flagW (!(y.slt x)))
/-- R115: unsigned. -/
def semCmpleu (c : Ctx) (f : RR) : SylOut := rrOp c f (fun x y => flagW (!(y.ult x)))
/-- R115: leading zeros of a, 0 to 32; b must be 0. -/
def semClz (c : Ctx) (f : RR) : SylOut :=
  let x := (rdG c f.a).toNat
  legalIf (f.b == 0) (.ok [.g f.d.toNat (BitVec.ofNat 32 (if x = 0 then 32 else 31 - Nat.log2 x)) 1])
/-- R115: set bits of a; b must be 0. -/
def semPopc (c : Ctx) (f : RR) : SylOut :=
  legalIf (f.b == 0) (.ok [.g f.d.toNat (BitVec.ofNat 32 (popN 32 (rdG c f.a).toNat)) 1])
/-- R114, R116: adds a sign-extended immediate. -/
def semAddi (c : Ctx) : SAorLI → SylOut
  | .short f => .ok [.g f.a.toNat (rdG4 c f.a + sext32 4 f.b.toNat) 1]
  | .long f => immOp c f (· + ·) (sext32 14 f.imm.toNat)
/-- R116: the immediate is zero-extended. -/
def semAndi (c : Ctx) (f : LI) : SylOut := immOp c f (· &&& ·) (f.imm.setWidth 32)
/-- R116: the immediate is zero-extended. -/
def semOri (c : Ctx) (f : LI) : SylOut := immOp c f (· ||| ·) (f.imm.setWidth 32)
/-- R116: the immediate is zero-extended. -/
def semXori (c : Ctx) (f : LI) : SylOut := immOp c f (· ^^^ ·) (f.imm.setWidth 32)
/-- R116. -/
def semShli (c : Ctx) (f : ShiftImm) : SylOut := shiftOp c f (fun x n => x <<< n)
/-- R116. -/
def semShri (c : Ctx) (f : ShiftImm) : SylOut := shiftOp c f (fun x n => x >>> n)
/-- R116. -/
def semSrai (c : Ctx) (f : ShiftImm) : SylOut := shiftOp c f (fun x n => x.sshiftRight n)
/-- R116. -/
def semRoli (c : Ctx) (f : ShiftImm) : SylOut := shiftOp c f (fun x n => x.rotateLeft n)
/-- R116: signed comparison with the sign-extended immediate. -/
def semSlti (c : Ctx) (f : LI) : SylOut := immOp c f (fun x y => flagW (x.slt y)) (sext32 14 f.imm.toNat)
/-- R114, R116: a sign-extended immediate. -/
def semMovi (_c : Ctx) : SAorLU → SylOut
  | .short f => .ok [.g f.a.toNat (sext32 4 f.b.toNat) 1]
  | .long f => .ok [.g f.d.toNat (sext32 19 f.imm.toNat) 1]
/-- R116: imm19 << 13. -/
def semMovhi (_c : Ctx) (f : LU) : SylOut := .ok [.g f.d.toNat (BitVec.ofNat 32 (f.imm.toNat * 2 ^ 13)) 1]

/-- R116, R117: reads control register o into g[d], class L2; a read of time_lo latches time_hi. -/
def mfcOp (c : Ctx) (d o : Nat) : SylOut :=
  .ok (.g d (readCr c o) 2 :: (if o = 0x0B then [.timeHi ((c.elapsed >>> 32).setWidth 32)] else []))
/-- R114, R116, R117. -/
def semMfc (c : Ctx) : SAorLI → SylOut
  | .short f => mfcOp c f.a.toNat f.b.toNat
  | .long f => legalIf (f.a == 0 && decide (f.imm.toNat ≤ 0x3F)) (mfcOp c f.d.toNat f.imm.toNat)
/-- R114, R116, R117: writes a control register, class L2. -/
def semMtc (c : Ctx) : SAorLI → SylOut
  | .short f => .ok [.cr f.a.toNat (rdG4 c f.b)]
  | .long f => legalIf (f.d == 0 && decide (f.imm.toNat ≤ 0x3F)) (.ok [.cr f.imm.toNat (rdG c f.a)])

end Sys2Proof.Machine
end

