-- ==== Sys2Proof/Machine/Sync.lean ====
section
/-!
DEFINITION. The sync-counter fabric (R420 to R426, R429): updates, the service of waiters, watches, and the sync port of a
core.
-/

namespace Sys2Proof.Machine

/-- R420: the value of a counter. -/
def counterVal (x : Petal) (i : Nat) : W64 := lookD x.counters i 0

/-- R420: is a value inside the range of a counter? -/
def counterFits (v : Int) : Bool := decide (-(2 ^ 63 : Int) ≤ v) && decide (v < (2 ^ 63 : Int))

/-- R423: counts a blocked update. -/
def countBlocked (s : State) (p i : Nat) : State :=
  let s := count (count s kSyn p 6 1) kSynDev 0 1 1
  modPetal s p (fun x => { x with lastBlocked := BitVec.ofNat 64 (i % 2 ^ 32 + 2 ^ 32) })

/-- R421: stores an applied value and counts the update. -/
def setCounter (s : State) (p i : Nat) (v : W64) : State :=
  modPetal (count (count s kSyn p 0 1) kSynDev 0 0 1) p (fun x => { x with counters := put x.counters i v })

/-- R53, R496: a descheduled Nib goes on at W0; one that met END beside its wait is DONE (R128). -/
def wakeNib (s : State) (n : Nat) : State :=
  let x := getNib s n
  let s := wakeUnit s ukNib n
  match x.st with
  | .waiting _ e =>
    if e then setNib s n { landAll x with st := .done } else setNib s n { x with st := .running }
  | _ => s

/-- R428, R429: the write that a watch makes at its fire or timeout, then its message. A write that would go to the upstream
port after a lease expiry is withheld and counted (R431). -/
def watchWrite (s : State) (w : Watch) (v : W64) : State :=
  let s :=
    match bufAddr w.notifyAddr.toNat with
    | .pda a => memPut s w.petal a (leBytes 8 v.toNat)
    | .bus a =>
      let r := busWrite s w.petal w.binding a (leBytes 8 v.toNat)
      if r.2 = some stLeaseExpired then count r.1 kSyn w.petal 5 1 else r.1
    | _ => s
  if w.irq then sendVector s w.msix else s

/-- R430: removes a watch and records how it ended. -/
def endWatch (s : State) (p w : Nat) (fired : Bool) : State :=
  modPetal { s with waiters := s.waiters.filter (fun q => q.who != .watch p w) } p
    (fun x => { x with watches := del x.watches w, watchEnds := put x.watchEnds w fired })

/-- R425, R429: a waiter is released: the Nib goes on, or the watch fires. -/
def releaseWaiter (s : State) (q : Waiter) : State :=
  let s := { s with waiters := s.waiters.filter (fun z => z.who != q.who) }
  match q.who with
  | .nib n => wakeNib (count s kSyn q.petal 2 1) n
  | .watch p w =>
    match (getPetal s p).bind (fun x => look x.watches w) with
    | none => s
    | some wt =>
      let s := count (count s kSyn p 3 1) kSynDev 0 3 1
      watchWrite (endWatch s p w true) wt wt.notifyValue

/-- R425: does a waiter's condition hold? -/
def waiterHolds (s : State) (q : Waiter) : Bool :=
  match getPetal s q.petal with
  | some x => decide (q.target.toInt ≤ (counterVal x q.index).toInt)
  | none => false

/-- R425: after an update, releases every non-consuming waiter of the counter whose condition holds, then serves the
consuming ones one at a time, oldest first; each subtraction is itself an update. -/
def serveWaiters : Nat → State → Nat → Nat → State
  | 0, s, _, _ => s
  | k + 1, s, p, i =>
    let mine (q : Waiter) : Bool := q.petal == p && q.index == i && waiterHolds s q
    let s := (s.waiters.filter (fun q => mine q && !q.consume)).foldl releaseWaiter s
    match s.waiters.find? (fun q => mine q && q.consume) with
    | none => s
    | some q =>
      match getPetal s p with
      | none => s
      | some x =>
        let v := (counterVal x i).toInt - q.target.toInt
        let s := if counterFits v then setCounter s p i (BitVec.ofInt 64 v) else countBlocked s p i
        serveWaiters k (releaseWaiter s q) p i

/-- R421, R425: sets a counter and serves its waiters. -/
def putCounter (s : State) (p i : Nat) (v : W64) : State :=
  let s := setCounter s p i v
  serveWaiters (s.waiters.length + 1) s p i

/-- R421 to R425: one update of a counter by an amount. The answer is false where R423 blocks it. -/
def applyUpdate (s : State) (u : CtrUpd) : State × Bool :=
  match getPetal s u.petal with
  | none => (s, false)
  | some x =>
    let v := (counterVal x u.index).toInt + u.delta
    if counterFits v then (putCounter s u.petal u.index (BitVec.ofInt 64 v), true) else (countBlocked s u.petal u.index, false)

/-- The state after an update whose outcome changes nothing else (a completion signal, R423). -/
def signal (s : State) (p i : Nat) (delta : Int) : State := (applyUpdate s ⟨p, i, delta⟩).1

/-- R425: registration order: earlier first; among equal times Nibs before watches, then lower numbers. -/
def waiterBefore (a b : Waiter) : Bool :=
  let key (q : Waiter) : Nat := match q.who with | .nib n => n | .watch p w => 2 ^ 32 + p * 1024 + w
  decide (a.since.toNat < b.since.toNat) || (decide (a.since = b.since) && decide (key a < key b))

/-- Inserts a waiter in the order of service. -/
def insertWaiter : List Waiter → Waiter → List Waiter
  | [], q => [q]
  | w :: ws, q => if waiterBefore q w then q :: w :: ws else w :: insertWaiter ws q

def addWaiter (s : State) (q : Waiter) : State := { s with waiters := insertWaiter s.waiters q }

/-- R424: the oldest update in a core's sync port is applied. -/
def portStep (s : State) (k : Nat) : State :=
  let c := getCore s k
  match c.port with
  | [] => s
  | u :: us => (applyUpdate (setCore s k { c with port := us }) u).1

/-- R424, R131: every update in a core's sync port reaches the fabric, in issue order. -/
def drainPort (s : State) (k : Nat) : State := iter (fun s => portStep s k) (getCore s k).port.length s

/-- R424: the sync port of a core holds at most 32 updates. -/
def portFull (c : Core) : Bool := decide (32 ≤ c.port.length)

/-- R424: an update enters the port of a core. -/
def portPush (s : State) (k : Nat) (u : CtrUpd) : State :=
  let c := getCore s k
  setCore s k { c with port := c.port ++ [u] }

/-- R426: the entry of a Nib is withdrawn at the fabric. -/
def withdrawNib (s : State) (n : Nat) : State := { s with waiters := s.waiters.filter (fun q => q.who != .nib n) }

end Sys2Proof.Machine
end

