-- ==== Sys2Proof/Machine/NibIssue.lean ====
section
/-!
DEFINITION. How a Nib issues: the bundle that a stop bit closes is formed (R89, R112), read (R90), faulted precisely (R58)
or applied; faults stop the launch (R59, R60).
-/

namespace Sys2Proof.Machine

/-- The meaning of each syllable in its bundle's read phase. -/
def evalSyl (c : Ctx) : Syl → SylOut
  | .mov f => semMov c f
  | .add f => semAdd c f
  | .sub f => semSub c f
  | .andS f => semAnd c f
  | .orS f => semOr c f
  | .xorS f => semXor c f
  | .andn f => semAndn c f
  | .shl f => semShl c f
  | .shr f => semShr c f
  | .sra f => semSra c f
  | .rol f => semRol c f
  | .mul f => semMul c f
  | .mulhu f => semMulhu c f
  | .mulhs f => semMulhs c f
  | .min f => semMin c f
  | .max f => semMax c f
  | .minu f => semMinu c f
  | .maxu f => semMaxu c f
  | .clz f => semClz c f
  | .popc f => semPopc c f
  | .cmpeq f => semCmpeq c f
  | .cmpne f => semCmpne c f
  | .cmplt f => semCmplt c f
  | .cmpltu f => semCmpltu c f
  | .cmple f => semCmple c f
  | .cmpleu f => semCmpleu c f
  | .addi f => semAddi c f
  | .andi f => semAndi c f
  | .ori f => semOri c f
  | .xori f => semXori c f
  | .shli f => semShli c f
  | .shri f => semShri c f
  | .srai f => semSrai c f
  | .roli f => semRoli c f
  | .slti f => semSlti c f
  | .movi f => semMovi c f
  | .movhi f => semMovhi c f
  | .mfc f => semMfc c f
  | .mtc f => semMtc c f
  | .ldb f => semLdb c f
  | .ldbu f => semLdbu c f
  | .ldh f => semLdh c f
  | .ldhu f => semLdhu c f
  | .ldw f => semLdw c f
  | .stb f => semStb c f
  | .sth f => semSth c f
  | .stw f => semStw c f
  | .vld64 f => semVld64 c f
  | .vld128 f => semVld128 c f
  | .vld256 f => semVld256 c f
  | .vst64 f => semVst64 c f
  | .vst128 f => semVst128 c f
  | .vst256 f => semVst256 c f
  | .vldx f => semVldx c f
  | .vstx f => semVstx c f
  | .vadd f => semVadd c f
  | .vsub f => semVsub c f
  | .vmul f => semVmul c f
  | .vmin f => semVmin c f
  | .vmax f => semVmax c f
  | .vabs f => semVabs c f
  | .vneg f => semVneg c f
  | .vcmpeq f => semVcmpeq c f
  | .vcmplt f => semVcmplt c f
  | .vcmple f => semVcmple c f
  | .vand f => semVand c f
  | .vor f => semVor c f
  | .vxor f => semVxor c f
  | .vshl f => semVshl c f
  | .vshr f => semVshr c f
  | .vsra f => semVsra c f
  | .vfma f => semVfma c f
  | .vmov f => semVmov c f
  | .vcvt f => semVcvt c f
  | .vmxs f => semVmxs c f
  | .vmxq f => semVmxq c f
  | .vmxd f => semVmxd c f
  | .exps f => semExps c f
  | .maxrun f => semMaxrun c f
  | .vrsum f => semVrsum c f
  | .vrmax f => semVrmax c f
  | .vrmin f => semVrmin c f
  | .vbcast f => semVbcast c f
  | .vext f => semVext c f
  | .vins f => semVins c f
  | .vshuf f => semVshuf c f
  | .vsplati f => semVsplati c f
  | .vsel f => semVsel c f
  | .xmul f => semXmul c f
  | .xmacLa f => semXmacLa c f
  | .xaddLa f => semXaddLa c f
  | .xclrLa f => semXclrLa c f
  | .prd f => semPrd c f
  | .lard f => semLard c f
  | .lard1 f => semLard1 c f
  | .xmulv f => semXmulv c f
  | .xdot f => semXdot c f
  | .endS f => semEnd c f
  | .trap f => semTrap c f
  | .ret f => semRet c f
  | .call f => semCall c f
  | .callr f => semCallr c f
  | .br f => semBr c f
  | .bc f => semBc c f
  | .brr f => semBrr c f
  | .dbnz f => semDbnz c f
  | .beq f => semBeq c f
  | .bne f => semBne c f
  | .blt f => semBlt c f
  | .bltu f => semBltu c f
  | .sfencea f => semSfencea c f
  | .sfencet f => semSfencet c f
  | .sfence f => semSfence c f
  | .stream f => semStream c f
  | .signal f => semSignal c f
  | .signali f => semSignali c f
  | .consume f => semConsume c f
  | .wait f => semWait c f
  | .waitc f => semWaitc c f
  | .evpost f => semEvpost c f

/-! ### Faults (R57 to R61) -/

/-- The launch that a petal's tag names. -/
def findLaunch (s : State) (p t : Nat) : Option Launch := s.launches.find? (fun l => l.petal == p && l.tag == t)

def modLaunch (s : State) (p t : Nat) (f : Launch → Launch) : State :=
  { s with launches := s.launches.map (fun l => if l.petal = p ∧ l.tag = t then f l else l) }

/-- The Nibs of a core set. -/
def nibsOf (cores : List Nat) : List Nat := cores.flatMap (fun k => [4 * k, 4 * k + 1, 4 * k + 2, 4 * k + 3])

/-- R53, R59: a Nib of a stopped launch enters STOPPED; DONE and IDLE ones stay. -/
def stopNib (s : State) (n : Nat) : State :=
  let x := getNib s n
  match x.st with
  | .running => setNib (withdrawNib s n) n { landAll x with st := .stopped, halted := false, openSyls := [] }
  | .waiting _ _ => setNib (withdrawNib s n) n { landAll x with st := .stopped, halted := false, openSyls := [] }
  | _ => s

/-- R59: stops every Nib of a launch. -/
def stopLaunch (s : State) (l : Launch) : State := (nibsOf l.cores).foldl stopNib s

/-- R60: the reported fault is the one of the lowest time, then of the lowest Nib; the others are counted. After a timeout
or an abort has decided the status, a fault is not recorded (R178, R264). -/
def recordFault (l : Launch) (f : FaultRec) : Launch :=
  match l.stop, l.fault with
  | some _, _ => l
  | none, none => { l with fault := some f }
  | none, some g =>
    let more := min 0xFFFF (l.more + 1)
    if g.time = f.time ∧ f.nib < g.nib then { l with fault := some f, more := more } else { l with more := more }

/-- R57 to R60: a Nib raises a fault; its launch stops. -/
def raiseFault (s : State) (p t : Nat) (f : FaultRec) : State :=
  match findLaunch s p t with
  | none => stopNib s f.nib
  | some l => stopLaunch (modLaunch s p t (fun l => recordFault l f)) l

/-- R61: the record of a fault of Nib n, with the Nib as its bundle's read phase saw it. -/
def faultRec (s : State) (n : Nat) (x : Nib) (code unit address : Nat) (bundle : List Byte) : FaultRec where
  code := code
  unit := unit
  nib := n
  pc := x.pc.toNat
  flags := x.flags
  address := address
  time := s.elapsed
  bundles := x.bundles
  streamTag := 0
  descriptor := 0
  bundle := bundle

/-- The petal of a Nib's core. -/
def petalOfNib (s : State) (n : Nat) : Nat := ((getCore s (n / 4)).petal).getD 0

/-- A Nib raises a fault of the given code. -/
def nibFault (s : State) (n : Nat) (code unit address : Nat) (bundle : List Byte) : State :=
  let x := getNib s n
  raiseFault s (petalOfNib s n) x.launchTag.toNat (faultRec s n x code unit address bundle)

/-- R51: the stream fault that a Nib raises at its bundle boundary. -/
def nibStreamFault (s : State) (n : Nat) (e : StreamErr) : State :=
  let x := getNib s n
  let f := faultRec s n x e.code 0xFF e.address []
  raiseFault (setNib s n { x with streamErr := none }) (petalOfNib s n) x.launchTag.toNat
    { f with streamTag := e.tag, descriptor := e.descAt }

/-! ### The bundle -/

/-- The bytes of a bundle; the last syllable carries the stop bit when it is closed (R85, R89). -/
def bundleBytes (l : List Syl) (closed : Bool) : List Byte :=
  (l.mapIdx (fun i x => sylCode x (closed && decide (i + 1 = l.length)))).flatten

/-- Length of a bundle in bytes. -/
def bundleLen (l : List Syl) : Nat := (l.map sylBytes).foldl (· + ·) 0

/-- R90: what the bundle's syllables read: due results have landed. -/
def bundleCtx (s : State) (n : Nat) (len : Nat) : Ctx :=
  let x := landDue (getNib s n)
  let k := getCore s (n / 4)
  let pt := getPetal s (k.petal.getD 0)
  { nib := x
    core := k
    elapsed := s.elapsed
    counters := match pt with | some q => recCounters q.record | none => 0
    slots := match pt with | some q => slotsOf q | none => 0
    nextPc := x.pc.toNat + len }

/-- R38, R43: the fault of a fetch of [pc, pc + len). -/
def fetchFault (c : Ctx) (len : Nat) : Option Nat :=
  let pc := c.nib.pc.toNat
  if pc < c.core.codeBase ∨ c.core.codeBase + c.core.codeBytes < pc + len then some fcScratchBounds
  else if hasUncorrectable (scratchErrs c.core pc len) then some fcScratchUncorrectable
  else none

/-- No value twice. -/
def noTwice {α : Type} [BEq α] : List α → Bool
  | [] => true
  | x :: xs => !xs.contains x && noTwice xs

/-- R89, R112: no two syllables of one class, no destination twice. -/
def formed (l : List Syl) : Bool := noTwice (l.map sylCls) && noTwice (l.flatMap sylDests)

def isSeed : Eff → Bool
  | .seed _ => true
  | _ => false

def effsOf : SylOut → List Eff
  | .ok l => l
  | _ => []

/-- The classes in the order in which faults are taken and effects applied. -/
def classOrder : List UClass := [.s, .m, .v, .x, .b, .y]

/-- What a bundle does once it is read: a fault with its unit, a stall, or its effects in class order. -/
inductive BundleOut
  | fault (code unit address : Nat)
  | stall
  | ok (l : List Eff)
  deriving DecidableEq, Repr

/-- R103: a register that RET restores keeps the frame's value whatever else the bundle writes to it. -/
def dropRestored (l : List Eff) : List Eff :=
  let rs := l.filterMap (fun e => match e with | .restore r _ => some r | _ => none)
  l.filter (fun e => match e with | .g r _ _ => !rs.contains r | _ => true)

/-- R57, R58, R89, R90, R111, R112: reads a closed bundle. -/
def readBundle (c : Ctx) (l : List Syl) : BundleOut :=
  let outs := l.map (fun x => (sylCls x, evalSyl c x))
  let bad := outs.find? (fun o => match o.2 with | .fault f => f.code == fcIllegalOpcode | _ => false)
  match bad with
  | some o => .fault fcIllegalOpcode o.1.code 0
  | none =>
    if !formed l || decide (1 < (outs.filter (fun o => (effsOf o.2).any isSeed)).length) then .fault fcIllegalBundle 0xFF 0
    else if outs.any (fun o => o.2 == .stall) then .stall
    else
      let sorted := classOrder.filterMap (fun k => outs.find? (fun o => o.1 == k))
      match sorted.filterMap (fun o => match o.2 with | .fault f => some (o.1, f) | _ => none) with
      | (k, f) :: _ => .fault f.code k.code f.address
      | [] => .ok (dropRestored (sorted.flatMap (fun o => effsOf o.2)))

/-- A result that lands at once in native mode, where the units interlock (R95), and at its exact bundle in compatibility
mode (R98). -/
def landAt (x : Nib) (d : Nat) (l : Land) : Nib :=
  if x.compat then { x with flight := x.flight ++ [⟨x.bundles + d, l⟩] } else landOne x l

/-- The flags that a bundle raises; a clear of the same bundle does not take them (R117). -/
def raisedFlags (l : List Eff) : Flags :=
  (l.map (fun e => match e with | .flags f => f | _ => 0)).foldl (· ||| ·) 0

/-- One effect on the Nib's own registers (R94). -/
def effNib (raised : Flags) (x : Nib) : Eff → Nib
  | .g r v d => landAt x d (.g r v)
  | .v r m v d => landAt x d (.v r m v)
  | .p r ls => { x with flight := x.flight ++ [⟨x.bundles + 4, .p r ls⟩] }
  | .la r src => { x with flight := x.flight ++ [⟨x.bundles + 8, .la r src⟩] }
  | .cr o v =>
    if o = 7 then
      if x.compat then landAt x 2 (.clearFlags (v.toNat &&& (255 ^^^ raised))) else landOne x (.clearFlags v.toNat)
    else landAt x 2 (.cr o v)
  | .flags f => { x with flags := x.flags ||| f }
  | .timeHi v => { x with timeHi := v }
  | .sp v => landAt x 1 (.sp v)
  | .restore r v => landAt x 1 (.g r v)
  | _ => x

/-- One effect on the core: stores, frame writes and the correction counter (R91, R43). -/
def effCore (k : Core) : Eff → Core
  | .store a bs => scratchWrite k a bs
  | .frame a bs => scratchWrite k a bs
  | .corrected n => { k with corrections := k.corrections + n }
  | _ => k

/-- The scratch bytes that the bundle's stores replace, as they were (R98). -/
def undoOf (k : Core) (l : List Eff) : List Host.Cell :=
  l.foldl (fun m e => match e with
    | .store a bs => storeBytes m a (scratchRead k a bs.length)
    | .frame a bs => storeBytes m a (scratchRead k a bs.length)
    | _ => m) []

/-- R117: seed advances come before an MTC to the seed. -/
def seedFirst (x : Nib) (l : List Eff) : Nib :=
  l.foldl (fun x e => match e with | .seed v => { x with seed := v } | _ => x) x

/-- The Nib after its bundle has issued: registers, pc, and the counts of R35. -/
def afterBundle (c : Ctx) (l : List Eff) : Nib :=
  let x := l.foldl (effNib (raisedFlags l)) (seedFirst c.nib l)
  let pc := l.foldl (fun t e => match e with | .jump u => u | _ => t) c.nextPc
  { x with
    bundles := c.nib.bundles + 1
    gEarly := c.nib.g
    undo := if x.compat then undoOf c.core l else []
    openSyls := []
    pc := BitVec.ofNat 32 pc
    streams := x.streams ++ l.filterMap (fun e => match e with | .stream t => some t | _ => none) }

/-- R130: do the tags of a fence hold back the Nib? -/
def tagsPending (x : Nib) (mask : Nat) : Bool := x.streams.any (fun t => bitAt mask t.tag)

/-- R53, R54, R90, R128, R130: the Nib's state after a bundle with a wait, a fence or END. A condition that holds does not
deschedule it; a WAITC that holds subtracts at the fabric in the same step. -/
def afterWait (s : State) (n : Nat) (w : Option WaitFor) (fin : Bool) : State :=
  let go (s : State) : State :=
    if fin then setNib s n { landAll (getNib s n) with st := .done } else s
  match w with
  | none => go s
  | some (.tags m) =>
    let x := getNib s n
    if tagsPending x m then setNib s n { x with st := .waiting (.tags m) fin } else go s
  | some (.counter i t cons) =>
    let s := drainPort s (n / 4)
    let p := petalOfNib s n
    match getPetal s p with
    | none => s
    | some q =>
      if t.toInt ≤ (counterVal q i).toInt then
        go (if cons then signal s p i (-t.toInt) else s)
      else
        addWaiter (setNib s n { getNib s n with st := .waiting (.counter i t cons) fin }) ⟨.nib n, p, i, t, cons, s.elapsed⟩

/-- R179: an event record is written into the launch's queue. -/
def postEvent (s : State) (n : Nat) (code : Nat) (v : W32) : State :=
  let p := petalOfNib s n
  let t := (getNib s n).launchTag.toNat
  match findLaunch s p t, getPetal s p with
  | some l, some q =>
    match look q.queues l.queue with
    | none => s
    | some r =>
      let x := ringPost s p r l.queue t stPending (v.toNat + n * 2 ^ 32) (0x9F + code * 2 ^ 8) false
      count (modPetal x.1 p (fun q => { q with queues := put q.queues l.queue x.2 })) kLch p 6 1
  | _, _ => s

/-- R36, R179: does the bundle wait for the sync port or for a completion entry? -/
def mustStall (s : State) (n : Nat) (l : List Eff) : Bool :=
  l.any (fun e => match e with
    | .signal _ _ => portFull (getCore s (n / 4))
    | .evpost _ _ =>
      let p := petalOfNib s n
      match findLaunch s p (getNib s n).launchTag.toNat, getPetal s p with
      | some ln, some q => match look q.queues ln.queue with | some r => !ringFree r | none => false
      | _, _ => false
    | _ => false)

/-- The effects of a bundle beyond the Nib and its core: updates into the sync port (R424) and event posts. -/
def effState (n : Nat) (s : State) : Eff → State
  | .signal i d => portPush s (n / 4) ⟨petalOfNib s n, i, d⟩
  | .evpost code v => postEvent s n code v
  | _ => s

def waitIn (l : List Eff) : Option WaitFor :=
  (l.filterMap (fun e => match e with | .wait w => some w | _ => none)).head?

/-- A bundle whose effects are known takes effect as a whole (R90 to R92). -/
def commitBundle (s : State) (n : Nat) (c : Ctx) (l : List Eff) : State :=
  let fetched := countSingle (scratchErrs c.core c.nib.pc.toNat (c.nextPc - c.nib.pc.toNat))
  let x := afterBundle c l
  let x := if fetched = 0 then x else { x with flags := x.flags ||| flScratch }
  let k := l.foldl effCore { c.core with corrections := c.core.corrections + fetched }
  let s := setCore (setNib s n x) (n / 4) k
  let s := l.foldl (effState n) s
  afterWait s n (waitIn l) (l.any (· == .finish))

/-- R89 to R92: a bundle closed by a stop bit is fetched, read, and applied or faulted. -/
def closeBundle (s : State) (n : Nat) (l : List Syl) : State :=
  let len := bundleLen l
  let c := bundleCtx s n len
  match fetchFault c (min len 16) with
  | some code => nibFault s n code 0xFF c.nib.pc.toNat []
  | none =>
    if 16 < len then nibFault s n fcIllegalBundle 0xFF 0 ((bundleBytes l true).take 16)
    else
      match c.nib.unitErr with
      | some u =>
        if l.any (fun x => (sylCls x).code == u.val) then nibFault s n fcUnitFault u.val 0 (bundleBytes l true)
        else
          match readBundle c l with
          | .fault code unit a => nibFault s n code unit a (bundleBytes l true)
          | .stall => s
          | .ok es => if mustStall s n es then s else commitBundle s n c es
      | none =>
        match readBundle c l with
        | .fault code unit a => nibFault s n code unit a (bundleBytes l true)
        | .stall => s
        | .ok es => if mustStall s n es then s else commitBundle s n c es

/-- R89: one syllable of the bundle that a Nib issues. Without a stop bit within six syllables or 16 bytes the bundle is
illegal. A Nib that is not RUNNING issues nothing; a pending stream error is raised at the bundle boundary (R51). -/
def issueSyl (n : NibId) (stop : Bool) (x : Syl) (s : State) : State :=
  let b := getNib s n.val
  if b.st = .running ∧ b.halted = false then
    match b.openSyls, b.streamErr with
    | [], some e => nibStreamFault s n.val e
    | l, _ =>
      let l := l ++ [x]
      if stop then closeBundle s n.val l
      else if l.length < 6 ∧ bundleLen l < 16 then setNib s n.val { b with openSyls := l }
      else
        let len := min (bundleLen l) 16
        match fetchFault (bundleCtx s n.val len) len with
        | some code => nibFault s n.val code 0xFF b.pc.toNat []
        | none => nibFault s n.val fcIllegalBundle 0xFF 0 ((bundleBytes l false).take 16)
  else s

end Sys2Proof.Machine
end

