-- ==== Sys2Proof/Machine/DebugCore.lean ====
section
/-!
DEFINITION. What a debug session holds, and its close (R426, R478, R480, R481, R484, R485): Nibs that it has halted, keys that it has
withdrawn, and power requests that it has deferred.
-/

namespace Sys2Proof.Machine

/-! ### Debug sessions and power (R484) -/

/-- R484: is a core one of a petal that has a D1 session? -/
def coreInD1 (s : State) (k : Nat) : Bool :=
  match (getCore s k).petal with
  | some p => petalDebug s p
  | none => false

/-- R484: is a unit in a session? -/
def unitInSession (s : State) (kind u : Nat) : Bool :=
  let any (a n : Nat) : Bool := (List.range' a n).any (coreInD1 s)
  deviceLevel s == 3 || (deviceLevel s == 2 && kind == ukHub) ||
    (match kind with
     | 0 => coreInD1 s (u / 4)
     | 1 => coreInD1 s u
     | 2 => any (8 * u) 8
     | 3 => any (128 * u) 128
     | _ => false)

def anySession (s : State) : Bool := !s.sec.sessions.isEmpty

/-! ### Deferred power requests (R485) -/

/-- R494, R496: a unit takes a held level, or returns to idle-timer control; one held at a shallower level wakes. -/
def holdUnit (s : State) (kind u level : Nat) (auto : Bool) : State :=
  let k := unitKey kind u
  if auto then { s with pwr := { s.pwr with held := del s.pwr.held k } }
  else
    let s := { s with pwr := { s.pwr with held := put s.pwr.held k level } }
    if level < lookD s.pwr.levels k 0 then wakeUnit s kind u else s

/-- R499: the module's held level; level 0 or auto returns it to W0. -/
def holdModule (s : State) (level : Nat) (auto : Bool) : State :=
  if auto ∨ level = 0 then awake { s with pwr := { s.pwr with moduleHeld := none } }
  else { s with pwr := { s.pwr with moduleHeld := some level } }

/-- R485: does a session hold back a request for a unit? -/
def sessionHolds (s : State) (kind u level : Nat) (auto : Bool) : Bool :=
  !auto && decide (3 ≤ level) && (if kind = ukModule then anySession s else unitInSession s kind u)

/-- R485: once sessions have closed, the deferred requests that none of them holds back any more apply, in arrival order. -/
def applyDeferred (s : State) : State :=
  let go (s : State) (d : Deferred) : State :=
    if sessionHolds s d.kind d.unit d.level d.auto then s
    else
      let s := { s with pwr := { s.pwr with deferred := s.pwr.deferred.filter (fun e => e != d) } }
      if d.kind = ukModule then holdModule s d.level d.auto
      else resolve (holdUnit s d.kind d.unit d.level d.auto) (.powerEntry d.kind d.unit) replyOk
  s.pwr.deferred.foldl go s

/-! ### Halted Nibs (R53, R426, R480) -/

/-- R180: the launch of a Nib takes note of whether any of its Nibs is HALTED. -/
def noteHalt (s : State) (n : Nat) : State :=
  let p := petalOfNib s n
  let t := (getNib s n).launchTag.toNat
  modLaunch s p t (fun l =>
    if (nibsOf l.cores).any (fun k => (getNib s k).halted) then
      (if l.haltedFrom.isNone then { l with haltedFrom := some s.elapsed } else l)
    else
      match l.haltedFrom with
      | some h => { l with haltedSteps := l.haltedSteps + (s.elapsed.toNat - h.toNat), haltedFrom := none }
      | none => l)

/-- R426, R480: a RUNNING or WAITING Nib is halted; the entry of a waiting one is withdrawn. -/
def haltNib (s : State) (n : Nat) : State :=
  let x := getNib s n
  match x.halted, x.st with
  | false, .running => noteHalt (setNib s n { x with halted := true }) n
  | false, .waiting _ _ => noteHalt (setNib (withdrawNib s n) n { x with halted := true }) n
  | _, _ => s

/-- R426, R53: a halted Nib returns to its state before the halt; one that waited registers again and tests afresh. -/
def resumeNib (s : State) (n : Nat) : State :=
  let x := getNib s n
  if x.halted = false then s
  else
    let s := noteHalt (setNib s n { x with halted := false }) n
    let p := petalOfNib s n
    match x.st with
    | .waiting (.tags m) _ => if tagsPending x m then s else wakeNib s n
    | .waiting (.counter i t cons) _ =>
      (match getPetal s p with
       | none => s
       | some q =>
         if t.toInt ≤ (counterVal q i).toInt then wakeNib (if cons then signal s p i (-t.toInt) else s) n
         else addWaiter s ⟨.nib n, p, i, t, cons, s.elapsed⟩)
    | _ => s

/-- The Nibs of a petal's cores. -/
def petalNibs (s : State) (p : Nat) : List Nat := ((getPetal s p).map (fun x => nibsOf x.cores)).getD []

/-! ### The close of a session (R477, R478, R481) -/

/-- R477: the entry of an open or a close names the level and, for D1, the petal. -/
def logDebug (s : State) (what : String) (level g : Nat) : State :=
  logEvent s 7 1 what level (if level = 1 then g else 0xFFFF) []

/-- R481: at the close of a D2 session keys return to the ciphers, and every petal whose only quiesce cause is 4 becomes ACTIVE; the
commands that wait to enable it return. -/
def endD2 (s : State) : State :=
  let free (x : Petal) : Bool := x.causeDebug && !x.causeCmd && !x.causeLease && !x.causeFlr && (x.st == .quiesced || x.st == .quiescing)
  let back := (s.petals.filter (fun e => free e.2)).map (·.1)
  let s := { s with
    keysWithdrawn := false
    sec := { s.sec with d2 := none }
    petals := mapT s.petals (fun _ x =>
      if free x then { x with causeDebug := false, st := .active, upstreamHeld := false, drainAt := none, drainForced := false }
      else { x with causeDebug := false }) }
  back.foldl (fun s p => resolve s (.enable p) replyOk) s

/-- R483: with the D3 session closed, the TAP's restricted instructions select the bypass register and change no pin. -/
def dropJtag (s : State) : State :=
  if s.sec.lifecycle = .manufacture ∨ s.jtag.ir = .idcode ∨ s.jtag.ir = .bypass then s
  else { s with jtag := { s.jtag with selected := .bypass, pins := .untouched } }

/-- R478: the debug session of a page closes; one that is being opened ends without opening. -/
def closeSession (s : State) (g : Nat) : State :=
  match sessionOf s g with
  | some d =>
    let s := logDebug { s with sec := { s.sec with sessions := del s.sec.sessions g } } "debug session closed" d.level g
    let s := if d.level = 1 then (petalNibs s g).foldl resumeNib s else if d.level = 2 then endD2 s else dropJtag s
    applyDeferred s
  | none =>
    if g = 512 ∧ s.sec.d2.isSome then resolve (endD2 s) .debugDrain (replyErr stAborted 0) else s

/-- Every session closes. -/
def closeSessions (s : State) : State :=
  let open_ : List Nat := s.sec.sessions.map (fun e => e.1)
  closeSession (open_.foldl closeSession s) 512

end Sys2Proof.Machine
end

