-- ==== Sys2Proof/Machine/Frame.lean ====
section
/-!
DEFINITION. Ethernet frames as bytes, from the destination address through FCS: the parser (R367 to R369), the key of the
classifier (R370), and the frames that the device builds (R393). Header layouts are those of IEEE 802.3, IETF and the RoCE v2
annex; the manual cites them and does not print them.
-/

namespace Sys2Proof.Machine

/-- A byte of a frame; zero beyond its end. -/
def byteAt (b : List Byte) (i : Nat) : Nat := ((b[i]?).getD 0).toNat

/-- A big-endian field of n bytes. -/
def beAt (b : List Byte) : Nat → Nat → Nat
  | _, 0 => 0
  | i, n + 1 => byteAt b i * 256 ^ n + beAt b (i + 1) n

/-- The n bytes of a number, most significant first. -/
def beB (n x : Nat) : List Byte := (beBytes n x).map (BitVec.ofNat 8)

/-- The ones' complement sum of the 16-bit words of a byte list (IPv4, UDP and ICMP checksums). -/
def sum16 : List Byte → Nat
  | [] => 0
  | [a] => a.toNat * 256
  | a :: b :: t => a.toNat * 256 + b.toNat + sum16 t

/-- A sum folded to 16 bits. -/
def fold16 (x : Nat) : Nat :=
  let f (y : Nat) : Nat := y % 65536 + y / 65536
  f (f (f x))

/-- The checksum that makes a sum complete. -/
def csum (x : Nat) : Nat := 65535 - fold16 x

/-- What the parser finds in a frame (R367). -/
structure Parsed where
  malformed : Bool
  /-- Options, fragments or extension headers (R369). -/
  slow : Bool
  etype : Nat
  vid : Nat
  pcp : Nat
  tagged : Bool
  v4 : Bool
  v6 : Bool
  proto : Nat
  dscp : Nat
  ecn : Nat
  src : Nat
  dst : Nat
  /-- Offset of the IP header, of the header after it, and its length. -/
  l3 : Nat
  l4 : Nat
  l4len : Nat
  udp : Bool
  sport : Nat
  dport : Nat
  roce : Bool
  ptp : Bool
  len : Nat
  deriving DecidableEq, Repr

def Parsed.none : Parsed :=
  ⟨false, false, 0, 0, 0, false, false, false, 0, 0, 0, 0, 0, 0, 0, 0, false, 0, 0, false, false, 0⟩

def isTpid (x : Nat) : Bool := x == 0x8100 || x == 0x88A8

/-- IPv6 next headers that are extension headers. -/
def isExtHeader (x : Nat) : Bool := [0, 43, 44, 50, 51, 60, 135, 139, 140].contains x

/-- The sum of the pseudo-header of an IP packet. -/
def pseudoSum (p : Parsed) : Nat :=
  sum16 (beB (if p.v4 then 4 else 16) p.src) + sum16 (beB (if p.v4 then 4 else 16) p.dst) + p.proto + p.l4len

/-- R367, R368: UDP and what follows it, for a packet whose IP header is well formed. `b` is the frame without its FCS. -/
def parseUdp (b : List Byte) (p : Parsed) : Parsed :=
  if p.proto ≠ 17 then p
  else if p.l4len < 8 then { p with malformed := true }
  else
    let ulen := beAt b (p.l4 + 4) 2
    let sport := beAt b p.l4 2
    let dport := beAt b (p.l4 + 2) 2
    let check := beAt b (p.l4 + 6) 2
    let p := { p with udp := true, sport := sport, dport := dport }
    let sumOk := fold16 (pseudoSum { p with l4len := ulen } + sum16 ((b.drop p.l4).take ulen)) == 65535
    if ulen < 8 ∨ p.l4len < ulen then { p with malformed := true }
    else if check = 0 ∧ p.v6 ∧ dport ≠ 4791 then { p with malformed := true }
    else if check ≠ 0 ∧ sumOk = false then { p with malformed := true }
    else if dport = 4791 then (if ulen < 8 + 12 + 4 then { p with malformed := true } else { p with roce := true })
    else if dport = 319 ∨ dport = 320 then { p with ptp := true }
    else p

/-- R367 to R369: the network header at offset `o`. `b` is the frame without its FCS. -/
def parseIp (b : List Byte) (p : Parsed) (o : Nat) : Parsed :=
  let n := b.length
  if p.etype = 0x0800 then
    if n < o + 20 then { p with malformed := true }
    else
      let ihl := byteAt b o % 16
      let total := beAt b (o + 2) 2
      let frag := beAt b (o + 6) 2
      let p := { p with
        v4 := true, proto := byteAt b (o + 9), dscp := byteAt b (o + 1) / 4, ecn := byteAt b (o + 1) % 4
        src := beAt b (o + 12) 4, dst := beAt b (o + 16) 4, l3 := o, l4 := o + 4 * ihl, l4len := total - 4 * ihl }
      if byteAt b o / 16 ≠ 4 ∨ ihl < 5 ∨ total < 20 ∨ n < o + total ∨ n < o + 4 * ihl ∨ total < 4 * ihl ∨
          fold16 (sum16 ((b.drop o).take (4 * ihl))) ≠ 65535 then { p with malformed := true }
      else if 5 < ihl ∨ frag % 0x4000 ≠ 0 then { p with slow := true }
      else parseUdp b p
  else if p.etype = 0x86DD then
    if n < o + 40 then { p with malformed := true }
    else
      let plen := beAt b (o + 4) 2
      let tc := beAt b o 2 / 16 % 256
      let p := { p with
        v6 := true, proto := byteAt b (o + 6), dscp := tc / 4, ecn := tc % 4
        src := beAt b (o + 8) 16, dst := beAt b (o + 24) 16, l3 := o, l4 := o + 40, l4len := plen }
      if n < o + 40 + plen then { p with malformed := true }
      else if isExtHeader p.proto then { p with slow := true }
      else parseUdp b p
  else if p.etype = 0x88F7 then { p with ptp := true, l4 := o }
  else p

/-- R367, R368: parses a frame; `f` is the whole frame with its FCS. -/
def parseFrame (f : List Byte) : Parsed :=
  let b := f.take (f.length - 4)
  let t0 := beAt b 12 2
  let p := { Parsed.none with len := f.length }
  if isTpid t0 then
    let tci := beAt b 14 2
    let p := { p with tagged := true, vid := tci % 4096, pcp := tci / 8192 }
    let t1 := beAt b 16 2
    if isTpid t1 then
      let t2 := beAt b 20 2
      if isTpid t2 then { p with malformed := true, etype := t2 }
      else parseIp b { p with etype := t2 } 22
    else parseIp b { p with etype := t1 } 18
  else parseIp b { p with etype := t0 } 14

/-- The base transport header's opcode and destination QP. -/
def bthOpcode (b : List Byte) (p : Parsed) : Nat := if p.roce then byteAt b (p.l4 + 8) else 0
def bthDest (b : List Byte) (p : Parsed) : Nat := if p.roce then beAt b (p.l4 + 13) 3 else 0

/-- R370: the key of a frame. -/
def frameKey (b : List Byte) (p : Parsed) (petal : Nat) : Nat :=
  p.etype + p.vid * 2 ^ 16 + p.pcp * 2 ^ 28 + b2n p.tagged * 2 ^ 31 +
  (p.proto + p.dscp * 2 ^ 8 + p.ecn * 2 ^ 14 + b2n p.v4 * 2 ^ 16 + b2n p.v6 * 2 ^ 17 + b2n p.udp * 2 ^ 18 +
    b2n p.roce * 2 ^ 19 + b2n p.ptp * 2 ^ 20) * 2 ^ 32 +
  p.src * 2 ^ 64 + p.dst * 2 ^ 192 + (bthOpcode b p + bthDest b p * 2 ^ 8) * 2 ^ 320 + petal * 2 ^ 352

/-- R371: does a comparator give "inside"? -/
def inRange (r : Nat) (p : Parsed) : Bool :=
  let lo := bitsOf r 16 16
  let hi := bitsOf r 32 16
  let t (have_ : Bool) (v : Nat) : Bool := have_ && decide (lo ≤ v) && decide (v ≤ hi)
  match bitsOf r 0 4 with
  | 1 => t p.udp p.sport
  | 2 => t p.udp p.dport
  | 3 => t p.tagged p.vid
  | 4 => t true p.len
  | _ => false

/-- R372: does a frame match a rule? -/
def ruleMatches (ranges : Tbl (BitVec 64)) (r dir port key : Nat) (p : Parsed) : Bool :=
  let cmp (en inv idx : Nat) : Bool :=
    !bitAt r en || (inRange (lookD ranges (fld r 0 idx 8) 0).toNat p != bitAt r inv)
  bitAt r 0 && bitsOf r 1 1 == dir && bitAt r (32 + port) &&
  ((bitsOf r 128 384 ^^^ key) &&& bitsOf r 512 384) == 0 && cmp 2 3 8 && cmp 4 5 16

/-- R372: the lowest-numbered matching rule: its number and action. -/
def classify (rules : Tbl (BitVec 1024)) (ranges : Tbl (BitVec 64)) (dir port : Nat) (f : List Byte) (p : Parsed)
    (petal : Nat) : Option (Nat × Nat) :=
  let key := frameKey f p petal
  (rules.find? (fun r => ruleMatches ranges r.2.toNat dir port key p)).map (fun r => (r.1, bitsOf r.2.toNat 896 128))

/-- The actions of a rule (R370). -/
def actKind (a : Nat) : Nat := bitsOf a 0 3
def actSetQueue (a : Nat) : Bool := bitAt a 3
def actQueue (a : Nat) : Nat := bitsOf a 4 5
def actLimit (a : Nat) : Bool := bitAt a 9
def actLimiter (a : Nat) : Nat := bitsOf a 10 14
def actMirrorPort (a : Nat) : Nat := bitsOf a 32 5
def actMirrorQueue (a : Nat) : Nat := bitsOf a 37 4

/-! ### RoCE packets -/

/-- The invariant CRC of a RoCE v2 frame: fields that a router may change count as ones. -/
def icrcOf (b : List Byte) (p : Parsed) : Nat :=
  let ulen := beAt b (p.l4 + 4) 2
  let ip := (b.drop p.l3).take (p.l4 - p.l3)
  let ip := if p.v4 then ((ip.set 1 0xFF).set 8 0xFF).set 10 0xFF |>.set 11 0xFF
            else ((((ip.set 0 0x6F).set 1 0xFF).set 2 0xFF).set 3 0xFF).set 7 0xFF
  let udp := (((b.drop p.l4).take 8).set 6 0xFF).set 7 0xFF
  let rest := ((b.drop (p.l4 + 8)).take (ulen - 12)).set 4 0xFF
  crc32 (List.replicate 8 0xFF ++ ip ++ udp ++ rest)

/-- Does an opcode carry an RDMA extended header, immediate data, an acknowledgement header? -/
def hasReth (op : Nat) : Bool := op == 0x06 || op == 0x0A || op == 0x0C || op == 0x0B
def hasImm (op : Nat) : Bool := op == 0x03 || op == 0x05 || op == 0x09 || op == 0x0B
def hasAeth (op : Nat) : Bool := op == 0x0D || op == 0x0F || op == 0x10 || op == 0x11

/-- The packet that a RoCE frame carries. -/
def rocePkt (b : List Byte) (p : Parsed) : RocePkt :=
  let o := p.l4 + 8
  let ulen := beAt b (p.l4 + 4) 2
  let op := byteAt b o
  let pad := byteAt b (o + 1) / 16 % 4
  let h := 12 + (if hasReth op then 16 else 0) + (if hasAeth op then 4 else 0) + (if hasImm op then 4 else 0)
  let x := o + 12
  { dst := BitVec.ofNat 128 p.dst
    src := BitVec.ofNat 128 p.src
    opcode := BitVec.ofNat 8 op
    ackReq := bitAt (byteAt b (o + 8)) 7
    destQp := BitVec.ofNat 24 (beAt b (o + 5) 3)
    psn := BitVec.ofNat 24 (beAt b (o + 9) 3)
    ce := p.ecn == 3
    icrcOk := leNat ((b.drop (p.l4 + ulen - 4)).take 4) == icrcOf b p
    addr := if hasReth op then BitVec.ofNat 64 (beAt b x 8) else 0
    rkey := if hasReth op then BitVec.ofNat 32 (beAt b (x + 8) 4) else 0
    dmaLen := if hasReth op then BitVec.ofNat 32 (beAt b (x + 12) 4) else 0
    imm := if hasImm op then BitVec.ofNat 32 (beAt b (o + h - 4) 4) else 0
    syndrome := if hasAeth op then BitVec.ofNat 8 (byteAt b x) else 0
    payload := (b.drop (o + h)).take (ulen - 8 - h - 4 - pad) }

/-! ### Frames that the device builds -/

/-- R364: the MAC address of a port. -/
def macOf (port : Nat) : Nat := Config.macBase.toNat * 32 + port

/-- A frame: its header, its body padded to the least size (R363), and its FCS. -/
def ethFrame (dst src vid etype : Nat) (body : List Byte) : List Byte :=
  let tag := if vid = 0 then [] else beB 2 0x8100 ++ beB 2 vid
  let f := beB 6 dst ++ beB 6 src ++ tag ++ beB 2 etype ++ body
  let f := f ++ List.replicate (60 - f.length) 0
  f ++ leBytes 4 (crc32 f)

/-- An IPv4 or IPv6 packet. -/
def ipPacket (v6 : Bool) (src dst proto tos ttl : Nat) (body : List Byte) : List Byte :=
  if v6 then
    beB 4 (6 * 2 ^ 28 + tos * 2 ^ 20) ++ beB 2 body.length ++ beB 1 proto ++ beB 1 ttl ++ beB 16 src ++ beB 16 dst ++ body
  else
    let h (c : Nat) : List Byte := beB 1 0x45 ++ beB 1 tos ++ beB 2 (20 + body.length) ++ beB 2 0 ++ beB 2 0x4000 ++
      beB 1 ttl ++ beB 1 proto ++ beB 2 c ++ beB 4 src ++ beB 4 dst
    h (csum (sum16 (h 0))) ++ body

end Sys2Proof.Machine
end

