-- ==== Sys2Proof/Machine/Mailbox.lean ====
section
/-!
DEFINITION. The mailbox protocol (R292 to R297): the request area, the checks every command passes, the response, late slots
and late records.
-/

namespace Sys2Proof.Machine

/-! ### Detail codes of the protocol (R313) -/
def dtNoSession : Nat := 0x90
def dtHfiMajor : Nat := 0x91
def dtTagRange : Nat := 0x92
def dtTagInUse : Nat := 0x93
def dtLateSlotsFull : Nat := 0x94
def dtVectorOwner : Nat := 0x95

/-- The number of the device page's operator mailbox among the pages. -/
def devPage : Nat := 512

/-- The pages that carry a command (R270, R308). -/
inductive Pages
  | any | device | own
  deriving DecidableEq, Repr

/-- What the protocol knows of a command. -/
structure Cmd where
  opcode : Nat
  pages : Pages
  /-- R296: may it answer PENDING? -/
  canPend : Bool
  /-- Request bytes up to the last field it defines, the header included (R292). -/
  len : Nat
  /-- It carries a petal number at 0x10 [8:0]. -/
  petalAt : Bool
  /-- The fields it defines: byte, lowest bit, width. Every other bit from 0x10 to length is reserved. -/
  flds : List (Nat × Nat × Nat)
  /-- The object it names, by kind and number, where a later command on it waits for an earlier one (R297). -/
  obj : Mbx → Option (Nat × Nat)

/-- A field of a request. -/
def mf (m : Mbx) (byte bit w : Nat) : Nat := fld m.payload.toNat (byte - 16) bit w

/-- The petal a command acts on: on a petal page the page's own, on the device page the one it names. -/
def mPetal (m : Mbx) : Nat := if m.page.val = devPage then mf m 0x10 0 9 else m.page.val

/-- R292: the 16 header bytes of a request. -/
def mbxHeader (opcode : Nat) (m : Mbx) : Nat :=
  let h := m.hdrRsv.toNat
  opcode % 2 ^ 16 + b2n m.irq * 2 ^ 16 + bitsOf h 0 15 * 2 ^ 17 + m.tag.toNat * 2 ^ 32 + bitsOf h 15 3 * 2 ^ 45 +
    m.length.toNat * 2 ^ 48 + bitsOf h 18 64 * 2 ^ 64

/-- The request that a request area holds: its opcode and its fields. -/
def mbxOf (page : PageId) (req : BitVec 2048) : Nat × Mbx :=
  let x := req.toNat
  (bitsOf x 0 16,
   { page := page
     irq := bitAt x 16
     tag := BitVec.ofNat 13 (bitsOf x 32 13)
     length := BitVec.ofNat 16 (bitsOf x 48 16)
     hdrRsv := BitVec.ofNat 82 (bitsOf x 17 15 + bitsOf x 45 3 * 2 ^ 15 + bitsOf x 64 64 * 2 ^ 18)
     payload := BitVec.ofNat 1920 (x / 2 ^ 128) })

/-- The control petal (R267). -/
def controlPetal (s : State) : Option Nat := (s.petals.find? (fun e => e.2.control)).map (·.1)

def dtNoControlPetal : Nat := 0x98

/-- Does a page answer: is firmware in service and, for a petal page, has the petal been created (R273, R289)? In recovery the device
page alone answers (R533). -/
def pageAnswers (s : State) (g : Nat) : Bool :=
  (s.ready && (decide (g = devPage) || (getPetal s g).isSome)) || (s.board.stage == .recovery && decide (g = devPage))

/-- R533: the opcodes that recovery serves. -/
def recoveryOpcodes : List Nat := [0x0000, 0x0001, 0x0002, 0x0003, 0x0A20, 0x0A21, 0x0A40]

def recoveryRefuses (s : State) (opcode : Nat) : Bool := s.board.stage == .recovery && !recoveryOpcodes.contains opcode

/-- R4: are the reserved bits of a request zero? -/
def reservedClear (c : Cmd) (m : Mbx) : Bool :=
  let body := m.payload.toNat % 2 ^ (8 * (m.length.toNat - 16))
  m.hdrRsv == 0 && c.flds.foldl (fun x f => setBits x (8 * (f.1 - 16) + f.2.1) f.2.2 0) body == 0

/-- R296: does a late slot hold a record that has not been freed? Its phase says so. -/
def holdsRecord (pg : MPage) (k : Nat) : Bool := bitAt (lookD pg.late k 0).toNat 24

/-- The late slots that are neither reserved nor hold a record (R296). -/
def freeSlots (pg : MPage) : List Nat :=
  (List.range 16).filter (fun k => !holdsRecord pg k && !pg.pends.any (fun q => q.slot == k))

/-- R295, checks 1 to 7: the response of the first that fails. -/
def mbxRefusal (c : Cmd) (m : Mbx) (s : State) : Option Reply :=
  let pg := getPage s m.page.val
  let dev := decide (m.page.val = devPage)
  if c.opcode ≠ 0 ∧ pg.session = 0 then some (replyErr stVersionRefused dtNoSession)
  else if c.opcode ≠ 0 ∧ pg.session = 3 then some (replyErr stVersionRefused dtHfiMajor)
  else if c.opcode ≠ 0 ∧ pg.session = 2 then some (replyErr stLeaseExpired 0)
  else if recoveryRefuses s c.opcode = true then some (replyErr stInvalidOpcode 0)
  else if m.length.toNat % 4 ≠ 0 ∨ m.length.toNat < max 16 c.len ∨ 256 < m.length.toNat then some (replyErr stLengthError 0)
  else if (c.pages = .device ∧ dev = false) ∨ (c.pages = .own ∧ dev = true) ∨
      (c.petalAt = true ∧ dev = false ∧ mf m 0x10 0 9 ≠ m.page.val) then some (replyErr stNotPermitted 0)
  else if dev = false ∧ recTags (((getPetal s m.page.val).map (·.record)).getD 0) ≤ m.tag.toNat then
    some (replyErr stInvalidArgument dtTagRange)
  else if (if dev then pg.pends.any (fun q => q.tag == m.tag.toNat)
      else (((getPetal s m.page.val).map (fun x => tagHeld x m.tag.toNat)).getD false)) then
    some (replyErr stInvalidArgument dtTagInUse)
  else if c.canPend = true ∧ freeSlots pg = [] then some (replyErr stBusy dtLateSlotsFull)
  else if reservedClear c m = false then some (replyErr stInvalidArgument 0)
  else none

/-- R293, R294: the response area, its first `16 + bytes` bytes new. -/
def rspArea (old : BitVec 2048) (tag : Nat) (r : Reply) : BitVec 2048 :=
  let n := 16 + r.bytes
  let body := r.status % 2 ^ 8 + r.detail % 2 ^ 24 * 2 ^ 8 + tag % 2 ^ 16 * 2 ^ 32 + n % 2 ^ 16 * 2 ^ 48 +
    r.payload % 2 ^ (8 * r.bytes) * 2 ^ 128
  BitVec.ofNat 2048 (old.toNat / 2 ^ (8 * n) * 2 ^ (8 * n) + body)

/-- R294, step 3: writes a response, then advances done and clears busy. -/
def postResponse (s : State) (g tag : Nat) (r : Reply) : State :=
  let pg := getPage s g
  setPage s g { pg with rsp := rspArea pg.rsp tag r, done := pg.done + 1, busy := false }

/-- R294, steps 3 and 4: a final response and its message. -/
def respond (s : State) (g tag : Nat) (irq : Bool) (r : Reply) : State :=
  let s := postResponse s g tag r
  if irq then sendVector s (getPage s g).vector else s

/-- The answer of a command's meaning. -/
inductive Ans
  | reply (r : Reply)
  | pend (why : PendWhy)
  /-- PENDING, with an outcome that is decided and not yet posted. -/
  | late (why : PendWhy) (r : Reply)
  deriving DecidableEq, Repr

def ansOk : Ans := .reply replyOk
def ansErr (st detail : Nat) : Ans := .reply (replyErr st detail)

/-- R296: a command that answers PENDING reserves the lowest free late slot, holds its tag and names the slot. -/
def postPending (c : Cmd) (m : Mbx) (why : PendWhy) (outcome : Option Reply) (s : State) : State :=
  let pg := getPage s m.page.val
  let k := (freeSlots pg).headD 0
  let q : Pend := ⟨k, m.tag.toNat, m.irq, c.opcode, m.length.toNat, m.payload, c.obj m, why, outcome⟩
  let s := setPage s m.page.val { pg with pends := pg.pends ++ [q] }
  let s := if m.page.val = devPage then s else holdTag s m.page.val m.tag.toNat .mailbox
  postResponse s m.page.val m.tag.toNat ⟨stPending, 0, k, 4⟩

/-- R276, R264: a QUIESCE_PETAL or ENABLE_PETAL that waits for a state of its petal does not hold the petal, nor an abort that
waits for its task the queue, nor a COL_COMM_CREATE its communicator (R190). -/
def holdsObj (q : Pend) : Bool :=
  match q.why with
  | .quiesce _ => false
  | .enable _ => false
  | .taskEnd _ _ _ => false
  | .join _ _ => false
  | _ => true

/-- R297: is the object that a command names held by an earlier command still in progress on its page? -/
def objHeld (pg : MPage) (o : Option (Nat × Nat)) : Bool := o.isSome && pg.pends.any (fun q => q.obj == o && holdsObj q)

/-- A command whose checks of R295 passed: its meaning, then its answer. -/
def runBody (c : Cmd) (body : Mbx → State → State × Ans) (m : Mbx) (s : State) : State :=
  if c.canPend && objHeld (getPage s m.page.val) (c.obj m) then postPending c m .deferred none s
  else
    match body m s with
    | (s, .reply r) => respond s m.page.val m.tag.toNat m.irq r
    | (s, .pend why) => postPending c m why none s
    | (s, .late why r) => postPending c m why (some r) s

/-- R294: the doorbell of a page whose request area holds the request. -/
def doorbell (c : Cmd) (body : Mbx → State → State × Ans) (m : Mbx) (s : State) : State :=
  let pg := getPage s m.page.val
  if pg.busy then setPage s m.page.val { pg with overrun := true }
  else
    let s := if m.page.val = devPage then s else count s kPtl m.page.val 8 1
    match mbxRefusal c m s with
    | some r => respond s m.page.val m.tag.toNat m.irq r
    | none => runBody c body m s

/-- R294, step 1: the requester writes the request area. -/
def writeRequest (opcode : Nat) (m : Mbx) (s : State) : State :=
  let pg := getPage s m.page.val
  setPage s m.page.val { pg with req := BitVec.ofNat 2048 (mbxHeader opcode m + m.payload.toNat * 2 ^ 128) }

/-! ### Quiesce causes and the lease (R276, R301 to R303) -/

/-- A cause of a quiesce (R271). -/
inductive Cause
  | cmd | lease | flr | debug
  deriving DecidableEq, Repr

def addCause (c : Cause) (x : Petal) : Petal :=
  match c with
  | .cmd => { x with causeCmd := true }
  | .lease => { x with causeLease := true }
  | .flr => { x with causeFlr := true }
  | .debug => { x with causeDebug := true }

/-- R276: a cause is added; an ACTIVE petal enters QUIESCING. -/
def enterQuiesce (s : State) (p : Nat) (c : Cause) : State :=
  match getPetal s p with
  | none => s
  | some x =>
    let s := modPetal s p (addCause c)
    if x.st = .active then modPetal (count s kPtl p 7 1) p (fun x => { x with st := .quiescing, drainForced := false }) else s

/-- The PASIDs of a petal's bindings. -/
def petalPasids (x : Petal) : List Nat :=
  (x.bindings.filter (fun b => bitAt b.toNat 37 && bitAt b.toNat 36)).map (fun b => bitsOf b.toNat 16 20)

/-- R302, steps 1 to 4, on the petal of a page: quiesce with a cause, requests toward the upstream port and messages withheld,
translations discarded. -/
def withholdPetal (s : State) (p : Nat) (c : Cause) : State :=
  match getPetal s p with
  | none => s
  | some x =>
    let s := modPetal (enterQuiesce s p c) p (fun x => { x with upstreamHeld := true, msixHeld := true })
    { s with pcie := { s.pcie with atc := s.pcie.atc.filter (fun t => !(petalPasids x).contains t.pasid) } }

/-- R302, R303, R478: the lease of a page ends: the session field takes a value, the page's debug session closes, and the page's
petal is withheld, or the device area's staged settings are discarded. -/
def endLease (s : State) (g : Nat) (session : BitVec 2) (c : Cause) : State :=
  let s := closeSession (setPage s g { getPage s g with session := session }) g
  if g = devPage then { s with devArea := { s.devArea with stage := [] } } else withholdPetal s g c

/-- R301: has the expiry point of a held lease passed? -/
def leaseDue (s : State) (g : Nat) : Bool :=
  (getPage s g).session == 1 && elapsedAtLeast s (getPage s g).lastRenew 2000000000

/-- R301: a lease whose expiry point has passed has expired. -/
def settleLease (s : State) (g : Nat) : State := if leaseDue s g then endLease s g 2 .lease else s

/-- R294: a mailbox command: its request is written and its doorbell rung. A page that does not answer leaves the module as
it was. -/
def mailbox (c : Cmd) (body : Mbx → State → State × Ans) (m : Mbx) (s : State) : State :=
  if pageAnswers s m.page.val then doorbell c body m (writeRequest c.opcode m (settleLease (awake s) m.page.val)) else s

/-- R295, check 2: the response to an opcode that is not defined. -/
def undefinedOpcode (m : Mbx) (s : State) : State :=
  let pg := getPage s m.page.val
  if pg.busy then setPage s m.page.val { pg with overrun := true }
  else
    let s := if m.page.val = devPage then s else count s kPtl m.page.val 8 1
    let r :=
      if pg.session = 0 then replyErr stVersionRefused dtNoSession
      else if pg.session = 3 then replyErr stVersionRefused dtHfiMajor
      else if pg.session = 2 then replyErr stLeaseExpired 0
      else replyErr stInvalidOpcode 0
    respond s m.page.val m.tag.toNat m.irq r

/-- R296, R307: the late record of a pending command whose outcome is known. -/
def postLate (s : State) (g : Nat) (q : Pend) (r : Reply) : State :=
  let pg := getPage s g
  let body := r.payload % 2 ^ (8 * r.bytes)
  let pg := { pg with
    late := put pg.late q.slot (BitVec.ofNat 256 (record q.tag r.status 0xFFFF body pg.lateSeq r.detail true))
    lateData := put pg.lateData q.slot (BitVec.ofNat 512 body)
    lateSeq := pg.lateSeq + 1
    pends := pg.pends.filter (fun x => x.slot != q.slot) }
  let s := setPage s g pg
  let s := if g = devPage then s else freeTag s g q.tag
  if q.irq then sendVector s pg.vector else s

/-! ### Staging (R250) -/

def dtStageFull : Nat := 0x82

/-- The staging area of a page. -/
def areaOf (s : State) (g : Nat) : Area :=
  if g = devPage then s.devArea else ((getPetal s g).map (·.area)).getD Area.new

def setArea (s : State) (g : Nat) (a : Area) : State :=
  if g = devPage then { s with devArea := a } else modPetal s g (fun x => { x with area := a })

/-- The staged bytes that an area holds, those of accepted commits included. -/
def areaBytes (a : Area) : Nat :=
  ((a.stage ++ a.commits.flatMap (·.items)).map (·.bytes)).foldl (· + ·) 0

/-- R250: stages a request, with what it read from memory, in its page's area, which holds up to 1 MiB. -/
def stageWith (opcode : Nat) (m : Mbx) (extra : List Byte) (s : State) : State × Ans :=
  let a := areaOf s m.page.val
  let n := m.length.toNat + extra.length
  if 2 ^ 20 < areaBytes a + n then (s, ansErr stNoResources dtStageFull)
  else (setArea s m.page.val { a with stage := a.stage ++ [⟨opcode, m.payload, n, false, extra⟩] }, ansOk)

def stageItem (opcode : Nat) (m : Mbx) (s : State) : State × Ans := stageWith opcode m [] s

/-- PTL_MBX_LATE_ACK (R296): frees a slot that holds a record; its record's phase and its data then read 0. -/
def lateAck (s : State) (g slot : Nat) : State :=
  let pg := getPage s g
  if holdsRecord pg slot then
    setPage s g { pg with
      late := put pg.late slot (BitVec.ofNat 256 (setBits (lookD pg.late slot 0).toNat 24 1 0)), lateData := del pg.lateData slot }
  else s

/-- R296: a write of a slot to PTL_MBX_LATE_ACK of a page. -/
def execPtlMbxLateAck (page : PageId) (v : W32) (s : State) : Host.Outcome State Fault Refusal :=
  .next (if pageAnswers s page.val then lateAck s page.val (bitsOf v.toNat 0 4) else s)

end Sys2Proof.Machine
end

