-- ==== Sys2Proof/Machine/Eth.lean ====
section
/-!
DEFINITION. Ethernet ports: lanes and modes, port time, gate lists, shapers, limiters, ingress and egress queues (15).
-/

namespace Sys2Proof.Machine

def kNetPort : Nat := 0x08
def kNetQueue : Nat := 0x09
def kPrsRule : Nat := 0x0A
def kNetLimiter : Nat := 0x0B
/-- The petal number of device traffic in the classifier's key and in egress lines (R370, R373). -/
def devTraffic : Nat := 0x1FF

def getPort (s : State) (j : Nat) : NetPort := lookD s.net.ports j NetPort.new
def setPort (s : State) (j : Nat) (x : NetPort) : State := { s with net := { s.net with ports := put s.net.ports j x } }
def modPort (s : State) (j : Nat) (f : NetPort → NetPort) : State := setPort s j (f (getPort s j))

/-- R362: the number of ports and of lanes per port in a mode. -/
def modePorts (mode : Nat) : Nat := 4 * 2 ^ mode
def modeLanes (mode : Nat) : Nat := 8 / 2 ^ mode

/-- R363, R365: the rate in use, in Gb/s. -/
def portGbps (x : NetPort) : Nat := 200 * x.lanes

/-! ### Port time and gates (R378 to R383) -/

/-- R541: is the 156.25 MHz reference good? -/
def ethRefGood (s : State) : Bool := bitAt s.board.refGood.toNat 2

/-- R378: port time in steps of 125 ps: 80 for each step of the elapsed counter, as the clock's frequency adjusts them. It stands still
while its reference is bad (R541). -/
def portTime (s : State) (x : NetPort) : Nat :=
  let n : Int := if ethRefGood s then ((s.elapsed - x.timeAt).toNat * 80 : Nat) else 0
  ((x.time : Int) + n + n * x.ppb / 1000000000).toNat % (2 ^ 48 * 8000000000)

/-- Port time in whole ns. -/
def portNs (s : State) (x : NetPort) : Nat := portTime s x / 8

/-- R380: when does the cycle that holds a moment start? -/
def cycleStart (g : GateList) (t : Nat) : Nat :=
  if g.base ≤ t then g.base + (t - g.base) / g.cycle * g.cycle
  else g.base - (g.base - t + g.cycle - 1) / g.cycle * g.cycle

/-- R382: the first cycle start at or after a moment. -/
def nextCycle (g : GateList) (t : Nat) : Nat := if cycleStart g t = t then t else cycleStart g t + g.cycle

/-- The entry that runs at an offset into a cycle and where it starts; the last entry holds to the end of the cycle. -/
def entryAt : List (Nat × Nat) → Nat → Nat → Nat → Nat × Nat
  | [], i, from_, _ => (i, from_)
  | [_], i, from_, _ => (i, from_)
  | e :: es, i, from_, off => if off < from_ + e.2 then (i, from_) else entryAt es (i + 1) (from_ + e.2) off

/-- R383: the entry that runs at a moment, with the moment it started. -/
def gatePosition (g : GateList) (t : Nat) : Nat × Nat :=
  let c := cycleStart g t
  let e := entryAt g.entries 0 0 (t - c)
  (e.1, c + e.2)

/-- R380: the entries of one cycle with the time for which each runs. -/
def cycleRuns : List (Nat × Nat) → Nat → List (Nat × Nat)
  | [], _ => []
  | [e], left => [(e.1, left)]
  | e :: es, left => if left ≤ e.2 then [(e.1, left)] else (e.1, e.2) :: cycleRuns es (left - e.2)

/-- How long queue q stays open from the front of a list of runs on; none where it never closes in it. -/
def openRun (q : Nat) : List (Nat × Nat) → Nat → Option Nat
  | [], _ => none
  | r :: rs, acc => if bitAt r.1 q then openRun q rs (acc + r.2) else some acc

/-- R381: the longest open interval of a queue; none where its gate never closes. -/
def longestOpen (g : GateList) (q : Nat) : Option Nat :=
  let runs := cycleRuns g.entries g.cycle
  if runs.all (fun r => bitAt r.1 q) then none
  else
    let two := runs ++ runs
    some ((List.range runs.length).foldl (fun m i => max m ((openRun q (two.drop i) 0).getD 0)) 0)

/-- R381: for how long, from now, does the gate of queue q stay open; none where it does not close. A list's entry is the
one in `gateIdx`. -/
def openFor (s : State) (x : NetPort) (q : Nat) : Option Nat :=
  match x.gate with
  | none => none
  | some g =>
    let runs := cycleRuns g.entries g.cycle
    let two := runs ++ runs
    match openRun q (two.drop x.gateIdx) 0 with
    | none => none
    | some d => some (d - min d (portNs s x - x.gateFrom))

/-- R375: a frame's length for deficit, shaping and gate checks. -/
def shapedLen (f : TxFrame) : Nat := f.bytes.length + 20

/-- R381: does a frame of a length finish, at the rate in use, within a time in ns? -/
def finishes (x : NetPort) (len ns : Nat) : Bool := decide (len * 8 ≤ ns * portGbps x)

/-- R381: is the gate of queue q open long enough for its head frame? -/
def gateOpen (s : State) (x : NetPort) (q : Nat) (f : TxFrame) : Bool :=
  match openFor s x q with
  | none => true
  | some ns => finishes x (shapedLen f) ns

/-! ### Shapers (R377) -/

/-- Tokens now, in units of 1/8000 byte. -/
def tokensNow (s : State) (e : EgressQ) : Nat :=
  min (e.burst * 8000) (e.tokens + (s.elapsed - e.tokensAt).toNat * 10 * e.rate)

/-- R377: does the shaper let a frame start? -/
def shaperOpen (s : State) (e : EgressQ) (f : TxFrame) : Bool := e.rate == 0 || decide (shapedLen f * 8000 ≤ tokensNow s e)

/-- R377: a commit changes a shaper. -/
def setShaper (s : State) (e : EgressQ) (rate burst : Nat) : EgressQ :=
  if rate = 0 then { e with rate := 0, burst := 0, tokens := 0, tokensAt := s.elapsed }
  else if e.rate = 0 then { e with rate := rate, burst := burst, tokens := burst * 8000, tokensAt := s.elapsed }
  else { e with rate := rate, burst := burst, tokens := min (tokensNow s e) (burst * 8000), tokensAt := s.elapsed }

/-! ### Egress queues and limiters (R373, R375, R384, R385) -/

/-- Adds a frame to an egress queue. -/
def enqueue (s : State) (j q : Nat) (f : TxFrame) : State :=
  modPort s j (fun x => { x with egress := modV x.egress q (fun e => { e with frames := e.frames ++ [f] }) })

/-- R375: has an egress queue room? -/
def egressRoom (s : State) (j q : Nat) : Bool :=
  decide (((getPort s j).egress.toList[q]?.map (·.frames.length)).getD 4096 < 4096)

/-- R373: a mirror copy; one that finds its queue full is dropped and counted. -/
def mirror (s : State) (j q : Nat) (bytes : List Byte) : State :=
  if egressRoom s j q then enqueue s j q ⟨devTraffic, bytes⟩ else count s kNetPort j 14 1

/-- The time of the wheel, in ps (R385). -/
def wheelPs (s : State) : Nat := s.elapsed.toNat * 10000

/-- R384: when the head frame of a limiter may leave, in ps. -/
def eligibleAt (l : Limiter) (now : Nat) : Nat := max now (l.tat - l.burst * 8000000 / l.rate)

def getLimiter (s : State) (i : Nat) : Limiter := lookD s.net.limiters i Limiter.new
def setLimiter (s : State) (i : Nat) (l : Limiter) : State :=
  { s with net := { s.net with limiters := put s.net.limiters i l } }

/-- R385: frames that the limiters hold together. -/
def heldFrames (s : State) : Nat := (s.net.limiters.map (fun l => l.2.held.length)).foldl (· + ·) 0

/-- R385: a time more than 262.144 µs ahead is held on the second level. -/
def wheelSpan : Nat := 262144000

/-- R384, R385: a frame enters its limiter. -/
def intoLimiter (s : State) (i j q : Nat) (f : TxFrame) : State :=
  let l := getLimiter s i
  if !l.enable then enqueue s j q f
  else
    let now := wheelPs s
    let late := decide (now < eligibleAt l now) || !l.held.isEmpty
    let s := count (count s kNetLimiter i 0 1) kNetLimiter i 1 f.bytes.length
    let s := if late then count s kNetLimiter i 2 1 else s
    setLimiter s i { l with held := l.held ++ [⟨j, q, f, decide (now + wheelSpan < eligibleAt l now)⟩] }

/-- May a source send a frame into a queue: has the queue room and, where a rule passes it through a limiter, have the
limiters (R375, R385)? -/
def sendRoom (s : State) (j q : Nat) : Bool := egressRoom s j q && decide (heldFrames s < 65536)

/-- R367, R373: a frame of a petal (or of the device) is classified and sent on an egress queue. -/
def sendFrame (s : State) (j q petal : Nat) (bytes : List Byte) : State :=
  let p := parseFrame bytes
  match classify s.net.rules s.net.ranges 1 j bytes p petal with
  | none => enqueue s j q ⟨petal, bytes⟩
  | some (i, a) =>
    let s := count (count s kPrsRule i 0 1) kPrsRule i 1 bytes.length
    let q := if actSetQueue a then actQueue a % 16 else q
    let s := if actKind a = 3 ∨ actKind a = 4 then mirror s (actMirrorPort a) (actMirrorQueue a) bytes else s
    if actKind a = 1 ∨ actKind a = 4 then count s kNetPort j 12 1
    else if actLimit a then intoLimiter s (actLimiter a) j q ⟨petal, bytes⟩
    else enqueue s j q ⟨petal, bytes⟩

/-- LIMITER_RELEASE (R384, R385): the head frame of a limiter leaves it at its eligible time. -/
def execLimiterRelease (i : Fin 16384) (s : State) : Host.Outcome State Fault Refusal :=
  .next (
    let l := getLimiter s i.val
    let now := wheelPs s
    match l.held with
    | [] => s
    | h :: t =>
      if h.second = false ∧ eligibleAt l now ≤ now ∧ egressRoom s h.port h.queue = true then
        let tat := max l.tat now + shapedLen h.frame * 8000000 / l.rate
        enqueue (setLimiter s i.val { l with tat := tat, held := t }) h.port h.queue h.frame
      else s)

/-- WHEEL_CASCADE (R385): a limiter's head frame whose time is no more than 262.144 µs ahead moves to the first level. -/
def execWheelCascade (i : Fin 16384) (s : State) : Host.Outcome State Fault Refusal :=
  .next (
    let l := getLimiter s i.val
    let now := wheelPs s
    if eligibleAt l now ≤ now + wheelSpan then
      setLimiter s i.val { l with held := l.held.map (fun h => { h with second := false }) }
    else s)

/-- R385: a commit changes a limiter. The debt in bytes is kept; its frames leave where it is disabled. -/
def setLimiterTo (s : State) (i : Nat) (enable : Bool) (rate burst : Nat) : State :=
  let l := getLimiter s i
  let now := wheelPs s
  if !enable then
    l.held.foldl (fun s h => enqueue s h.port h.queue h.frame)
      (setLimiter s i { l with enable := false, rate := rate, burst := burst, held := [] })
  else if !l.enable then setLimiter s i { l with enable := true, rate := rate, burst := burst, tat := now }
  else setLimiter s i { l with rate := rate, burst := burst, tat := now + (l.tat - now) * l.rate / rate }

/-! ### Reception (R363, R368, R369, R372 to R374) -/

/-- Bytes in a port's ingress queues. -/
def ingressBytes (x : NetPort) : Nat :=
  (x.ingress.toList.map (fun q => (q.frames.map (·.len)).foldl (· + ·) 0)).foldl (· + ·) 0

/-- R374: a frame enters an ingress queue of its port, or is dropped and counted against it. -/
def takeIn (s : State) (j q : Nat) (f : RxFrame) : State :=
  let x := getPort s j
  let total := (s.net.ports.map (fun e => ingressBytes e.2)).foldl (· + ·) 0
  let i := 24 * j + 16 + q
  match x.ingress.toList[q]? with
  | none => s
  | some g =>
    if (g.frames.map (·.len)).foldl (· + ·) 0 < g.limit ∧
        (ingressBytes x < 524288 ∨ total + f.len ≤ 24 * 1048576) then
      let s := count (count s kNetQueue i 0 1) kNetQueue i 1 f.len
      modPort s j (fun x => { x with ingress := modV x.ingress q (fun g => { g with frames := g.frames ++ [f] }) })
    else count s kNetQueue i 2 1

/-- R369: a frame goes to the slow path, or is dropped where its port's 1 MiB is full. -/
def toSlow (s : State) (j : Nat) (f : List Byte) : State :=
  let s := count s kNetPort j 8 1
  let x := getPort s j
  if (x.slow.map List.length).foldl (· + ·) 0 + f.length ≤ 1048576 then setPort s j { x with slow := x.slow ++ [f] }
  else count s kNetPort j 9 1

/-- R373: is a frame one that the slow path handles under PASS? -/
def slowKind (p : Parsed) : Bool :=
  p.etype == 0x0806 || (p.v4 && p.proto == 1) || (p.v6 && p.proto == 58)

/-- R373: PASS of a received frame on an ingress queue; the time unit and the slow path take their frames at once. -/
def passRx (s : State) (j : Nat) (setQ : Option Nat) (f : List Byte) (p : Parsed) : State :=
  let x := getPort s j
  let dq := if p.v4 || p.v6 then bitsOf x.dscpMap.toNat (3 * p.dscp) 3 else 0
  let q := (setQ.getD dq) % 8
  let counted (s : State) (q : Nat) : State :=
    count (count s kNetQueue (24 * j + 16 + q) 0 1) kNetQueue (24 * j + 16 + q) 1 f.length
  if p.roce then takeIn s j q ⟨f.length, rocePkt f p⟩
  else if p.ptp then counted s 7
  else if slowKind p then toSlow (counted s q) j f
  else count s kNetPort j 10 1

/-- R372, R373: a well-formed received frame is classified and takes its action. -/
def classifyRx (s : State) (j : Nat) (f : List Byte) (p : Parsed) : State :=
  match classify s.net.rules s.net.ranges 0 j f p devTraffic with
  | none => passRx s j none f p
  | some (i, a) =>
    let s := count (count s kPrsRule i 0 1) kPrsRule i 1 f.length
    let q := if actSetQueue a then some (actQueue a) else none
    match actKind a with
    | 1 => count s kNetPort j 11 1
    | 2 => toSlow s j f
    | 3 => passRx (mirror s (actMirrorPort a) (actMirrorQueue a) f) j q f p
    | 4 => count (mirror s (actMirrorPort a) (actMirrorQueue a) f) kNetPort j 11 1
    | _ => passRx s j q f p

/-- R368: a malformed frame takes its port's malformed action. -/
def malformedRx (s : State) (j : Nat) (f : List Byte) : State :=
  let s := count s kNetPort j 7 1
  let x := getPort s j
  match x.malformed with
  | 1 => mirror s x.mirrorPort x.mirrorQueue f
  | 2 => toSlow s j f
  | _ => s

/-- R363: the MAC accepts a frame: its length and FCS are right, and it is no PAUSE or PFC frame. -/
def receiveFrame (s : State) (j : Nat) (f : List Byte) : State :=
  if f.length < 64 ∨ 9600 < f.length then count s kNetPort j 5 1
  else if leNat (f.drop (f.length - 4)) ≠ crc32 (f.take (f.length - 4)) then count s kNetPort j 4 1
  else
    let s := count (count s kNetPort j 0 1) kNetPort j 1 f.length
    let op := beAt f 14 2
    if beAt f 12 2 = 0x8808 ∧ (op = 1 ∨ op = 0x0101) then count s kNetPort j 6 1
    else
      let p := parseFrame f
      if p.malformed then malformedRx s j f
      else if p.slow then toSlow s j f
      else classifyRx s j f p

/-- ETH_FRAME_RECEIVE (R363, R368 to R374): a frame arrives on a port whose link is up. -/
def execEthFrameReceive (j : Fin 32) (f : List Byte) (s : State) : Host.Outcome State Fault Refusal :=
  .next (if (getPort s j.val).link = 2 then receiveFrame s j.val f else s)

/-! ### The slow path (R369, R394) -/

/-- The valid address entries of a port. -/
def portAddrs (s : State) (j : Nat) : List Nat :=
  (List.range 16).filterMap (fun i =>
    match look s.net.addrs (16 * j + i) with
    | some e => if bitAt e.toNat 12 then some e.toNat else none
    | none => none)

def addrV6 (e : Nat) : Bool := bitAt e 13
def addrVid (e : Nat) : Nat := bitsOf e 16 12
def addrOwner (e : Nat) : Nat := bitsOf e 32 10
def addrIp (e : Nat) : Nat := bitsOf e 64 128
def addrMac (e : Nat) : Nat := bitsOf e 192 48

/-- Does a port hold a valid entry of an address? -/
def holdsIp (s : State) (j : Nat) (v6 : Bool) (ip : Nat) : Bool :=
  (portAddrs s j).any (fun e => addrV6 e == v6 && addrIp e == ip)

/-- R369, R394: the reply to a slow-path frame: ARP, neighbour solicitation, and ICMP or ICMPv6 echo. -/
def slowReply (s : State) (j : Nat) (f : List Byte) : Option (List Byte) :=
  let p := parseFrame f
  let mac := macOf j
  let src := beAt f 6 6
  if p.malformed || p.slow then none
  else if p.etype = 0x0806 then
    let o := if p.tagged then (if isTpid (beAt f 16 2) then 22 else 18) else 14
    let target := beAt f (o + 24) 4
    if beAt f (o + 6) 2 = 1 ∧ holdsIp s j false target = true then
      some (ethFrame src mac p.vid 0x0806
        (beB 2 1 ++ beB 2 0x0800 ++ beB 1 6 ++ beB 1 4 ++ beB 2 2 ++ beB 6 mac ++ beB 4 target ++ (f.drop (o + 8)).take 10))
    else none
  else if p.v4 ∧ p.proto = 1 ∧ byteAt f p.l4 = 8 ∧ holdsIp s j false p.dst = true then
    let body := (f.drop (p.l4 + 4)).take (p.l4len - 4)
    let icmp := beB 2 0 ++ beB 2 (csum (sum16 body)) ++ body
    some (ethFrame src mac p.vid 0x0800 (ipPacket false p.dst p.src 1 0 64 icmp))
  else if p.v6 ∧ p.proto = 58 ∧ byteAt f p.l4 = 128 ∧ holdsIp s j true p.dst = true then
    let body := (f.drop (p.l4 + 4)).take (p.l4len - 4)
    let c := csum (pseudoSum p + 0x8100 + sum16 body)
    some (ethFrame src mac p.vid 0x86DD (ipPacket true p.dst p.src 58 0 255 (beB 2 0x8100 ++ beB 2 c ++ body)))
  else if p.v6 ∧ p.proto = 58 ∧ byteAt f p.l4 = 135 ∧ holdsIp s j true (beAt f (p.l4 + 8) 16) = true then
    let target := beAt f (p.l4 + 8) 16
    let rest := beB 4 0x60000000 ++ beB 16 target ++ beB 1 2 ++ beB 1 1 ++ beB 6 mac
    let q := { p with src := target, dst := p.src, l4len := 32 }
    let c := csum (pseudoSum q + 0x8800 + sum16 rest)
    some (ethFrame src mac p.vid 0x86DD (ipPacket true target p.src 58 0 255 (beB 2 0x8800 ++ beB 2 c ++ rest)))
  else none

/-- SLOW_PATH_FRAME (R369): firmware takes the oldest waiting frame of a port: it replies on egress queue 0 (R373) or
discards the frame, whose reason and length its event-log entry names. -/
def execSlowPathFrame (j : Fin 32) (s : State) : Host.Outcome State Fault Refusal :=
  .next (
    let x := getPort s j.val
    match x.slow with
    | [] => s
    | f :: t =>
      let done := setPort s j.val { x with slow := t }
      match slowReply s j.val f with
      | some r => if sendRoom s j.val 0 then sendFrame done j.val 0 devTraffic r else s
      | none => logEvent done 4 0 "slow-path discard" j.val noPetal (leBytes 16 f.length))

/-! ### Transmission (R375) -/

/-- R376: the frame of an egress queue that goes next: the oldest of the petal line that R282 selects, which the event
names; the oldest of all where that line is empty. -/
def headFrame (e : EgressQ) (pick : Nat) : Option TxFrame :=
  (e.frames.find? (fun f => f.petal == pick)).or e.frames.head?

/-- R375, rule 1: may a queue send its head frame? -/
def eligible (s : State) (x : NetPort) (q pick : Nat) : Option TxFrame :=
  match x.egress.toList[q]? with
  | none => none
  | some e =>
    match headFrame e pick with
    | none => none
    | some f => if gateOpen s x q f && shaperOpen s e f then some f else none

/-- R375, rule 3: the round robin over queues 3 to 15: the port with its deficits moved on, and the queue that sends. -/
def robin (s : State) (pick : Nat) : Nat → NetPort → Option (NetPort × Nat)
  | 0, _ => none
  | k + 1, x =>
    let q := x.turn
    match eligible s x q pick with
    | none => robin s pick k { x with turn := if q = 15 then 3 else q + 1, visited := false }
    | some f =>
      let x := if x.visited then x
        else { x with visited := true, egress := modV x.egress q (fun e => { e with deficit := e.deficit + 64 * e.quantum }) }
      if shapedLen f ≤ ((x.egress.toList[q]?).map (·.deficit)).getD 0 then
        some ({ x with egress := modV x.egress q (fun e => { e with deficit := e.deficit - shapedLen f }) }, q)
      else robin s pick k { x with turn := if q = 15 then 3 else q + 1, visited := false }

/-- R375: which queue sends now? The round robin comes to a queue again until its deficit covers its head. -/
def selectQueue (s : State) (x : NetPort) (pick : Nat) : Option (NetPort × Nat) :=
  if x.egress.toList.all (fun e => e.frames.isEmpty) then none
  else
    match [0, 1, 2].find? (fun q => (eligible s x q pick).isSome) with
    | some q => some (x, q)
    | none =>
      if (List.range 13).all (fun i => (eligible s x (i + 3) pick).isNone) then none else robin s pick 2600 x

/-- R381: head frames that no open interval of the operational list can take are dropped and counted. -/
def dropOversize (s : State) (j pick : Nat) : State :=
  let x := getPort s j
  match x.gate with
  | none => s
  | some g =>
    (List.range 16).foldl (fun s q =>
      match (getPort s j).egress.toList[q]? with
      | none => s
      | some e =>
        match headFrame e pick, longestOpen g q with
        | some f, some ns =>
          if finishes x (shapedLen f) ns then s
          else
            count (modPort s j (fun x => { x with egress := modV x.egress q (fun e => { e with frames := e.frames.erase f }) }))
              kNetPort j 13 1
        | _, _ => s) s

/-- R375, R377, R391: queue q of a port, which has been selected, sends its head frame. -/
def sendHead (s : State) (j : Nat) (x : NetPort) (q pick : Nat) : State :=
  match x.egress.toList[q]? with
  | none => s
  | some e =>
    match headFrame e pick with
    | none => s
    | some f =>
      let left := e.frames.erase f
      let e := { e with
        frames := left
        deficit := if left.isEmpty then 0 else e.deficit
        tokens := if e.rate = 0 then 0 else tokensNow s e - shapedLen f * 8000
        tokensAt := s.elapsed }
      let s := setPort s j { x with egress := modV x.egress q (fun _ => e) }
      let s := count (count s kNetPort j 2 1) kNetPort j 3 f.bytes.length
      let s := count (count s kNetQueue (24 * j + q) 0 1) kNetQueue (24 * j + q) 1 f.bytes.length
      let s := if f.petal = devTraffic then s else count s kPtl f.petal 3 f.bytes.length
      { s with sent := s.sent ++ [.frame j f.bytes] }

/-- R375: one frame of a port starts. -/
def transmit (s : State) (j pick : Nat) : State :=
  let s := dropOversize s j pick
  match selectQueue s (getPort s j) pick with
  | some (x, q) => sendHead s j x q pick
  | none => s

/-! ### Links, time and gates -/

/-- R365: is a group of n lanes from lane k wholly free of failed lanes? -/
def groupOk (failed k n : Nat) : Bool := bitsOf failed k n == 0

/-- R365: the lanes on which a port with failed lanes comes up: the widest aligned half, quarter or eighth whose lanes all
pass. A whole port of passing lanes comes up in full. -/
def lanesUp (n failed : Nat) (cr : Bool) : Nat :=
  if bitsOf failed 0 n = 0 then n
  else if !cr then 0
  else
    ([n / 2, n / 4, n / 8].find? (fun w => w != 0 && (List.range (n / w)).any (fun k => groupOk failed (k * w) w))).getD 0

/-- PORT_LINK_UP (R365): a port of a module in service trains, while its reference is good (R541). The event names the lanes that fail, whether its PHY is a CR type, and the widths in
lanes that the link partner accepts. -/
def execPortLinkUp (j : Fin 32) (failed : BitVec 8) (cr : Bool) (accepts : BitVec 9) (s : State) :
    Host.Outcome State Fault Refusal :=
  .next (
    let x := getPort s j.val
    let n := modeLanes s.net.mode
    if x.enable ∧ j.val < modePorts s.net.mode ∧ x.link ≠ 2 ∧ s.ready ∧ s.pwr.module = 0 ∧ ethRefGood s then
      let f := failed.toNat % 2 ^ n
      let w := lanesUp n f cr
      let up := w ≠ 0 ∧ (w = n ∨ bitAt accepts.toNat w)
      let s := setPort s j.val { x with link := if up then 2 else 0, lanes := if up then w else 0, failed := f }
      (onesOf n f).foldl (fun s i => logEvent s 4 1 "Ethernet lane failed" j.val noPetal (leBytes 16 i)) s
    else s)

/-- R391: the link of a port goes down. -/
def linkDown (s : State) (j : Nat) : State :=
  let x := getPort s j
  if x.link = 2 then count (setPort s j { x with link := 0, lanes := 0 }) kNetPort j 17 1
  else setPort s j { x with link := 0, lanes := 0 }

/-- PORT_LINK_DOWN (R365). -/
def execPortLinkDown (j : Fin 32) (s : State) : Host.Outcome State Fault Refusal :=
  .next (if (getPort s j.val).link = 0 then s else linkDown s j.val)

/-- R383: the operational list's position is taken from the port's time. -/
def reposition (s : State) (j : Nat) : State :=
  let x := getPort s j
  match x.gate with
  | none => s
  | some g =>
    let e := gatePosition g (portNs s x)
    setPort s j { x with gateIdx := e.1, gateFrom := e.2 }

/-- R383: after a step of port time, so is the instant at which a pending list takes over. -/
def retime (s : State) (j : Nat) : State :=
  let x := getPort s j
  match x.gateNext with
  | none => s
  | some g => setPort s j { x with gateAt := nextCycle g (portNs s x) }

/-- PTP_CLOCK_ADJUST (R378): a port's PTP clock has measured an offset to its master; beyond 1 µs port time steps by it, and
otherwise the frequency is adjusted, within ±500 ppm. -/
def execPtpClockAdjust (j : Fin 32) (offset : BitVec 64) (ppb : BitVec 32) (s : State) :
    Host.Outcome State Fault Refusal :=
  .next (
    let x := getPort s j.val
    if x.ptp then
      let o := offset.toInt
      if o.natAbs ≤ 1000 then
        setPort s j.val { x with
          offset := o, time := portTime s x, timeAt := s.elapsed, ppb := max (-500000) (min 500000 ppb.toInt) }
      else
        retime (reposition (setPort s j.val { x with
          offset := o, time := ((portTime s x : Int) - 8 * o).toNat, timeAt := s.elapsed }) j.val) j.val
    else s)

/-- DELAY_REQUEST (R378): a port's PTP clock sends a Delay_Req, over Ethernet, as device traffic on queue 0 (R373). -/
def execDelayRequest (j : Fin 32) (seq : W16) (s : State) : Host.Outcome State Fault Refusal :=
  .next (
    let x := getPort s j.val
    if x.ptp ∧ x.link = 2 ∧ sendRoom s j.val 0 = true then
      let m := macOf j.val
      let ident := beB 3 (m / 2 ^ 24) ++ beB 2 0xFFFE ++ beB 3 (m % 2 ^ 24) ++ beB 2 1
      let body := beB 1 1 ++ beB 1 2 ++ beB 2 44 ++ beB 1 x.domain ++ beB 1 0 ++ beB 2 0 ++ beB 8 0 ++ beB 4 0 ++ ident ++
        beB 2 seq.toNat ++ beB 1 1 ++ beB 1 0x7F ++ beB 10 0
      sendFrame s j.val 0 devTraffic (ethFrame 0x011B19000000 m 0 0x88F7 body)
    else s)

/-- GATE_ENTRY_EXPIRY (R380): the interval of the entry that runs has ended, and the entry of the present time runs. -/
def execGateEntryExpiry (j : Fin 32) (s : State) : Host.Outcome State Fault Refusal := .next (reposition s j.val)

/-- GATE_LIST_TAKEOVER (R382): a pending list becomes operational at the first of its own cycle starts. -/
def execGateListTakeover (j : Fin 32) (s : State) : Host.Outcome State Fault Refusal :=
  .next (
    let x := getPort s j.val
    match x.gateNext with
    | none => s
    | some g =>
      if x.gateAt ≤ portNs s x then
        reposition (setPort s j.val { x with gate := some g, gateNext := none, gateAt := 0 }) j.val
      else s)

end Sys2Proof.Machine
end

