-- ==== Sys2Proof/Machine/Launch.lean ====
section
/-!
DEFINITION. Program images, launch queues and launches (07_kernel_launch), and the completion of streams (R49, R51).
-/

namespace Sys2Proof.Machine

/-! ### Detail codes (R174) -/
def dtReservedField : Nat := 0xA0
def dtQTagRange : Nat := 0xA1
def dtQTagInUse : Nat := 0xA2
def dtImageNotRegistered : Nat := 0xA3
def dtCoreSetEmpty : Nat := 0xA4
def dtCoreOutsidePetal : Nat := 0xA5
def dtCoreCountRange : Nat := 0xA6
def dtArgCount : Nat := 0xA7
def dtDescriptorPda : Nat := 0xA8
def dtPdaMisaligned : Nat := 0xA9
def dtCompletionCounter : Nat := 0xAA
def dtStreamDefaults : Nat := 0xAB
def dtImageChanged : Nat := 0xAC
def dtLaunchTimeout : Nat := 0xAD
def dtLaunchAborted : Nat := 0xAE
def dtCoreFailed : Nat := 0xAF
def dtImageFormat : Nat := 0xB0
def dtImageAuth : Nat := 0xB1
def dtImageTableFull : Nat := 0xB2
def dtImageDuplicate : Nat := 0xB3
def dtImageInUse : Nat := 0xB4
def dtQueueExists : Nat := 0xB5
def dtRingGeometry : Nat := 0xB6
def dtDescriptorUncorrectable : Nat := 0xB7
def dtImageUncorrectable : Nat := 0xB8

/-- R297: the kinds of object that commands name. -/
def okLaunchQueue : Nat := 1

/-- R134, R150: can the device reach a PDA range of a petal: is it inside, and is the petal's key present? -/
def memOpen (s : State) (p a n : Nat) : Bool :=
  match getPetal s p with
  | some x => pdaInside x a n && keyPresent s p
  | none => false

/-! ### Images (R106, R108, R161 to R165) -/

def hCodeOff (h : Nat) : Nat := fld h 0x0C 0 32
def hCodeBytes (h : Nat) : Nat := fld h 0x10 0 32
def hCodeBase (h : Nat) : Nat := fld h 0x14 0 20
def hRegionBytes (h : Nat) : Nat := fld h 0x18 0 21
def hEntry (h : Nat) : Nat := fld h 0x1C 0 20
def hStackBase (h : Nat) : Nat := fld h 0x20 0 20
def hStackBytes (h : Nat) : Nat := fld h 0x24 0 19
def hInitOff (h : Nat) : Nat := fld h 0x28 0 32
def hInitBytes (h : Nat) : Nat := fld h 0x2C 0 32
def hGInit (h : Nat) : Nat := fld h 0x30 0 32
def hVInit (h : Nat) : Nat := fld h 0x34 0 32
def hArgBase (h : Nat) : Nat := fld h 0x48 0 8
def hArgMax (h : Nat) : Nat := fld h 0x48 8 8
def hDataOff (h : Nat) : Nat := fld h 0x4C 0 32
def hDataBytes (h : Nat) : Nat := fld h 0x50 0 32
def hDataBase (h : Nat) : Nat := fld h 0x54 0 20
def hMinCores (h : Nat) : Nat := fld h 0x58 0 16
def hMaxCores (h : Nat) : Nat := fld h 0x58 16 16

/-- The regions that a header lays out in scratch: the code region and the four stacks (R107). -/
def hRegions (h : Nat) : List (Nat × Nat) :=
  (hCodeBase h, hRegionBytes h) :: (List.range 4).map (fun n => (hStackBase h + n * hStackBytes h, hStackBytes h))

/-- No two of a list of regions overlap. -/
def disjointAll : List (Nat × Nat) → Bool
  | [] => true
  | r :: rs => rs.all (fun q => !overlaps r.1 r.2 q.1 q.2) && disjointAll rs

/-- The sections of an image: code, initial values, data (R161). -/
def hSections (h : Nat) : List (Nat × Nat) :=
  [(hCodeOff h, hCodeBytes h), (hInitOff h, hInitBytes h), (hDataOff h, hDataBytes h)]

/-- R108: does a header of an image of n bytes pass? -/
def headerOk (h n : Nat) : Bool :=
  fld h 0 0 32 == 0x3142494E && fld h 4 0 8 == 1 && fld h 4 10 22 == 0 && fld h 8 0 32 == n &&
  hCodeOff h % 64 == 0 && hCodeBytes h % 2 == 0 && decide (2 ≤ hCodeBytes h) && decide (hCodeBytes h ≤ hRegionBytes h) &&
  hCodeBase h % 64 == 0 && fld h 0x14 20 12 == 0 &&
  hRegionBytes h % 64 == 0 && decide (64 ≤ hRegionBytes h) && decide (hRegionBytes h ≤ 0x100000) && fld h 0x18 21 11 == 0 &&
  hEntry h % 2 == 0 && decide (hCodeBase h ≤ hEntry h) && decide (hEntry h < hCodeBase h + hCodeBytes h) &&
  fld h 0x1C 20 12 == 0 &&
  hStackBase h % 16 == 0 && fld h 0x20 20 12 == 0 &&
  hStackBytes h % 16 == 0 && decide (64 ≤ hStackBytes h) && decide (hStackBytes h ≤ 0x40000) && fld h 0x24 19 13 == 0 &&
  hInitOff h % 4 == 0 && hInitBytes h == 4 * popN 32 (hGInit h) + 256 * popN 32 (hVInit h) && !bitAt (hGInit h) 0 &&
  fld h 0x40 4 28 == 0 && fld h 0x44 0 32 == 0 &&
  (hRegions h).all (fun r => decide (r.1 + r.2 ≤ 2 ^ 20)) && disjointAll (hRegions h) &&
  decide (128 ≤ n) && (hSections h).all (fun r => r.2 == 0 || decide (r.1 + r.2 ≤ n))

/-- R162, R163: do the launch fields of a header pass? -/
def launchFieldsOk (h : Nat) : Bool :=
  fld h 0x48 16 16 == 0 && fld h 0x54 20 12 == 0 && fld h 0x5C 0 288 == 0 &&
  decide (hArgMax h ≤ 16) && (if hArgMax h = 0 then hArgBase h == 0 else decide (1 ≤ hArgBase h) && decide (hArgBase h ≤ 31)) &&
  decide (hArgBase h + hArgMax h ≤ 32) &&
  hDataOff h % 64 == 0 && hDataBytes h % 64 == 0 && decide (hDataBytes h ≤ 0x100000) && hDataBase h % 64 == 0 &&
  decide (hDataBase h + hDataBytes h ≤ 2 ^ 20) &&
  (hRegions h).all (fun r => !overlaps r.1 r.2 (hDataBase h) (hDataBytes h)) &&
  decide (1 ≤ hMinCores h) && decide (hMinCores h ≤ 512) && decide (hMinCores h ≤ hMaxCores h) && decide (hMaxCores h ≤ 512)

/-- R161: the last 16 bytes of an image with a CMAC belong to no other part. -/
def cmacClear (h n : Nat) : Bool :=
  ((0, 128) :: hSections h).all (fun r => !overlaps r.1 r.2 (n - 16) 16)

/-- The key of a petal's slot, if the slot holds one of the kind (R445). -/
def slotKey (x : Petal) (slot kind : Nat) : Option KeySlot :=
  match look x.keySlots slot with
  | some k => if k.kind = kind then some k else none
  | none => none

/-- The first n bytes of a key slot's material. -/
def keyBytes (k : KeySlot) (n : Nat) : List Byte := leBytes n k.material.toNat

/-- R165: the checks of LCH_IMAGE_REGISTER in order; the header and digest where they pass. -/
def imageCheck (s : State) (p a n slot : Nat) : Except (Nat × Nat) Image :=
  match getPetal s p with
  | none => .error (stNotFound, 0)
  | some x =>
    let key := slotKey x slot 3
    let h := memNat s p a 128
    let bytes := memRead s p a n
    if a % 64 ≠ 0 then .error (stInvalidArgument, dtPdaMisaligned)
    else if !memOpen s p a n then .error (stNotPermitted, dtDescriptorPda)
    else if (look x.images a).isSome then .error (stInvalidArgument, dtImageDuplicate)
    else if 256 ≤ x.images.length then .error (stNoResources, dtImageTableFull)
    else if slot ≠ 0xFFFF ∧ key = none then .error (stAuthFailed, dtImageAuth)
    else if n < 128 then .error (stInvalidArgument, dtImageFormat)
    else if (poisonIn s p a 128).isSome then .error (stDeviceFault, dtImageUncorrectable)
    else if !headerOk h n || !launchFieldsOk h || (slot != 0xFFFF && !cmacClear h n) then
      .error (stInvalidArgument, dtImageFormat)
    else if (poisonIn s p a n).isSome then .error (stDeviceFault, dtImageUncorrectable)
    else
      let auth :=
        match key with
        | some k => slot == 0xFFFF || cmac (keyBytes k 32) (bytes.take (n - 16)) == bytes.drop (n - 16)
        | none => true
      if auth then .ok ⟨BitVec.ofNat 1024 h, BitVec.ofNat 256 (leNat (sha3 bytes))⟩ else .error (stAuthFailed, dtImageAuth)

def cmdImageRegister : Cmd :=
  ⟨0x0300, .own, true, 0x20, false, [(0x10, 0, 48), (0x18, 0, 32), (0x1C, 0, 16)], fun _ => none⟩

/-- LCH_IMAGE_REGISTER (R165). -/
def bodyImageRegister (m : Mbx) (s : State) : State × Ans :=
  let p := mPetal m
  let s := fresh s
  let a := mf m 0x10 0 48
  match imageCheck s p a (mf m 0x18 0 32) (mf m 0x1C 0 16) with
  | .error e =>
    (if e.2 = dtImageUncorrectable then touch s p a (if (poisonIn s p a 128).isSome then 128 else mf m 0x18 0 32) else s, ansErr e.1 e.2)
  | .ok img =>
    let s := modPetal s p (fun x => { x with images := put x.images a img })
    let s := gauge s kLch p 8 (((getPetal s p).map (·.images.length)).getD 0)
    (touch s p a (mf m 0x18 0 32), .reply (replyData img.digest.toNat 32))

def execLchImageRegister (m : Mbx) (s : State) : Host.Outcome State Fault Refusal :=
  .next (mailbox cmdImageRegister bodyImageRegister m s)

def cmdImageRelease : Cmd := ⟨0x0301, .own, true, 0x18, false, [(0x10, 0, 48)], fun _ => none⟩

/-- LCH_IMAGE_RELEASE (R165). -/
def bodyImageRelease (m : Mbx) (s : State) : State × Ans :=
  let p := mPetal m
  let a := mf m 0x10 0 48
  match (getPetal s p).bind (fun x => look x.images a) with
  | none => (s, ansErr stNotFound dtImageNotRegistered)
  | some _ =>
    if s.launches.any (fun l => l.petal == p && fld l.desc.toNat 8 0 48 == a) then (s, ansErr stBusy dtImageInUse)
    else
      let s := modPetal s p (fun x => { x with images := del x.images a })
      (gauge s kLch p 8 (((getPetal s p).map (·.images.length)).getD 0), ansOk)

def execLchImageRelease (m : Mbx) (s : State) : Host.Outcome State Fault Refusal :=
  .next (mailbox cmdImageRelease bodyImageRelease m s)

/-! ### Launch queues (R167 to R170) -/

/-- Is a vector one of the petal's (R305), or 0xFFFF? -/
def vectorOf (s : State) (p v : Nat) : Bool := v == 0xFFFF || look s.msixOwner v == some p

/-- R167, and the chapters that follow it: the geometry of a pair of rings: the log2 fields, alignment and overlap. -/
def ringsFit (sqLo sqHi cqLo cqHi sq cq sqPda cqPda sqEntry : Nat) : Bool :=
  decide (sqLo ≤ sq) && decide (sq ≤ sqHi) && decide (cqLo ≤ cq) && decide (cq ≤ cqHi) &&
  sqPda % 64 == 0 && cqPda % 64 == 0 && !overlaps sqPda (sqEntry * 2 ^ sq) cqPda (32 * 2 ^ cq)

/-- Does a range lie in the petal's slots (not in its hub page)? -/
def inSlots (x : Petal) (a n : Nat) : Bool := decide (a + n ≤ slotsOf x * 2 ^ 30)

def cmdQueueCreate : Cmd :=
  ⟨0x0310, .own, true, 0x28, false,
   [(0x10, 0, 6), (0x10, 8, 8), (0x10, 16, 8), (0x14, 0, 16), (0x18, 0, 48), (0x20, 0, 48)],
   fun m => some (okLaunchQueue, mf m 0x10 0 6)⟩

/-- LCH_QUEUE_CREATE (R167). -/
def bodyQueueCreate (m : Mbx) (s : State) : State × Ans :=
  let p := mPetal m
  let q := mf m 0x10 0 6
  let sq := mf m 0x10 8 8
  let cq := mf m 0x10 16 8
  let v := mf m 0x14 0 16
  let sqPda := mf m 0x18 0 48
  let cqPda := mf m 0x20 0 48
  match getPetal s p with
  | none => (s, ansErr stNotFound 0)
  | some x =>
    if (look x.queues q).isSome then (s, ansErr stInvalidArgument dtQueueExists)
    else if !ringsFit 4 16 sq 16 sq cq sqPda cqPda 64 then (s, ansErr stInvalidArgument dtRingGeometry)
    else if recQueues x.record ≤ q ∨ inSlots x sqPda (64 * 2 ^ sq) = false ∨ inSlots x cqPda (32 * 2 ^ cq) = false ∨
        vectorOf s p v = false then (s, ansErr stNotPermitted 0)
    else (setPetal s p { x with queues := put x.queues q (Ring.new sq cq sqPda cqPda v) }, ansOk)

def execLchQueueCreate (m : Mbx) (s : State) : Host.Outcome State Fault Refusal :=
  .next (mailbox cmdQueueCreate bodyQueueCreate m s)

/-- The launch ring of a petal. -/
def getQueue (s : State) (p q : Nat) : Option Ring := (getPetal s p).bind (fun x => look x.queues q)
def setQueue (s : State) (p q : Nat) (r : Ring) : State := modPetal s p (fun x => { x with queues := put x.queues q r })

/-- The effect of the doorbell. -/
def lchSqTail (p : PetalId) (q : Fin 64) (v : W32) (s : State) : State :=
  match getQueue s p.val q.val with
    | none => s
    | some r =>
      match ringTail r v.toNat with
      | some r => setQueue s p.val q.val r
      | none => doorbellIgnored s p.val
/-- LCH_SQ_TAIL (R168, R169). -/
def execLchSqTail (p : PetalId) (q : Fin 64) (v : W32) (s : State) : Host.Outcome State Fault Refusal := .next (lchSqTail p q v (awake s))

/-- The effect of the doorbell. -/
def lchCqHead (p : PetalId) (q : Fin 64) (v : W32) (s : State) : State :=
  match getQueue s p.val q.val with
    | none => s
    | some r =>
      match ringHead r v.toNat with
      | some r => setQueue s p.val q.val r
      | none => doorbellIgnored s p.val
/-- LCH_CQ_HEAD (R168, R169). -/
def execLchCqHead (p : PetalId) (q : Fin 64) (v : W32) (s : State) : Host.Outcome State Fault Refusal := .next (lchCqHead p q v (awake s))

/-! ### The descriptor (R171 to R174) -/

def dTag (d : Nat) : Nat := fld d 0 0 13
def dRec (d : Nat) : Bool := fld d 0 16 1 == 1
def dSig (d : Nat) : Bool := fld d 0 17 1 == 1
def dFence (d : Nat) : Bool := fld d 0 18 1 == 1
def dBitmap (d : Nat) : Bool := fld d 0 19 1 == 1
def dFaultRec (d : Nat) : Bool := fld d 0 20 1 == 1
def dArgCount (d : Nat) : Nat := fld d 0 21 5
def dImage (d : Nat) : Nat := fld d 8 0 48
def dFirst (d : Nat) : Nat := fld d 0x10 0 16
def dCount (d : Nat) : Nat := fld d 0x10 16 16
def dBitmapPda (d : Nat) : Nat := fld d 0x10 0 48
def dArgs (d : Nat) : Nat := fld d 0x18 0 48
def dFault (d : Nat) : Nat := fld d 0x20 0 48
def dCounter (d : Nat) : Nat := fld d 0x28 0 32
def dIncrement (d : Nat) : Nat := fld d 0x2C 0 32
def dTimeout (d : Nat) : Nat := fld d 0x30 0 32

/-- R171: are the reserved fields zero? -/
def dReservedClear (d : Nat) : Bool :=
  fld d 0 13 3 == 0 && fld d 0 26 6 == 0 && fld d 4 16 16 == 0 && fld d 8 48 16 == 0 &&
  (if dBitmap d then fld d 0x10 48 16 == 0 else fld d 0x10 32 32 == 0) &&
  fld d 0x18 48 16 == 0 && fld d 0x20 48 16 == 0 && fld d 0x34 0 96 == 0

/-- The PDA ranges that a descriptor uses: bitmap, argument block, fault record. -/
def dRanges (d : Nat) : List (Nat × Nat) :=
  (if dBitmap d then [(dBitmapPda d, 64)] else []) ++
  (if dArgCount d = 0 then [] else [(dArgs d, 4 * dArgCount d)]) ++
  (if dFaultRec d then [(dFault d, 64)] else [])

/-- The ranges of them that validation reads. -/
def dReads (d : Nat) : List (Nat × Nat) :=
  (if dBitmap d then [(dBitmapPda d, 64)] else []) ++ (if dArgCount d = 0 then [] else [(dArgs d, 4 * dArgCount d)])

/-- R172: the petal core indices that a descriptor names. -/
def dCoreSet (s : State) (p d : Nat) : List Nat :=
  if dBitmap d then onesOf 512 (memNat s p (dBitmapPda d) 64) else (List.range (dCount d)).map (· + dFirst d)

/-- R174: the checks of a descriptor in order: the status and detail of the first that fails. -/
def dCheck (s : State) (p d : Nat) : Option (Nat × Nat) :=
  match getPetal s p with
  | none => some (stNotFound, 0)
  | some x =>
    let set := dCoreSet s p d
    let bad (st dt : Nat) : Option (Nat × Nat) := some (st, dt)
    if !dReservedClear d then bad stInvalidArgument dtReservedField
    else if recTags x.record ≤ dTag d then bad stInvalidArgument dtQTagRange
    else if tagHeld x (dTag d) then bad stInvalidArgument dtQTagInUse
    else
      match look x.images (dImage d) with
      | none => bad stNotFound dtImageNotRegistered
      | some img =>
        let h := img.header.toNat
        if (dRanges d).any (fun r => r.1 % 64 != 0) then bad stInvalidArgument dtPdaMisaligned
        else if (dRanges d).any (fun r => !memOpen s p r.1 r.2) then bad stNotPermitted dtDescriptorPda
        else if (dReads d).any (fun r => (poisonIn s p r.1 r.2).isSome) then bad stDeviceFault dtDescriptorUncorrectable
        else if set.isEmpty then bad stInvalidArgument dtCoreSetEmpty
        else if set.any (fun i => decide (x.cores.length ≤ i)) then bad stNotPermitted dtCoreOutsidePetal
        else if set.length < hMinCores h ∨ hMaxCores h < set.length then bad stInvalidArgument dtCoreCountRange
        else if hArgMax h < dArgCount d then bad stInvalidArgument dtArgCount
        else if fld d 4 0 8 = 0 ∨ 102 < fld d 4 8 8 ∨ (dSig d = true ∧ (dIncrement d = 0 ∨ 2 ^ 31 ≤ dIncrement d)) then
          bad stInvalidArgument dtStreamDefaults
        else if dSig d = true ∧ recCounters x.record ≤ dCounter d then bad stNotPermitted dtCompletionCounter
        else none

/-! ### Completion (R178, R179) -/

/-- R61: the bytes of a fault record. -/
def faultBytes (l : Launch) (f : FaultRec) : List Byte :=
  leBytes 4 (l.tag + l.queue * 2 ^ 16) ++
  leBytes 4 (f.code + f.unit * 2 ^ 8 + f.nib * 2 ^ 16) ++
  leBytes 4 f.pc ++ leBytes 4 f.flags ++ leBytes 8 f.address ++ leBytes 8 f.time.toNat ++ leBytes 8 f.bundles ++
  leBytes 4 (f.streamTag + l.more * 2 ^ 16) ++ leBytes 4 f.descriptor ++
  (f.bundle ++ List.replicate (16 - f.bundle.length) 0)

/-- Posts a record into a launch queue. -/
def postQueue (s : State) (p q tag status result detail : Nat) (reservedEntry : Bool) : State :=
  match getQueue s p q with
  | none => s
  | some r =>
    let x := ringPost s p r q tag status result detail reservedEntry
    setQueue x.1 p q x.2

/-- Releases the completion entry that acceptance reserved. -/
def releaseEntry (s : State) (p q : Nat) : State :=
  match getQueue s p q with
  | none => s
  | some r => setQueue s p q { r with reserved := r.reserved - 1 }

/-- R178, R184: counts a completion. -/
def countLaunch (s : State) (p status detail : Nat) (nibFault : Bool) : State :=
  let s := count s kLch p (if status = stOk then 1 else 2) 1
  let s := if detail = dtLaunchTimeout then count s kLch p 3 1 else s
  let s := if detail = dtLaunchAborted then count s kLch p 4 1 else s
  if nibFault then count s kLch p 5 1 else s

/-- R175: the launches of a queue that have not started, oldest first. -/
def waitingOf (s : State) (p q : Nat) : List Launch :=
  s.launches.filter (fun l => l.petal == p && l.queue == q && l.started.isNone)

/-- R175: the head of a queue's waiting launches takes note of the time at which it became the head. -/
def markHead (s : State) (p q : Nat) : State :=
  match waitingOf s p q with
  | [] => s
  | l :: _ => modLaunch s p l.tag (fun l => if l.headAt.isNone then { l with headAt := some s.elapsed } else l)

/-- R182: a queue whose destruction has begun is removed once its last launch has completed. -/
def endQueue (s : State) (p q : Nat) : State :=
  match getQueue s p q with
  | some r =>
    if r.closing && !s.launches.any (fun l => l.petal == p && l.queue == q) then
      resolve (modPetal s p (fun x => { x with queues := del x.queues q })) (.objEnd p okLaunchQueue q) replyOk
    else s
  | none => s

/-- R53: the Nibs of a completed launch return to IDLE and its cores to idle. -/
def idleCores (s : State) (cores : List Nat) : State :=
  let s := cores.foldl (fun s k => setCore s k { getCore s k with launch := none }) s
  (nibsOf cores).foldl (fun s n => setNib s n { getNib s n with st := .idle }) s

/-- R516: the steps that a launch has run on each compute die since the energy interval began, taken down at its end. -/
def noteDieSteps (s : State) (l : Launch) : State :=
  match l.started with
  | none => s
  | some t =>
    let n := s.elapsed.toNat - max t.toNat s.ink.intervalAt.toNat
    { s with ink := { s.ink with dieSteps := l.cores.foldl (fun d k => bumpT d (l.petal * 4 + k / 128) n) s.ink.dieSteps } }

/-- R178: the completion actions of a launch, in their order. -/
def finishLaunch (s : State) (l : Launch) (status detail : Nat) : State :=
  let d := l.desc.toNat
  let flags := (nibsOf l.cores).foldl (fun a n => a ||| (getNib s n).flags % 256) 0
  let steps := match l.started with | some t => (s.elapsed - t).toNat | none => 0
  let s := match l.fault with
    | some f => if status ≠ stOk ∧ dFaultRec d then memPut s l.petal (dFault d) (faultBytes l f) else s
    | none => s
  let s :=
    if dRec d ∨ status ≠ stOk then
      postQueue s l.petal l.queue l.tag status steps (detail + (if l.started.isSome then flags * 2 ^ 8 else 0)) true
    else releaseEntry s l.petal l.queue
  let s := if status = stOk ∧ dSig d then signal s l.petal (dCounter d) (dIncrement d) else s
  let s := countLaunch s l.petal status detail (l.fault.isSome && l.stop.isNone)
  let s := if l.started.isSome then count (idleCores s l.cores) kPtl l.petal 5 (l.cores.length * steps) else s
  let s := noteDieSteps s l
  let s := { freeTag s l.petal l.tag with launches := s.launches.filter (fun x => !(x.petal == l.petal && x.tag == l.tag)) }
  endQueue (markHead (resolveTask s l.petal l.tag) l.petal l.queue) l.petal l.queue

/-- R174: a refused descriptor completes at once; its record uses the entry that acceptance reserved. -/
def refuseLaunch (s : State) (p q tag status detail : Nat) : State :=
  countLaunch (postQueue s p q tag status 0 detail true) p status detail false

/-! ### Acceptance (R169, R174) -/

/-- R169: takes the descriptor at the head of a queue, validates it and enters the launch. -/
def acceptLaunch (s : State) (p q : Nat) (r : Ring) : State :=
  let s := fresh s
  let at_ := r.sqPda + 64 * r.sqHead
  let d := memNat s p at_ 64
  let bad := (poisonIn s p at_ 64).isSome
  let s := count (setQueue (touch s p at_ 64) p q (ringTake r)) kLch p 0 1
  if bad then refuseLaunch s p q 0xFFFF stDeviceFault dtDescriptorUncorrectable
  else
    let read : State := (dReads d).foldl (fun s r => touch s p r.1 r.2) s
    match dCheck s p d with
    | some e => refuseLaunch (if e.2 = dtDescriptorUncorrectable then read else s) p q (dTag d) e.1 e.2
    | none =>
      let s := read
      match getPetal s p with
      | none => s
      | some x =>
        let img := lookD x.images (dImage d) ⟨0, 0⟩
        let l : Launch :=
          { petal := p, queue := q, tag := dTag d, desc := BitVec.ofNat 512 d, header := img.header, digest := img.digest
            cores := (dCoreSet s p d).map (fun i => x.cores[i]?.getD 0)
            args := (elems (memNat s p (dArgs d) (4 * dArgCount d)) 32 (dArgCount d)).map (BitVec.ofNat 32)
            headAt := none, reserves := false, started := none, fault := none, more := 0, stop := none
            haltedSteps := 0, haltedFrom := none }
        markHead { holdTag s p (dTag d) .launch with launches := s.launches ++ [l] } p q

/-- LAUNCH_ACCEPT (R169, R174, R277): the device accepts the next offered descriptor of a queue of an ACTIVE petal, once a
completion entry is free. -/
def execLaunchAccept (p : PetalId) (q : Fin 64) (s : State) : Host.Outcome State Fault Refusal :=
  .next (match getPetal s p.val with
    | none => s
    | some x =>
      match look x.queues q.val with
      | none => s
      | some r =>
        if x.st = .active ∧ r.closing = false ∧ 0 < ringOffered r ∧ ringFree r = true ∧ keyPresent s p.val = true then
          acceptLaunch s p.val q.val r
        else s)

/-! ### Start (R175, R176) -/

/-- Do two core sets meet? -/
def coresMeet (a b : List Nat) : Bool := a.any (fun k => b.contains k)

/-- R175: launches of a petal that are the first waiting of their queue. -/
def queueHeads (s : State) (p : Nat) : List Launch :=
  s.launches.filter (fun l => l.petal == p && l.started.isNone && ((waitingOf s p l.queue).head?.map (·.tag)) == some l.tag)

/-- R175: is a fence of the launch satisfied: has every earlier-accepted launch of its queue completed? -/
def fenceMet (s : State) (l : Launch) : Bool :=
  !dFence l.desc.toNat || ((s.launches.filter (fun x => x.petal == l.petal && x.queue == l.queue)).head?.map (·.tag)) == some l.tag

/-- R175: does another head's reservation hold back this one? Of two reservations the one made first goes first. -/
def heldBack (s : State) (l : Launch) : Bool :=
  (queueHeads s l.petal).any (fun h => h.tag != l.tag && h.reserves && coresMeet h.cores l.cores &&
    (!l.reserves || decide ((h.headAt.map (·.toNat)).getD 0 ≤ (l.headAt.map (·.toNat)).getD 0)))

/-- R175: may a queue head start now? -/
def startable (s : State) (l : Launch) : Bool :=
  fenceMet s l && l.cores.all (fun k => (getCore s k).launch.isNone) && !heldBack s l

/-- R39 to R41: a core's generation advances; at its last value every owner tag is cleared first. -/
def advanceGen (k : Core) : Core :=
  if k.gen = 0xFFFFF then { k with tags := [], gen := 1 } else { k with gen := k.gen + 1 }

/-- R34, R107: register i of one file as the initial-value section gives it. -/
def initWord (bits : List Byte) (mask off width i : Nat) : Nat :=
  if bitAt mask i then leNat ((bits.drop (off + width * popN i mask)).take width) else 0

/-- R34, R68, R107, R173: a Nib at launch start. time_hi has no reset value (R32). -/
def startNib (s : State) (l : Launch) (bits : List Byte) (rank n : Nat) : Nib :=
  let h := l.header.toNat
  let gMask := hGInit h
  let nargs := l.args.length
  let g (i : Nat) : W32 :=
    if hArgBase h ≤ i ∧ i < hArgBase h + nargs then l.args[i - hArgBase h]?.getD 0
    else BitVec.ofNat 32 (initWord bits gMask 0 4 i)
  let gs : Vector W32 32 := Vector.ofFn (fun i => if i.val = 0 then 0 else g i.val)
  let lo := hStackBase h + n * hStackBytes h
  { Nib.zero with
    st := .running
    g := gs
    v := Vector.ofFn (fun i => BitVec.ofNat 2048 (initWord bits (hVInit h) (4 * popN 32 gMask) 256 i.val))
    pc := BitVec.ofNat 32 (hEntry h)
    sp := BitVec.ofNat 32 (lo + hStackBytes h)
    stackLo := BitVec.ofNat 32 lo
    stackHi := BitVec.ofNat 32 (lo + hStackBytes h)
    nibSelf := BitVec.ofNat 32 (n + rank * 2 ^ 16)
    coreCount := BitVec.ofNat 32 l.cores.length
    compat := fld h 4 8 1 == 1
    rmode := BitVec.ofNat 32 (fld h 0x40 0 4)
    seed := BitVec.ofNat 64 (fld h 0x38 0 64) ^^^ BitVec.ofNat 64 ((4 * rank + n + 1) * 0x9e3779b97f4a7c15)
    timeHi := BitVec.ofNat 32 (freeVal s (4 * rank + n))
    launchTag := BitVec.ofNat 13 l.tag
    gEarly := gs }

/-- R176, steps 1 and 2: a core before its Nibs start. -/
def loadCore (l : Launch) (img : List Byte) (k : Core) : Core :=
  let h := l.header.toNat
  let k := if fld h 4 9 1 = 1 then advanceGen k else k
  let k := scratchWrite k (hCodeBase h) ((img.drop (hCodeOff h)).take (hCodeBytes h))
  scratchWrite k (hDataBase h) ((img.drop (hDataOff h)).take (hDataBytes h))

/-- R166, R176: the start of a launch whose conditions hold. -/
def startLaunch (s : State) (l : Launch) : State :=
  let s := fresh s
  let h := l.header.toNat
  let a := dImage l.desc.toNat
  let n := fld h 8 0 32
  let img := memRead s l.petal a n
  if l.cores.any (fun k => (getCore s k).failed) then finishLaunch s l stDeviceFault dtCoreFailed
  else if (poisonIn s l.petal a n).isSome then finishLaunch (touch s l.petal a n) l stDeviceFault dtImageUncorrectable
  else
    let s := l.cores.foldl (fun s k => setCore s k (loadCore l img (getCore s k))) (touch s l.petal a n)
    if leNat (sha3 img) ≠ l.digest.toNat then finishLaunch s l stAuthFailed dtImageChanged
    else
      let bits := (img.drop (hInitOff h)).take (hInitBytes h)
      let s := l.cores.foldl (fun s k => setCore s k { getCore s k with
        launch := some l.tag, codeBase := hCodeBase h, codeBytes := hRegionBytes h }) s
      let s := l.cores.foldl (fun s k => (List.range 4).foldl (fun s n => wakeUnit s ukNib (4 * k + n)) s) s
      let s := (l.cores.zipIdx).foldl (fun s kr =>
        (List.range 4).foldl (fun s n => setNib s (4 * kr.1 + n) (startNib s l bits kr.2 n)) s) s
      markHead (modLaunch s l.petal l.tag (fun l => { l with started := some s.elapsed })) l.petal l.queue

/-- LAUNCH_START (R175, R176): of the petal's queue heads that may start, the one accepted first starts. -/
def execLaunchStart (p : PetalId) (tag : BitVec 13) (s : State) : Host.Outcome State Fault Refusal :=
  .next (match getPetal s p.val with
    | none => s
    | some x =>
      match (queueHeads s p.val).find? (startable s) with
      | some l => if l.tag = tag.toNat ∧ x.st = .active ∧ keyPresent s p.val = true then startLaunch s l else s
      | none => s)

/-- LAUNCH_HEAD_RESERVE (R175): a queue head that has waited 1 ms reserves the cores of its set. -/
def execLaunchHeadReserve (p : PetalId) (q : Fin 64) (s : State) : Host.Outcome State Fault Refusal :=
  .next (match (waitingOf s p.val q.val).head? with
    | some l =>
      match l.headAt with
      | some t =>
        if elapsedAtLeast s t 1000000 then modLaunch s p.val l.tag (fun l => { l with reserves := true }) else s
      | none => s
    | none => s)

/-- R178: have every Nib and every stream of a launch ended? -/
def launchEnded (s : State) (l : Launch) : Bool :=
  l.started.isSome && (nibsOf l.cores).all (fun n =>
    ((getNib s n).st == .done || (getNib s n).st == .stopped) && (getNib s n).streams.isEmpty)

/-- R178, R179: the status and detail of a launch that has ended. -/
def launchStatus (l : Launch) : Nat × Nat :=
  match l.stop, l.fault with
  | some e, _ => e
  | none, some f => (faultStatus f.code, f.code)
  | none, none => (stOk, 0)

/-- LAUNCH_COMPLETE (R178): the updates of its Nibs have reached the fabric (R131, R244); then the completion actions. -/
def execLaunchComplete (p : PetalId) (tag : BitVec 13) (s : State) : Host.Outcome State Fault Refusal :=
  .next (match findLaunch s p.val tag.toNat with
    | none => s
    | some l =>
      if launchEnded s l then
        finishLaunch (l.cores.foldl drainPort s) l (launchStatus l).1 (launchStatus l).2
      else s)

/-- R59, R180, R181: stops a running launch with a status; the answer says whether the stop decided it (R264). -/
def decideStop (s : State) (l : Launch) (status detail : Nat) : State × Bool :=
  if l.stop.isSome || l.fault.isSome then (s, false)
  else (stopLaunch (modLaunch s l.petal l.tag (fun l => { l with stop := some (status, detail) })) l, true)

/-- R180: the steps for which the timeout of a launch has counted. -/
def countedSteps (s : State) (l : Launch) : Nat :=
  match l.started with
  | none => 0
  | some t =>
    let now := match l.haltedFrom with | some h => h.toNat | none => s.elapsed.toNat
    now - t.toNat - l.haltedSteps

/-- LAUNCH_TIMEOUT (R180). -/
def execLaunchTimeout (p : PetalId) (tag : BitVec 13) (s : State) : Host.Outcome State Fault Refusal :=
  .next (match findLaunch s p.val tag.toNat with
    | none => s
    | some l =>
      let ms := dTimeout l.desc.toNat
      if l.started.isSome ∧ ms ≠ 0 ∧ ms * 100000 ≤ countedSteps s l then
        (decideStop s l stTimeout dtLaunchTimeout).1
      else s)

/-- R181: aborts an accepted launch. The answer says whether the abort decides. -/
def abortLaunch (s : State) (l : Launch) : State × Bool :=
  if l.started.isSome then decideStop s l stAborted dtLaunchAborted
  else (finishLaunch s l stAborted dtLaunchAborted, true)

def cmdLchAbort : Cmd :=
  ⟨0x0312, .own, true, 0x14, false, [(0x10, 0, 6), (0x12, 0, 13)], fun m => some (okLaunchQueue, mf m 0x10 0 6)⟩

/-- LCH_ABORT (R181, R264). -/
def bodyLchAbort (m : Mbx) (s : State) : State × Ans :=
  let p := mPetal m
  match s.launches.find? (fun l => l.petal == p && l.queue == mf m 0x10 0 6 && l.tag == mf m 0x12 0 13) with
  | none => (s, ansErr stNotFound 0)
  | some l =>
    let r := abortLaunch s l
    if l.started.isSome then (r.1, .pend (.taskEnd p l.tag r.2)) else (r.1, ansOk)

def execLchAbort (m : Mbx) (s : State) : Host.Outcome State Fault Refusal := .next (mailbox cmdLchAbort bodyLchAbort m s)

def cmdQueueDestroy : Cmd :=
  ⟨0x0311, .own, true, 0x14, false, [(0x10, 0, 6)], fun m => some (okLaunchQueue, mf m 0x10 0 6)⟩

/-- R182: a queue stops fetching and its launches are aborted, oldest first. -/
def closeQueue (s : State) (p q : Nat) (r : Ring) : State :=
  let s := setQueue s p q { r with closing := true }
  (s.launches.filter (fun l => l.petal == p && l.queue == q)).foldl (fun s l => (abortLaunch s l).1) s

/-- LCH_QUEUE_DESTROY (R182). -/
def bodyQueueDestroy (m : Mbx) (s : State) : State × Ans :=
  let p := mPetal m
  let q := mf m 0x10 0 6
  match getQueue s p q with
  | none => (s, ansErr stNotFound 0)
  | some r =>
    let s := endQueue (closeQueue s p q r) p q
    if (getQueue s p q).isSome then (s, .pend (.objEnd p okLaunchQueue q)) else (s, ansOk)

def execLchQueueDestroy (m : Mbx) (s : State) : Host.Outcome State Fault Refusal :=
  .next (mailbox cmdQueueDestroy bodyQueueDestroy m s)

/-! ### Streams (R47, R49, R51) -/

/-- One 64-byte line of an inbound stream. A poisoned line is not written. -/
def streamIn (p k : Nat) (acc : State × Option StreamErr) (line : Nat × Nat) : State × Option StreamErr :=
  let s := touch acc.1 p line.2 64
  match poisonIn s p line.2 64 with
  | some _ => (s, acc.2.or (some ⟨fcMemoryUncorrectable, 0, 0, line.2⟩))
  | none => (setCore s k (scratchWrite (getCore s k) line.1 (memRead s p line.2 64)), acc.2)

/-- One 64-byte line of an outbound stream. A line with an uncorrectable scratch word is not written. -/
def streamOut (p k : Nat) (acc : State × Option StreamErr) (line : Nat × Nat) : State × Option StreamErr :=
  let c := getCore acc.1 k
  if hasUncorrectable (scratchErrs c line.1 64) then
    (acc.1, acc.2.or (some ⟨fcScratchUncorrectable, 0, 0, line.1⟩))
  else (memPut acc.1 p line.2 (scratchRead c line.1 64), acc.2)

/-- The 64-byte lines of a stream in the order in which they apply (R47): scratch offset and PDA. -/
def streamLines (d : StreamD) : List (Nat × Nat) :=
  (streamRuns d).flatMap (fun r => (List.range (d.run / 64)).map (fun (i : Nat) => (r.1 + 64 * i, (r.2 + ((64 * i : Nat) : Int)).toNat)))

/-- R51: a stream error reaches its Nib: a running Nib raises it at its next bundle boundary, a waiting one is at a boundary,
and for one that has ended the launch takes it. A second error before the first is raised is only counted. -/
def streamFault (s : State) (n : Nat) (e : StreamErr) : State :=
  let x := getNib s n
  if x.streamErr.isSome then
    modLaunch s (petalOfNib s n) x.launchTag.toNat (fun l => { l with more := min 0xFFFF (l.more + 1) })
  else if x.st = .running then setNib s n { x with streamErr := some e }
  else nibStreamFault s n e

/-- R53, R130: a Nib that waits for stream tags goes on once none of them is pending. -/
def wakeFence (s : State) (n : Nat) : State :=
  let x := getNib s n
  match x.st with
  | .waiting (.tags m) _ => if tagsPending x m then s else wakeNib s n
  | _ => s

/-- R49: the bytes of a stream reach their destination; its tag clears and, if no line failed, its signal is applied. -/
def finishStream (s : State) (n : Nat) (t : Stream) : State :=
  let s := fresh s
  let d := streamD t.desc.toNat
  let p := petalOfNib s n
  let k := n / 4
  let r :=
    if d.op = 1 then (streamLines d).foldl (streamIn p k) (s, none) else (streamLines d).foldl (streamOut p k) (s, none)
  let x := getNib r.1 n
  let s := setNib r.1 n { x with streams := x.streams.filter (fun q => q.tag != t.tag) }
  match r.2 with
  | some e => wakeFence (streamFault s n { e with tag := t.tag, descAt := t.descAt }) n
  | none => wakeFence (if d.signal then signal s p d.counter d.inc else s) n

/-- STREAM_COMPLETE (R49): the stream of a Nib under a tag completes. -/
def execStreamComplete (n : NibId) (tag : BitVec 4) (s : State) : Host.Outcome State Fault Refusal :=
  .next (match (getNib s n.val).streams.find? (fun t => t.tag == tag.toNat) with
    | some t => finishStream s n.val t
    | none => s)

end Sys2Proof.Machine
end

