-- ==== Sys2Proof/Machine/NetCmd.lean ====
section
/-!
DEFINITION. The network commands of the device page (R386 to R390) and what a commit of their settings does (R366, R382,
R385, R387, R388).
-/

namespace Sys2Proof.Machine

def dtPortRange : Nat := 0x80
def dtRuleFormat : Nat := 0x81
def dtGateFormat : Nat := 0x82
def dtRateRange : Nat := 0x83
def dtEntriesPda : Nat := 0x84

/-- A field of a staged request. -/
def sf (p : BitVec 1920) (byte bit w : Nat) : Nat := fld p.toNat (byte - 16) bit w

/-- R387: a port number is one of the mode staged last, or of the mode in force. -/
def portInRange (s : State) (j : Nat) : Bool :=
  let staged := s.devArea.stage.filter (fun i => i.opcode == 0x0700)
  decide (j < modePorts s.net.mode) || staged.any (fun i => decide (j < modePorts (sf i.payload 0x10 0 2)))

def noObj (_ : Mbx) : Option (Nat × Nat) := none

/-! ### NET_PORT_MODE, NET_PORT_SET, NET_PORT_QUERY -/

def cmdNetPortMode : Cmd := ⟨0x0700, .device, true, 0x14, false, [(0x10, 0, 2)], noObj⟩
def bodyNetPortMode (m : Mbx) (s : State) : State × Ans := stageItem 0x0700 m s
/-- NET_PORT_MODE (R366). -/
def execNetPortMode (m : Mbx) (s : State) : Host.Outcome State Fault Refusal :=
  .next (mailbox cmdNetPortMode bodyNetPortMode m s)

def cmdNetPortSet : Cmd :=
  ⟨0x0701, .device, true, 0x30, false,
   [(0x10, 0, 5), (0x10, 8, 1), (0x10, 9, 2), (0x10, 11, 5), (0x10, 16, 4), (0x10, 20, 1), (0x10, 21, 8), (0x14, 0, 32),
    (0x18, 0, 192)], noObj⟩
def bodyNetPortSet (m : Mbx) (s : State) : State × Ans :=
  if mf m 0x10 9 2 = 3 then (s, ansErr stInvalidArgument 0)
  else if portInRange s (mf m 0x10 0 5) = false ∨ portInRange s (mf m 0x10 11 5) = false then
    (s, ansErr stInvalidArgument dtPortRange)
  else stageItem 0x0701 m s
/-- NET_PORT_SET (R387). -/
def execNetPortSet (m : Mbx) (s : State) : Host.Outcome State Fault Refusal :=
  .next (mailbox cmdNetPortSet bodyNetPortSet m s)

/-- R386: the response of NET_PORT_QUERY from byte 0x10 on. -/
def portReply (s : State) (j : Nat) : Nat :=
  let x := getPort s j
  let t := portTime s x
  x.link + x.lanes * 2 ^ 2 + x.failed % 256 * 2 ^ 8 + portGbps x * 2 ^ 32 + macOf j % 2 ^ 48 * 2 ^ 64 +
  t / 8000000000 * 2 ^ 128 + t / 8 % 1000000000 * 2 ^ 192 + t % 8 * 2 ^ 224 +
  (if x.ptp then wrapN 64 x.offset else 0) * 2 ^ 256

def cmdNetPortQuery : Cmd := ⟨0x0702, .device, false, 0x14, false, [(0x10, 0, 5)], noObj⟩
def bodyNetPortQuery (m : Mbx) (s : State) : State × Ans :=
  let j := mf m 0x10 0 5
  if modePorts s.net.mode ≤ j then (s, ansErr stInvalidArgument dtPortRange)
  else (s, .reply (replyData (portReply s j) 0x28))
/-- NET_PORT_QUERY (R386). -/
def execNetPortQuery (m : Mbx) (s : State) : Host.Outcome State Fault Refusal :=
  .next (mailbox cmdNetPortQuery bodyNetPortQuery m s)

/-! ### PRS_RULE_SET, PRS_RANGE_SET, PRS_RULE_GET -/

/-- R370: are the reserved bits of a key zero? -/
def keyClear (k : Nat) : Bool := bitsOf k 53 11 == 0 && bitsOf k 361 23 == 0

/-- R370: the form of a rule record. -/
def ruleOk (r : Nat) : Bool :=
  bitsOf r 6 2 == 0 && bitsOf r 24 8 == 0 && bitsOf r 64 64 == 0 && keyClear (bitsOf r 128 384) && keyClear (bitsOf r 512 384) &&
  (let a := bitsOf r 896 128
   decide (actKind a ≤ 4) && bitsOf a 24 8 == 0 && bitsOf a 41 23 == 0 && bitsOf a 64 64 == 0 &&
   !(actKind a == 2 && bitAt r 1) && !(actLimit a && !bitAt r 1))

/-- R370: are a rule's queue and mirror target in their ranges? -/
def ruleRange (s : State) (r : Nat) : Bool :=
  let a := bitsOf r 896 128
  decide (actQueue a ≤ (if bitAt r 1 then 15 else 7)) && portInRange s (actMirrorPort a)

def cmdPrsRuleSet : Cmd := ⟨0x0710, .device, true, 0xA0, false, [(0x10, 0, 13), (0x20, 0, 1024)], noObj⟩
def bodyPrsRuleSet (m : Mbx) (s : State) : State × Ans :=
  let r := mf m 0x20 0 1024
  if !ruleOk r then (s, ansErr stInvalidArgument dtRuleFormat)
  else if !ruleRange s r then (s, ansErr stInvalidArgument dtPortRange)
  else stageItem 0x0710 m s
/-- PRS_RULE_SET (R370). -/
def execPrsRuleSet (m : Mbx) (s : State) : Host.Outcome State Fault Refusal :=
  .next (mailbox cmdPrsRuleSet bodyPrsRuleSet m s)

def cmdPrsRangeSet : Cmd := ⟨0x0711, .device, true, 0x20, false, [(0x10, 0, 8), (0x18, 0, 64)], noObj⟩
def bodyPrsRangeSet (m : Mbx) (s : State) : State × Ans :=
  let r := mf m 0x18 0 64
  if 4 < bitsOf r 0 4 ∨ bitsOf r 4 12 ≠ 0 ∨ bitsOf r 48 16 ≠ 0 then (s, ansErr stInvalidArgument dtRuleFormat)
  else stageItem 0x0711 m s
/-- PRS_RANGE_SET (R371). -/
def execPrsRangeSet (m : Mbx) (s : State) : Host.Outcome State Fault Refusal :=
  .next (mailbox cmdPrsRangeSet bodyPrsRangeSet m s)

def cmdPrsRuleGet : Cmd := ⟨0x0712, .device, false, 0x14, false, [(0x10, 0, 13)], noObj⟩
def bodyPrsRuleGet (m : Mbx) (s : State) : State × Ans :=
  (s, .reply (replyData (lookD s.net.rules (mf m 0x10 0 13) 0).toNat 0x80))
/-- PRS_RULE_GET (R386). -/
def execPrsRuleGet (m : Mbx) (s : State) : Host.Outcome State Fault Refusal :=
  .next (mailbox cmdPrsRuleGet bodyPrsRuleGet m s)

/-! ### SCH_QUEUE_SET, SCH_GATE_SET, SCH_LIMITER_SET -/

def between (lo x hi : Nat) : Bool := decide (lo ≤ x) && decide (x ≤ hi)

/-- R388: are the values of a queue in their ranges? -/
def queueOk (q quantum rate burst limit : Nat) : Bool :=
  if q < 16 then
    (if 3 ≤ q then between 1 quantum 4096 else quantum == 0) && decide (rate ≤ 1600000) &&
    (rate == 0 || between 9620 burst 16777216)
  else quantum == 0 && between 16384 limit 16777216

def cmdSchQueueSet : Cmd :=
  ⟨0x0720, .device, true, 0x24, false,
   [(0x10, 0, 5), (0x10, 8, 5), (0x14, 0, 13), (0x18, 0, 32), (0x1C, 0, 32), (0x20, 0, 32)], noObj⟩
def bodySchQueueSet (m : Mbx) (s : State) : State × Ans :=
  let q := mf m 0x10 8 5
  if portInRange s (mf m 0x10 0 5) = false ∨ 23 < q then (s, ansErr stInvalidArgument dtPortRange)
  else if !queueOk q (mf m 0x14 0 13) (mf m 0x18 0 32) (mf m 0x1C 0 32) (mf m 0x20 0 32) then
    (s, ansErr stInvalidArgument dtRateRange)
  else stageItem 0x0720 m s
/-- SCH_QUEUE_SET (R388). -/
def execSchQueueSet (m : Mbx) (s : State) : Host.Outcome State Fault Refusal :=
  .next (mailbox cmdSchQueueSet bodySchQueueSet m s)

/-- R380: the entries of a gate list as bytes. -/
def gateEntries : Nat → Nat → List (Nat × Nat)
  | 0, _ => []
  | n + 1, x => (bitsOf x 0 16, bitsOf x 32 32) :: gateEntries n (x / 2 ^ 64)

def gateEntriesOk (n x : Nat) : Bool :=
  (List.range n).all (fun i => bitsOf x (64 * i + 16) 16 == 0 && decide (64 ≤ bitsOf x (64 * i + 32) 32))

def cmdSchGateSet : Cmd :=
  ⟨0x0721, .device, true, 0x30, false,
   [(0x10, 0, 5), (0x10, 8, 1), (0x10, 16, 11), (0x18, 0, 48), (0x20, 0, 32), (0x24, 0, 32), (0x28, 0, 48)], noObj⟩
def bodySchGateSet (m : Mbx) (s : State) : State × Ans :=
  let n := mf m 0x10 16 11
  let a := mf m 0x28 0 48
  let inv (d : Nat) : State × Ans := (s, ansErr stInvalidArgument d)
  match controlPetal s with
  | none => (s, ansErr stNotPermitted dtNoControlPetal)
  | some c =>
    if portInRange s (mf m 0x10 0 5) = false then inv dtPortRange
    else if mf m 0x10 8 1 = 0 then
      if n = 0 ∧ mf m 0x18 0 192 = 0 then stageItem 0x0721 m s else inv dtGateFormat
    else if between 1 n 1024 = false ∨ 1000000000 ≤ mf m 0x20 0 32 ∨ mf m 0x24 0 32 < 64 then inv dtGateFormat
    else if a % 64 ≠ 0 ∨ ((getPetal s c).map (fun x => pdaInside x a (8 * n))).getD false = false ∨
        keyPresent s c = false then (s, ansErr stNotPermitted dtEntriesPda)
    else
      let s := fresh s
      let bytes := memRead s c a (8 * n)
      if !gateEntriesOk n (leNat bytes) then (s, ansErr stInvalidArgument dtGateFormat)
      else stageWith 0x0721 m bytes (touch s c a (8 * n))
/-- SCH_GATE_SET (R389). -/
def execSchGateSet (m : Mbx) (s : State) : Host.Outcome State Fault Refusal :=
  .next (mailbox cmdSchGateSet bodySchGateSet m s)

def cmdSchLimiterSet : Cmd :=
  ⟨0x0722, .device, true, 0x1C, false, [(0x10, 0, 14), (0x10, 16, 1), (0x14, 0, 32), (0x18, 0, 32)], noObj⟩
def bodySchLimiterSet (m : Mbx) (s : State) : State × Ans :=
  if between 1 (mf m 0x14 0 32) 1600000 ∧ between 9620 (mf m 0x18 0 32) 16777216 then stageItem 0x0722 m s
  else (s, ansErr stInvalidArgument dtRateRange)
/-- SCH_LIMITER_SET (R386). -/
def execSchLimiterSet (m : Mbx) (s : State) : Host.Outcome State Fault Refusal :=
  .next (mailbox cmdSchLimiterSet bodySchLimiterSet m s)

/-! ### The commit of network settings -/

/-- R366: a mode change; it fails while a QP exists on a port whose lanes change. Every port then trains again. -/
def commitMode (s : State) (mode : Nat) : Option State :=
  if mode = s.net.mode then some s
  else if !s.rdma.qps.isEmpty then none
  else
    let s := { s with net := { s.net with mode := mode } }
    some ((List.range 32).foldl (fun s j =>
      modPort (linkDown s j) j (fun x => { x with link := if x.enable ∧ j < modePorts mode then 1 else 0, failed := 0 })) s)

/-- R387: the settings of a port. -/
def commitPort (s : State) (p : BitVec 1920) : State :=
  let j := sf p 0x10 0 5
  let on := sf p 0x10 8 1 == 1
  let x := getPort s j
  let s := if !on then linkDown s j else if !x.enable then setPort s j { x with link := 1 } else s
  modPort s j (fun x => { x with
    enable := on, malformed := sf p 0x10 9 2, mirrorPort := sf p 0x10 11 5, mirrorQueue := sf p 0x10 16 4
    ptp := sf p 0x10 20 1 == 1, domain := sf p 0x10 21 8
    ppb := if sf p 0x10 20 1 = 1 then x.ppb else 0
    time := if sf p 0x10 20 1 = 1 then x.time else portTime s x
    timeAt := if sf p 0x10 20 1 = 1 then x.timeAt else s.elapsed
    tcMap := BitVec.ofNat 32 (sf p 0x14 0 32), dscpMap := BitVec.ofNat 192 (sf p 0x18 0 192) })

/-- R377, R388: the settings of a queue. -/
def commitQueue (s : State) (p : BitVec 1920) : State :=
  let q := sf p 0x10 8 5
  modPort s (sf p 0x10 0 5) (fun x =>
    if q < 16 then { x with egress := modV x.egress q (fun e =>
      { setShaper s e (sf p 0x18 0 32) (sf p 0x1C 0 32) with quantum := sf p 0x14 0 13 }) }
    else { x with ingress := modV x.ingress (q - 16) (fun g => { g with limit := sf p 0x20 0 32 }) })

/-- R382: a gate list becomes pending; one that disables the list acts at once. -/
def commitGate (s : State) (p : BitVec 1920) (entries : List Byte) : State :=
  let j := sf p 0x10 0 5
  if sf p 0x10 8 1 = 0 then modPort s j (fun x => { x with gate := none, gateNext := none, gateAt := 0, gateIdx := 0, gateFrom := 0 })
  else
    let g : GateList :=
      ⟨gateEntries (sf p 0x10 16 11) (leNat entries), sf p 0x18 0 48 * 1000000000 + sf p 0x20 0 32, sf p 0x24 0 32⟩
    modPort s j (fun x => { x with gateNext := some g, gateAt := nextCycle g (portNs s x) })

/-- Applies one staged network setting; none where it fails (R253). Opcodes of other families are not touched. -/
def applyNet (i : Staged) (s : State) : Option State :=
  let p := i.payload
  match i.opcode with
  | 0x0700 => commitMode s (sf p 0x10 0 2)
  | 0x0701 => some (commitPort s p)
  | 0x0710 =>
    some { s with net := { s.net with rules := put s.net.rules (sf p 0x10 0 13) (BitVec.ofNat 1024 (sf p 0x20 0 1024)) } }
  | 0x0711 =>
    some { s with net := { s.net with ranges := put s.net.ranges (sf p 0x10 0 8) (BitVec.ofNat 64 (sf p 0x18 0 64)) } }
  | 0x0720 => some (commitQueue s p)
  | 0x0721 => some (commitGate s p i.extra)
  | 0x0722 => some (setLimiterTo s (sf p 0x10 0 14) (sf p 0x10 16 1 == 1) (sf p 0x14 0 32) (sf p 0x18 0 32))
  | _ => none

end Sys2Proof.Machine
end

