-- ==== Sys2Proof/Machine/Pages.lean ====
section
/-!
DEFINITION. Pages, frames and plots (06_memory_tiers): placement, tier migration, reclaim, resizing, pins, frame retirement,
and the Blotter. Frame numbers name the places of a unit; a retired place is served by a spare (R154), so retirement leaves
the page map as it is.
-/

namespace Sys2Proof.Machine

/-! ### Lists in order -/

/-- Inserts by a key, after the elements of equal or smaller key. -/
def insertBy {α : Type} (key : α → Nat) (x : α) : List α → List α
  | [] => [x]
  | y :: ys => if key x < key y then x :: y :: ys else y :: insertBy key x ys

/-- Stable sorting by a key. -/
def sortBy {α : Type} (key : α → Nat) : List α → List α
  | [] => []
  | x :: xs => insertBy key x (sortBy key xs)

/-- The first element of least key. -/
def leastBy {α : Type} (key : α → Nat) (l : List α) : Option α := (sortBy key l.reverse).head?

/-! ### Units, plots, spares (R13, R15, R137) -/

/-- The grantable plots of a unit; the plot of that number holds its spares. -/
def unitPlots (u : Nat) : Nat := if u < 8 then 76 else 63
def unitSpares (u : Nat) : Nat := if u < 8 then 512 else 128
def hbmUnits : List Nat := List.range 8
def lpddrUnits : List Nat := (List.range 16).map (· + 8)

/-- The frames of a plot. -/
def plotFrames (u q : Nat) : List Nat := (List.range 512).map (frameOf u q)

/-- Retired places of a unit that no spare serves. -/
def lostFrames (s : State) (u : Nat) : Nat := (s.retired.filter (fun e => frameUnit e.1 == u && e.2 == 0)).length

/-- The plots that a unit can grant in all (R154, R544). -/
def unitCapacity (s : State) (u : Nat) : Nat := if isFailed s u then 0 else unitPlots u - (lostFrames s u + 511) / 512

/-- The plots of a unit that no petal holds, in number order. -/
def openPlots (s : State) (u : Nat) : List Nat :=
  if isFailed s u then [] else (List.range (unitPlots u)).filter (fun q => (look s.plots (u * 128 + q)).isNone)

/-! ### The page map (R133, R141) -/

/-- The PDA page, if any, whose place at creation is frame f. -/
def homePage (x : Petal) (f : Nat) : Option Nat :=
  let at_ (l : List (Nat × Nat)) : Option Nat := l.findIdx? (fun e => e.1 == frameUnit f && e.2 == framePlot f)
  (match at_ x.hbm with
   | some i => some (i * 512 + f % 512)
   | none => (at_ x.lpddr).map (fun i => (x.hbm.length + i) * 512 + f % 512))

/-- The page of a petal that lies in frame f. -/
def pageIn (x : Petal) (f : Nat) : Option Nat :=
  match x.loc.find? (fun e => e.2 == f) with
  | some e => some e.1
  | none => (homePage x f).filter (fun g => (look x.loc g).isNone)

/-- The petal and page that lie in frame f. -/
def ownerOf (s : State) (f : Nat) : Option (Nat × Nat) :=
  s.petals.findSome? (fun e => (pageIn e.2 f).map (fun g => (e.1, g)))

/-- R143: is a frame the destination of a move, or the source of one that has not released it? -/
def inMove (s : State) (f : Nat) : Bool :=
  s.moves.any (fun m => m.dest == f || m.source == f || (match m.partner with | some q => q.2.1 == f || q.2.2 == f | none => false))

/-- A frame that holds no page, takes part in no move and is not lost. -/
def frameEmpty (s : State) (f : Nat) : Bool :=
  (ownerOf s f).isNone && !inMove s f && look s.retired f != some 0

/-- Places a page in a frame. -/
def setLoc (x : Petal) (page f : Nat) : Petal :=
  { x with loc := if homeFrame x page = f then del x.loc page else put x.loc page f }

def petalPages (x : Petal) : Nat := 512 * slotsOf x
def pagesOf (x : Petal) : List Nat := List.range (petalPages x)
def pageHbm (x : Petal) (page : Nat) : Bool := inHbm (frameAt x page)

/-- R140: the HBM residency. -/
def residency (x : Petal) : Nat := ((pagesOf x).filter (pageHbm x)).length

/-- R140: the pages above the floor. -/
def borrowed (x : Petal) : Nat := residency x - 512 * recHbm x.record

/-- R144: does a page carry a pin? -/
def pinned (x : Petal) (page : Nat) : Bool := (look x.pins page).isSome
def pinOf (x : Petal) (page : Nat) : Pin := lookD x.pins page ⟨0, 0⟩
/-- R144: the pages pinned in a tier. -/
def pinnedIn (x : Petal) (hbm : Bool) : Nat := (x.pins.filter (fun e => pageHbm x e.1 == hbm)).length
def setPin (x : Petal) (page : Nat) (q : Pin) : Petal :=
  { x with pins := if q.tier = 0 ∧ q.place = 0 then del x.pins page else put x.pins page q }

def heatOf (x : Petal) (page : Nat) : Nat := lookD x.heat page 0
def moving (s : State) (p page : Nat) : Bool :=
  s.moves.any (fun m => m.petal == p && (m.page == page || (match m.partner with | some q => q.1 == page | none => false)))

/-! ### The policy record (R146) -/

def polCeiling (v : BitVec 128) : Nat := bitsOf v.toNat 0 16
def polInterval (v : BitVec 128) : Nat := bitsOf v.toNat 32 16
def polThreshold (v : BitVec 128) : Nat := bitsOf v.toNat 48 16
def polBudget (v : BitVec 128) : Nat := bitsOf v.toNat 64 16
def polStacks (v : BitVec 128) : Nat := bitsOf v.toNat 80 8

/-- R146: the record at petal creation. -/
def policyNew (h : Nat) : BitVec 128 :=
  BitVec.ofNat 128 (h + 8 * 2 ^ 32 + 64 * 2 ^ 48 + 64 * 2 ^ 64 + 0xFF * 2 ^ 80)

/-! ### Free frames -/

/-- R140: the free frames of a stack: those of plots that no petal holds, empty. -/
def freeFrames (s : State) (u : Nat) : List Nat :=
  (openPlots s u).flatMap (fun q => (plotFrames u q).filter (frameEmpty s))

def freeHbmCount (s : State) : Nat := (hbmUnits.map (fun u => (freeFrames s u).length)).foldl (· + ·) 0

/-- R141: a free frame of the stack, among those a mask names, with the most free frames, ties to the lowest number. -/
def promotionFrame (s : State) (mask : Nat) : Option Nat :=
  let l := (hbmUnits.filter (fun u => bitAt mask u && !isFailed s u)).map (freeFrames s)
  (leastBy (fun f => 2 ^ 20 - f.length) l).bind (·.head?)

/-- The empty frames of a petal's own plots of a unit. -/
def ownEmpty (s : State) (plots : List (Nat × Nat)) (u : Nat) : List Nat :=
  (plots.filter (fun e => e.1 == u)).flatMap (fun e => (plotFrames e.1 e.2).filter (frameEmpty s))

/-- R141: an empty LPDDR frame of the petal, in the package with most of them, ties to the lowest number. -/
def demotionFrame (s : State) (x : Petal) : Option Nat :=
  (leastBy (fun f => 2 ^ 20 - f.length) (lpddrUnits.map (ownEmpty s x.lpddr))).bind (·.head?)

/-- R141, R142: the coldest unpinned HBM page of a petal that is not in motion, ties in ascending PDA. -/
def coldest (s : State) (p : Nat) (x : Petal) : Option Nat :=
  leastBy (heatOf x) ((pagesOf x).filter (fun g => pageHbm x g && !pinned x g && !moving s p g))

/-- The unpinned LPDDR page of highest heat that is not in motion, ties in ascending PDA. -/
def hottest (s : State) (p : Nat) (x : Petal) : Option Nat :=
  leastBy (fun g => 65536 - heatOf x g) ((pagesOf x).filter (fun g => !pageHbm x g && !pinned x g && !moving s p g))

/-! ### Moves that a command makes at once (R142, R145, R561) -/

/-- R160: one page has changed tier. -/
def countTier (s : State) (p : Nat) (wasHbm isHbm : Bool) : State :=
  if wasHbm = isHbm then s else count s kMemPetal p (if isHbm then 5 else 6) 1

/-- A page goes to a frame. -/
def movePage (s : State) (p page f : Nat) : State :=
  match getPetal s p with
  | none => s
  | some x => countTier (setPetal s p (setLoc x page f)) p (pageHbm x page) (inHbm f)

/-- Two pages of a petal exchange their frames. -/
def swapPages (s : State) (p a b : Nat) : State :=
  match getPetal s p with
  | none => s
  | some x => movePage (movePage s p a (frameAt x b)) p b (frameAt x a)

/-- R142: one page of a petal is demoted by reclaim. The frame that it leaves serves another of the petal's borrowed pages
where it is a frame of the petal's own plots, so that it is a borrowed frame that becomes free. -/
def reclaimOne (s : State) (p : Nat) : State :=
  match getPetal s p with
  | none => s
  | some x =>
    match coldest s p x, demotionFrame s x with
    | some g, some f =>
      let left := frameAt x g
      let s := count (movePage s p g f) kMemPetal p 7 1
      let own (e : Nat) : Bool := x.hbm.contains (frameUnit e, framePlot e)
      if own left then
        match getPetal s p with
        | none => s
        | some x =>
          match (pagesOf x).find? (fun q => pageHbm x q && !own (frameAt x q)) with
          | some q => movePage s p q left
          | none => s
      else s
    | _, _ => s

/-- R142: demotes n pages, each of the petal with the most borrowed frames. -/
def reclaim : Nat → State → State
  | 0, s => s
  | n + 1, s =>
    match leastBy (fun e => 2 ^ 20 - borrowed e.2) s.petals with
    | some e => if borrowed e.2 = 0 then s else reclaim n (reclaimOne s e.1)
    | none => s

/-- R142: demotes a petal's excess over its ceiling. -/
def demoteExcess : Nat → State → Nat → State
  | 0, s, _ => s
  | n + 1, s, p =>
    match getPetal s p with
    | none => s
    | some x => if 512 * polCeiling x.policy < residency x then demoteExcess n (reclaimOne s p) p else s

/-! ### Granting plots (R136, R142) -/

/-- A unit's free plots: what its open plots hold beyond the frames borrowed in them. -/
def unitFree (s : State) (u : Nat) : Nat :=
  ((openPlots s u).map (fun q => ((plotFrames u q).filter (frameEmpty s)).length)).foldl (· + ·) 0 / 512

/-- R136: the unit for the next plot: most free plots, ties to the lowest number. -/
def plotUnit (s : State) (units : List Nat) : Option Nat :=
  let l := units.filter (fun u => openPlots s u != [])
  leastBy (fun u => (2 ^ 10 - unitFree s u) * 2 ^ 10 + (2 ^ 10 - (openPlots s u).length)) l

/-- A page that another petal borrowed in a plot goes to another free frame. -/
def clearPlot (s : State) (u q : Nat) : State :=
  (plotFrames u q).foldl (fun s f =>
    match ownerOf s f with
    | none => s
    | some (p, g) =>
      match (hbmUnits.flatMap (freeFrames s)).find? (fun e => !(frameUnit e == u && framePlot e == q)) with
      | some e => movePage s p g e
      | none => s) s

/-- R136: grants n plots of a tier to petal p, which holds none of them yet; the plots granted, in order. -/
def takePlots : Nat → State → Nat → List Nat → State × List (Nat × Nat)
  | 0, s, _, _ => (s, [])
  | n + 1, s, p, units =>
    match (plotUnit s units).bind (fun u => (leastBy (fun q => 512 - ((plotFrames u q).filter (frameEmpty s)).length)
        (openPlots s u)).map (fun q => (u, q))) with
    | none => (s, [])
    | some (u, q) =>
      let s := if u < 8 then clearPlot s u q else s
      let r := takePlots n { s with plots := put s.plots (u * 128 + q) p } p units
      (r.1, (u, q) :: r.2)

/-- Gives plots back. -/
def dropPlots (s : State) (l : List (Nat × Nat)) : State :=
  { s with plots := l.foldl (fun t e => del t (e.1 * 128 + e.2)) s.plots }

/-- R142: reclaims what n more HBM plots need. The answer says whether anything was reclaimed. -/
def reclaimFor (s : State) (n : Nat) : State × Bool :=
  let free := freeHbmCount s
  if 512 * n ≤ free then (s, false) else (reclaim (512 * n - free) s, true)

/-! ### The moves of the engine (R141, R143) -/

/-- Steps 2 and 3 of R141 for the candidates in order, with what is left of the budget. -/
def chooseMoves : Nat → List Nat → State → Nat → Nat → State
  | _, [], s, _, _ => s
  | b, c :: cs, s, p, planned =>
    match getPetal s p with
    | none => s
    | some x =>
      let promo := if residency x + planned < 512 * polCeiling x.policy then promotionFrame s (polStacks x.policy) else none
      if b = 0 then s
      else
        match promo with
        | some f =>
          chooseMoves (b - 1) cs { s with moves := s.moves ++ [⟨p, c, frameAt x c, f, none, none, .queued⟩] } p (planned + 1)
        | none =>
          match coldest s p x with
          | none => s
          | some v =>
            if 2 * heatOf x v < heatOf x c ∧ 2 ≤ b then
              let back := (demotionFrame s x).getD (frameAt x c)
              chooseMoves (b - 2) cs
                { s with moves := s.moves ++ [⟨p, c, frameAt x c, frameAt x v, some (v, frameAt x v, back), none, .queued⟩] }
                p planned
            else s

/-- R139: the heat of every page at the end of an interval. -/
def coolPages (x : Petal) (now : W64) : Petal :=
  let keys := (x.heat.map (·.1) ++ x.heatCount.map (·.1)).foldl (fun t k => put t k ()) ([] : Tbl Unit)
  let heat := keys.map (fun e => (e.1, (heatOf x e.1 + lookD x.heatCount e.1 0) / 2))
  { x with heat := heat.filter (fun e => e.2 != 0), heatCount := [], heatAt := now }

/-- R141: the candidates: unpinned LPDDR pages at or above the threshold, hottest first, ties in ascending PDA. -/
def candidates (s : State) (p : Nat) (x : Petal) : List Nat :=
  (sortBy (fun e => 65536 - e.2) ((x.heat.filter (fun e =>
    decide (polThreshold x.policy ≤ e.2) && decide (e.1 < petalPages x) && !pageHbm x e.1 && !pinned x e.1 &&
    !moving s p e.1)).reverse)).map (·.1)

/-- R139, R141: the end of a heat interval of a petal. -/
def heatInterval (s : State) (p : Nat) : State :=
  match getPetal s p with
  | none => s
  | some x =>
    let x := coolPages x s.elapsed
    let s := setPetal s p x
    chooseMoves (polBudget x.policy) (candidates s p x) s p 0

def heatDue (s : State) (p : Nat) : Bool :=
  match getPetal s p with
  | some x => elapsedAtLeast s x.heatAt (polInterval x.policy * 1000000)
  | none => false

/-- HEAT_INTERVAL (R139, R141): an interval of a petal has passed. -/
def execHeatInterval (p : PetalId) (s : State) : Host.Outcome State Fault Refusal :=
  .next (if heatDue s p.val then heatInterval s p.val else s)

/-- The units that a move touches. -/
def moveUnits (m : Move) : List Nat :=
  [frameUnit m.source, frameUnit m.dest] ++ (match m.partner with | some q => [frameUnit q.2.1, frameUnit q.2.2] | none => [])

/-- R143: one move at a time in each stack and package. -/
def unitsIdle (s : State) (m : Move) : Bool :=
  !s.moves.any (fun o => o.phase == .copying && (moveUnits o).any (fun u => (moveUnits m).contains u))

def findMove (s : State) (p page : Nat) (ph : MovePh) : Option Move :=
  s.moves.find? (fun m => m.petal == p && m.page == page && m.phase == ph)

def setMove (s : State) (m : Move) (ph : MovePh) : State :=
  { s with moves := s.moves.map (fun o => if o = m then { o with phase := ph } else o) }

/-- R144: may a move still run: migration never moves a pinned page; a retirement move does (R154). -/
def moveAllowed (s : State) (m : Move) : Bool :=
  m.spare.isSome ||
    (match getPetal s m.petal with
     | some x => !pinned x m.page && (match m.partner with | some q => !pinned x q.1 | none => true)
     | none => false)

/-- R143, step 1: the copy of a queued move begins; a move of a page that has been pinned since is dropped. -/
def moveStart (s : State) (p page : Nat) : State :=
  match findMove s p page .queued with
  | none => s
  | some m =>
    if moveAllowed s m then (if unitsIdle s m then setMove s m .copying else s)
    else { s with moves := s.moves.filter (· != m) }

/-- PAGE_MOVE_START (R143). -/
def execPageMoveStart (p : PetalId) (page : BitVec 27) (s : State) : Host.Outcome State Fault Refusal :=
  .next (moveStart s p.val page.toNat)

/-- R143, step 4: the page map changes in one step; a retirement move gives the frame's place to its spare (R154). -/
def switchMove (s : State) (m : Move) : State :=
  match m.spare with
  | some k => { s with retired := put s.retired m.source (k + 1) }
  | none =>
    let s := movePage s m.petal m.page m.dest
    match m.partner with
    | some q => movePage s m.petal q.1 q.2.2
    | none => s

def moveSwitch (s : State) (p page : Nat) : State :=
  match findMove s p page .copying with
  | none => s
  | some m => switchMove (setMove s m .switched) m

/-- PAGE_MOVE_SWITCH (R143). -/
def execPageMoveSwitch (p : PetalId) (page : BitVec 27) (s : State) : Host.Outcome State Fault Refusal :=
  .next (moveSwitch s p.val page.toNat)

def moveRelease (s : State) (p page : Nat) : State :=
  match findMove s p page .switched with
  | none => s
  | some m => { s with moves := s.moves.filter (· != m) }

/-- PAGE_MOVE_RELEASE (R143): the accesses decoded before the switch have drained and the source frame is released. -/
def execPageMoveRelease (p : PetalId) (page : BitVec 27) (s : State) : Host.Outcome State Fault Refusal :=
  .next (moveRelease s p.val page.toNat)

/-- R145: the moves of a page are over before a pin acts on it: a move that copies completes, a queued one is dropped. -/
def settlePage (s : State) (p page : Nat) : State :=
  let mine (m : Move) : Bool :=
    m.petal == p && m.spare.isNone && (m.page == page || (match m.partner with | some q => q.1 == page | none => false))
  let s := (s.moves.filter (fun m => mine m && m.phase == .copying)).foldl switchMove s
  { s with moves := s.moves.filter (fun m => !mine m) }

/-- A petal's moves end with it, or before its plots change. -/
def settlePetal (s : State) (p : Nat) : State :=
  let s := (s.moves.filter (fun m => m.petal == p && m.phase == .copying)).foldl switchMove s
  { s with moves := s.moves.filter (fun m => m.petal != p) }

/-! ### Pins (R144, R145) -/

/-- Brings a page into a tier. A page goes to HBM in exchange for the coldest unpinned HBM page, and to LPDDR into an empty
frame while the residency is above the floor and otherwise in exchange for the hottest unpinned LPDDR page. -/
def bringTo (s : State) (p page : Nat) (hbm : Bool) : State :=
  match getPetal s p with
  | none => s
  | some x =>
    if pageHbm x page = hbm then s
    else if hbm then
      match coldest s p x with
      | some v => swapPages s p page v
      | none => s
    else
      match (if 0 < borrowed x then demotionFrame s x else none) with
      | some f => movePage s p page f
      | none =>
        match hottest s p x with
        | some v => swapPages s p page v
        | none => s

/-- R144: takes one place pin on a page, in its tier, or in the other where its tier is at its limit. -/
def placePin (s : State) (p page : Nat) : State :=
  match getPetal s p with
  | none => s
  | some x =>
    let q := pinOf x page
    let limit (hbm : Bool) : Nat := 512 * (if hbm then recHbm x.record else recLpddr x.record)
    let s :=
      if pinned x page ∨ pinnedIn x (pageHbm x page) < limit (pageHbm x page) then s
      else bringTo s p page (!pageHbm x page)
    modPetal s p (fun x => setPin x page { q with place := q.place + 1 })

/-- R144: a registration of a range of pages ends. -/
def unplacePin (s : State) (p page : Nat) : State :=
  modPetal s p (fun x => let q := pinOf x page; setPin x page { q with place := q.place - 1 })

/-- The pages of a PDA range in the slots. -/
def rangePages (a n : Nat) : List Nat := if n = 0 then [] else List.range' (a / 2 ^ 21) ((a + n - 1) / 2 ^ 21 + 1 - a / 2 ^ 21)

/-- Do the place pins of the pages need a move (R145): is one tier's limit too low for the pages of it that get their first pin? -/
def placeMoves (x : Petal) (pages : List Nat) : Bool :=
  let over_ (hbm : Bool) (limit : Nat) : Bool :=
    decide (512 * limit < pinnedIn x hbm + (pages.filter (fun g => !pinned x g && pageHbm x g == hbm)).length)
  over_ true (recHbm x.record) || over_ false (recLpddr x.record)

/-! ### Resizing (R561) -/

/-- A placement of a petal's pages under new plots, page to frame. -/
abbrev Placing := Tbl Nat

/-- The empty frames of plots under a placing. -/
def emptyIn (s : State) (pl : Placing) (plots : List (Nat × Nat)) : List Nat :=
  plots.flatMap (fun e => (plotFrames e.1 e.2).filter (fun f => !pl.any (fun q => q.2 == f) && look s.retired f != some 0))

/-- R561, step 3: each page of an added slot takes the next empty frame. -/
def placeAdded (s : State) (pl : Placing) (plots : List (Nat × Nat)) : List Nat → Placing
  | [] => pl
  | g :: gs =>
    match (emptyIn s pl plots).head? with
    | some f => placeAdded s (put pl g f) plots gs
    | none => placeAdded s pl plots gs

/-- R561, step 4: one page leaves a plot that is given up. -/
def placeGiven (s : State) (x : Petal) (pl : Placing) (hbm lpddr : List (Nat × Nat)) (g : Nat) : Placing :=
  let inH := inHbm (lookD pl g 0)
  let own := if inH then hbm else lpddr
  let other := if inH then lpddr else hbm
  match (emptyIn s pl own).head? with
  | some f => put pl g f
  | none =>
    if pinned x g then
      match leastBy (fun e => heatOf x e.1) (pl.filter (fun e => own.contains (frameUnit e.2, framePlot e.2) && !pinned x e.1)),
          (emptyIn s pl other).head? with
      | some v, some f => put (put pl v.1 f) g v.2
      | _, _ => pl
    else
      match (emptyIn s pl other).head? with
      | some f => put pl g f
      | none => pl

def placedHbm (pl : Placing) : Nat := (pl.filter (fun e => inHbm e.2)).length

/-- R561, step 5, first half: promotions up to the floor. -/
def placeFloor (s : State) (x : Petal) (hbm : List (Nat × Nat)) : Nat → Placing → Placing
  | 0, pl => pl
  | n + 1, pl =>
    if 512 * hbm.length ≤ placedHbm pl then pl
    else
      match leastBy (fun e => 65536 - heatOf x e.1) (pl.filter (fun e => !inHbm e.2 && !pinned x e.1)), (emptyIn s pl hbm).head? with
      | some v, some f => placeFloor s x hbm n (put pl v.1 f)
      | _, _ => pl

/-- The tier changes between two placings of the pages that both hold. -/
def tierChanges (x : Petal) (old : Nat) (pl : Placing) (hbm : Bool) : Nat :=
  (pl.filter (fun e => decide (e.1 < old) && pageHbm x e.1 != hbm && inHbm e.2 == hbm)).length

/-- R561: petal p, whose moves have settled, goes from its plots to h and l plots. The answer says whether pages moved. -/
def resizePages (s : State) (p h l : Nat) : State × Bool :=
  match getPetal s p with
  | none => (s, false)
  | some x =>
    let old := petalPages x
    let keepH := x.hbm.take h
    let keepL := x.lpddr.take l
    let kept := min old (512 * (h + l))
    let cut : Placing := ((List.range kept).map (fun g => (g, frameAt x g)))
    -- the pages of removed slots are discarded before the plots are taken and given up
    let s := setPetal s p { x with loc := x.loc.filter (fun e => decide (e.1 < kept)) }
    let r := takePlots (h - x.hbm.length) s p hbmUnits
    let q := takePlots (l - x.lpddr.length) r.1 p lpddrUnits
    let hbm := keepH ++ r.2
    let lpd := keepL ++ q.2
    let s := q.1
    let pl := placeAdded s cut (hbm ++ lpd) (List.range' kept (512 * (h + l) - kept))
    let given := x.hbm.drop h ++ x.lpddr.drop l
    let leaving := (pl.filter (fun e => given.contains (frameUnit e.2, framePlot e.2))).map (·.1)
    let pl := leaving.foldl (fun pl g => placeGiven s x pl hbm lpd g) pl
    let ceil := max h (min (polCeiling x.policy) (h + l))
    let pl := placeFloor s x hbm pl.length pl
    let s := dropPlots s given
    let home : Petal := { x with hbm := hbm, lpddr := lpd, loc := [] }
    let x' : Petal :=
      { x with
        hbm := hbm
        lpddr := lpd
        loc := pl.filter (fun e => homeFrame home e.1 != e.2)
        pins := x.pins.filter (fun e => decide (e.1 < 512 * (h + l)))
        heat := x.heat.filter (fun e => decide (e.1 < 512 * (h + l)))
        heatCount := x.heatCount.filter (fun e => decide (e.1 < 512 * (h + l)))
        policy := BitVec.ofNat 128 (setBits x.policy.toNat 0 16 ceil) }
    let s := setPetal s p x'
    let s := count (count s kMemPetal p 5 (tierChanges x old pl true)) kMemPetal p 6 (tierChanges x old pl false)
    let s' := demoteExcess (placedHbm pl) s p
    (s', decide (leaving ≠ []) || tierChanges x old pl true != 0 || s' != s)

/-- R159, R133: the bytes of removed slots are gone. -/
def dropSlots (s : State) (p fromSlot toSlot : Nat) : State :=
  let lo := fromSlot * 2 ^ 30
  let n := (toSlot - fromSlot) * 2 ^ 30
  { s with
    mem := dropCells s.mem (memKey p lo) n
    poison := s.poison.filter (fun e => !(decide (memKey p lo / 64 ≤ e.1) && decide (e.1 < (memKey p lo + n) / 64))) }

/-! ### Frame retirement and the Blotter (R154 to R156) -/

/-- R154: a place is retired: its page moves to a spare of the unit, else to a free frame of its tier, else stays. -/
def retireFrame (s : State) (f : Nat) : State :=
  let u := frameUnit f
  let k := lookD s.sparesUsed u 0
  if s.moves.any (fun m => m.source == f && m.spare.isSome) then s
  else if k < unitSpares u then
    let s := { s with sparesUsed := put s.sparesUsed u (k + 1), frameCorr := del s.frameCorr f }
    match ownerOf s f with
    | some (p, g) => { s with moves := s.moves ++ [⟨p, g, f, frameOf u (unitPlots u) k, none, some k, .queued⟩] }
    | none => { s with retired := put s.retired f (k + 1) }
  else
    match ownerOf s f with
    | none => { s with retired := put s.retired f 0 }
    | some (p, g) =>
      match (if u < 8 then promotionFrame s 0xFF else (lpddrUnits.flatMap (freeFrames s)).head?) with
      | some e => { movePage s p g e with retired := put s.retired f 0 }
      | none => logEvent s 2 2 "frame cannot be retired" u p []

/-- The place that a frame of a unit serves: a spare serves the place it stands for, or holds a page itself (R544). -/
def placeOf (s : State) (f : Nat) : Option Nat :=
  if framePlot f < unitPlots (frameUnit f) then (if (look s.retired f).isSome then none else some f)
  else
    match s.retired.find? (fun e => frameUnit e.1 == frameUnit f && framePlot f == unitPlots (frameUnit f) && e.2 == f % 512 + 1) with
    | some e => some e.1
    | none => some f

/-- The lines of a walk unit (R155). -/
def walkLines (w : Nat) : Nat := if w < 256 then 41943040 else if w < 320 then 268435456 else 32768

/-- Where line k of a walk unit lies (R135): the frame and the byte in it, or for the hub none and the byte in hub SRAM. -/
def walkPlace (w k : Nat) : Option Nat × Nat :=
  if w < 256 then
    let pc := w % 32
    let a := (k / 2 * 16 + pc % 16) * 256 + (pc / 16 * 2 + k % 2) * 64
    (some (frameOf (w / 32) (a / 2 ^ 30) (a / 2 ^ 21 % 512)), a % 2 ^ 21)
  else if w < 320 then
    let a := (k / 4 * 4 + w % 4) * 256 + k % 4 * 64
    (some (frameOf (8 + (w - 256) / 4) (a / 2 ^ 30) (a / 2 ^ 21 % 512)), a % 2 ^ 21)
  else (none, (k * 32 + (w - 320)) * 64)

/-- The petal and PDA that a place holds: through the page map, or a hub page (R134). -/
def walkOwner (s : State) (at_ : Option Nat × Nat) : Option (Nat × Nat) :=
  match at_.1 with
  | none =>
    let p := at_.2 / 32768
    if p < 512 ∧ (getPetal s p).isSome then some (p, 0xFFFFFFFF8000 + at_.2 % 32768) else none
  | some f => ((placeOf s f).bind (ownerOf s)).map (fun e => (e.1, e.2 * 2 ^ 21 + at_.2))

/-- The moments of a list within ns of now, with now. -/
def recent (s : State) (l : List W64) (ns : Nat) : List W64 := l.filter (fun t => !elapsedAtLeast s t ns) ++ [s.elapsed]

/-- R153, R154: a correction in a frame by a layer of a unit. -/
def noteCorrection (s : State) (f : Nat) (controller : Bool) : State :=
  let u := frameUnit f
  let hour := recent s (lookD s.unitCorr u []) 3600000000000
  let before := (lookD s.unitCorr u []).length
  let s := { s with unitCorr := put s.unitCorr u hour }
  let s := if before ≤ 1000 ∧ 1000 < hour.length then logEvent s 2 1 "corrections" u noPetal [] else s
  if controller then
    let day := recent s (lookD s.frameCorr f []) 86400000000000
    let s := { s with frameCorr := put s.frameCorr f day }
    if 16 ≤ day.length then (match placeOf s f with | some g => retireFrame s g | none => s) else s
  else s

/-- R156: the Blotter reads one line. `decoded` says that a foreground write of the line was decoded since the read, which
cancels the write-back. -/
def scrubLine (s : State) (w : Nat) (found : ScrubFind) (decoded : Bool) : State :=
  let k := (lookD s.walks w ⟨0, 0⟩).line
  let passes := (lookD s.walks w ⟨0, 0⟩).passes
  let at_ := walkPlace w k
  let unit := if w < 256 then w / 32 else 8 + (w - 256) / 4
  let next : Walk := if k + 1 = walkLines w then ⟨0, passes + 1⟩ else ⟨k + 1, passes⟩
  let s := { s with walks := put s.walks w next }
  let own := walkOwner s at_
  let tally (s : State) (f : Nat) : State := if w < 320 then count s kMemUnit unit f 1 else s
  let petalTally (s : State) : State := match own with | some e => count s kMemPetal e.1 10 1 | none => s
  let note (s : State) (c : Bool) : State := match at_.1 with | some f => noteCorrection s f c | none => s
  match found with
  | .clean => s
  | .onDie => note (petalTally (tally s 0)) false
  | .word => note (petalTally (tally s 1)) true
  | .symbol => note (petalTally (tally s (if w < 256 then 2 else 1))) true
  | .uncorrectable =>
    if decoded then s
    else
      let key := match own with | some e => memKey e.1 e.2 / 64 | none => 0
      if own.isSome ∧ look s.poison key = some true then s
      else
        let s := tally s 3
        let s := match own with | some _ => { s with poison := put s.poison key true } | none => s
        let s := logEvent s 2 2 "uncorrectable line" unit (match own with | some e => e.1 | none => noPetal) []
        match at_.1.bind (placeOf s) with
        | some g => retireFrame s g
        | none => s

/-- BLOTTER_SCRUB_LINE (R155, R156). -/
def execBlotterScrubLine (w : Fin 352) (found : ScrubFind) (decoded : Bool) (s : State) : Host.Outcome State Fault Refusal :=
  .next (scrubLine s w.val found decoded)

/-- R42, R43, R155: the Blotter reads the next line of a scratch bank and corrects every single-bit error in it. -/
def scratchScrub (s : State) (k bank : Nat) : State :=
  let i := lookD s.scratchWalks (k * 16 + bank) 0
  let line := i * 16 + bank
  let c := getCore s k
  let mine := c.errs.filter (fun e => e.1 / 8 == line && e.2 == .single)
  let s := setCore s k
    { c with errs := c.errs.filter (fun e => !(e.1 / 8 == line && e.2 == .single)), corrections := c.corrections + mine.length }
  { s with scratchWalks := put s.scratchWalks (k * 16 + bank) ((i + 1) % 1024) }

/-- SCRATCH_SCRUB (R155). -/
def execScratchScrub (k : CoreId) (bank : Fin 16) (s : State) : Host.Outcome State Fault Refusal :=
  .next (scratchScrub s k.val bank.val)

/-! ### The start-up fill (R138) -/

/-- START_UP_FILL_COMPLETE (R138): the fill of HBM, or of LPDDR, is complete. -/
def execStartUpFillComplete (lpddr : Bool) (s : State) : Host.Outcome State Fault Refusal :=
  .next (if lpddr then { s with lpddrFilled := true } else { s with hbmFilled := true })

/-! ### Gauges (R160) -/

def poisonedLines (s : State) (p : Nat) : Nat := (s.poison.filter (fun e => e.2 && e.1 / 2 ^ 42 == p)).length

/-- R160: the fields of MEM_PETAL. -/
def memPetalFields (s : State) (p : Nat) : List Nat :=
  match getPetal s p with
  | none => List.replicate 13 0
  | some x =>
    let r := residency x
    [r, petalPages x - r, borrowed x, pinnedIn x true, pinnedIn x false] ++
      [5, 6, 7, 8, 9, 10, 11].map (countVal s kMemPetal p) ++ [poisonedLines s p]

/-- The walk units of a memory unit. -/
def unitWalks (u : Nat) : List Nat := if u < 8 then List.range' (u * 32) 32 else List.range' (256 + (u - 8) * 4) 4

/-- R160: the fields of MEM_UNIT. -/
def memUnitFields (s : State) (u : Nat) : List Nat :=
  let used := lookD s.sparesUsed u 0
  [0, 1, 2, 3].map (countVal s kMemUnit u) ++
    [used + lostFrames s u, unitSpares u - used,
     ((unitWalks u).map (fun w => (lookD s.walks w ⟨0, 0⟩).passes)).foldl min (2 ^ 63)]

end Sys2Proof.Machine
end

