-- ==== Sys2Proof/Machine/Power.lean ====
section
/-!
DEFINITION. Power levels and rate targets (20_power_ladder): the levels of units and of the module, idle entry, held levels and
their deferral by debug sessions, rate targets and the limits that throttle a rail.
-/

namespace Sys2Proof.Machine

/-! ### Detail codes (R506, R313) -/
def dtParkSpace : Nat := 0x80
def dtUnitRange : Nat := 0x81
def dtRateRange2 : Nat := 0x82
def dtLevelSuperseded : Nat := 0x83
def dtPowerPetals : Nat := 0x97

def kPwr : Nat := 0x11

/-! ### Units (R490) -/

/-- R490: how many units a kind has. -/
def unitCount (kind : Nat) : Nat :=
  match kind with
  | 0 => 2048 | 1 => 512 | 2 => 64 | 3 => 4 | 4 => 7 | 5 => 1 | _ => 0

/-- R498: the level that the module's level forces on a unit; at W3 compute dies and Quill partitions are at W4. -/
def moduleFloor (s : State) : Nat := if s.pwr.module = 3 then 4 else s.pwr.module

/-- The level of a unit (R490 to R492, R498). Hub partitions 4 to 6 follow the module. -/
def unitLevel (s : State) (kind u : Nat) : Nat :=
  if kind = ukModule then s.pwr.module
  else if kind = ukHub ∧ 4 ≤ u then moduleFloor s
  else max (lookD s.pwr.levels (unitKey kind u) 0) (moduleFloor s)

/-- R490: a Nib is idle in IDLE, DONE or STOPPED. -/
def nibIdle (s : State) (n : Nat) : Bool :=
  let x := getNib s n
  !x.halted && (x.st == .idle || x.st == .done || x.st == .stopped)

/-- R490: a core is idle when its Nibs are and no stream of them is pending. -/
def coreIdle (s : State) (k : Nat) : Bool :=
  (nibsOf [k]).all (fun n => nibIdle s n && (getNib s n).streams.isEmpty)

/-- R490: a cluster is idle when its cores are and its event router holds no update. -/
def clusterIdle (s : State) (c : Nat) : Bool :=
  (List.range' (8 * c) 8).all (fun k => coreIdle s k && (getCore s k).port.isEmpty)

/-- R490: does a Quill core of a hub partition have work that the interrupt controller shows? -/
def hubRaised (s : State) (p : Nat) : Bool :=
  s.irq.srcs.any (fun e => decide (e.2.target / 16 = p) && decide (e.2.target < 64) && ((e.2.pending && e.2.enable) || e.2.active))

/-- R490: is a unit idle? -/
def unitIdle (s : State) (kind u : Nat) : Bool :=
  match kind with
  | 0 => nibIdle s u
  | 1 => coreIdle s u
  | 2 => clusterIdle s u
  | 3 => (List.range' (16 * u) 16).all (clusterIdle s)
  | 4 => decide (u < 4) && !hubRaised s u
  | _ => false

/-- The units that a unit contains, by kind and number. -/
def unitParts (kind u : Nat) : List (Nat × Nat) :=
  match kind with
  | 1 => (List.range' (4 * u) 4).map (fun n => (ukNib, n))
  | 2 => (List.range' (8 * u) 8).map (fun n => (ukCore, n))
  | 3 => (List.range' (16 * u) 16).map (fun n => (ukCluster, n))
  | _ => []

/-! ### Idle entry (R493 to R495) -/

/-- R493: the idle time between the entry of a level and that of the next deeper one, in ns. -/
def idleNs (level : Nat) : Nat :=
  match level with
  | 1 => 19000 | 2 => 980000 | 3 => 99000000 | _ => 0

/-- R493 to R495, R484: the level that a unit enters now. -/
def idleTarget (s : State) (kind u : Nat) : Nat :=
  let cur := lookD s.pwr.levels (unitKey kind u) 0
  let cap := if unitInSession s kind u then 2 else 4
  let held := look s.pwr.held (unitKey kind u)
  if unitIdle s kind u then
    match held with
    | some h => max cur (min h cap)
    | none =>
      if elapsedAtLeast s (lookD s.pwr.since (unitKey kind u) 0) (idleNs cur) then max cur (min (cur + 1) cap) else cur
  else if kind = ukNib ∧ held ≠ some 0 then
    match (getNib s u).st with
    | .waiting _ _ => if (getNib s u).halted then cur else max cur 1
    | _ => cur
  else cur

/-- R490: the rail that feeds a unit: its compute die's, or the hub die's. -/
def railOf (kind u : Nat) : Nat :=
  match kind with
  | 0 => u / 512 | 1 => u / 128 | 2 => u / 16 | 3 => u | _ => 4

/-- A unit enters a level; entries of W3 and W4 are counted (R507). -/
def enterLevel (s : State) (kind u level : Nat) : State :=
  let s := { s with pwr := { s.pwr with
    levels := put s.pwr.levels (unitKey kind u) level
    since := put s.pwr.since (unitKey kind u) s.elapsed } }
  if 3 ≤ level then count s kPwr (railOf kind u) 4 1 else s

/-- R492, R493: an idle timer of a unit expires: the unit enters its next level, if every unit that it contains is at that level
or deeper. -/
def unitIdleEntry (s : State) (kind u : Nat) : State :=
  let t := idleTarget s kind u
  if u < unitCount kind ∧ kind < 5 ∧ (kind = ukHub → u < 4) ∧ lookD s.pwr.levels (unitKey kind u) 0 < t ∧
      (unitParts kind u).all (fun e => decide (t ≤ unitLevel s e.1 e.2)) = true then
    enterLevel s kind u t
  else s
/-- UNIT_IDLE_ENTRY (R493): the row's kind and number name the unit. -/
def execUnitIdleEntry (kind : Fin 5) (u : Fin 2048) (s : State) : Host.Outcome State Fault Refusal :=
  .next (unitIdleEntry s kind.val u.val)

/-- UNIT_WAKE (R496): a wake source of a unit; a unit cannot leave a level that the module holds. -/
def execUnitWake (kind : Fin 5) (u : Fin 2048) (s : State) : Host.Outcome State Fault Refusal :=
  .next (if s.pwr.module = 0 then wakeUnit s kind.val u.val else s)

/-! ### The module (R498 to R503) -/

/-- R499: has any petal running work, accepted work that has not started, or a device-issued request in flight? -/
def moduleWork (s : State) : Bool :=
  !s.launches.isEmpty || !s.cphReqs.isEmpty || !s.colOps.isEmpty || !s.sclCmds.isEmpty || !s.atnEntries.isEmpty ||
    !s.pcie.reqs.isEmpty || s.rdma.qps.any (fun e => !e.2.wqes.isEmpty || e.2.inbound.isSome || !e.2.owed.isEmpty)

/-- R502: the HBM frames that petals hold. -/
def heldHbm (s : State) : Nat := (s.petals.map (fun e => residency e.2)).foldl (· + ·) 0
/-- R502: the LPDDR frames that are free. -/
def freeLpddr (s : State) : Nat := (lpddrUnits.map (fun u => (freeFrames s u).length)).foldl (· + ·) 0
def parkFits (s : State) : Bool := decide (heldHbm s ≤ freeLpddr s)

/-- R507: the units of a rail. -/
def railUnits (r : Nat) : List (Nat × Nat) :=
  if r < 4 then
    (List.range' (512 * r) 512).map (fun u => (ukNib, u)) ++ (List.range' (128 * r) 128).map (fun u => (ukCore, u)) ++
      (List.range' (16 * r) 16).map (fun u => (ukCluster, u)) ++ [(ukDie, r)]
  else (List.range 7).map (fun u => (ukHub, u))

/-- R507: at module W3 the units that were not at W3 or W4 enter W4. -/
def countDeep (s : State) : State :=
  (List.range 5).foldl (fun s r =>
    count s kPwr r 4 ((railUnits r).filter (fun e => decide (unitLevel s e.1 e.2 < 3))).length) s

/-- R498: the Ethernet ports go down and the PCIe links enter L1, or L1.2 at W2 and W3. -/
def sleepLinks (s : State) (level : Nat) : State :=
  let s := (List.range 32).foldl (fun s j => if (getPort s j).link = 0 then s else linkDown s j) s
  { s with pcie := { s.pcie with ports := mapT s.pcie.ports (fun _ x => if x.up then { x with l1 := if level = 1 then 1 else 3 } else x) } }

/-- R498, R502: the module enters W1, W2 or W3. -/
def enterModule (s : State) (level : Nat) : State :=
  let s := sleepLinks (if level = 3 then countDeep s else s) level
  { s with pwr := { s.pwr with module := level, parked := level == 3 } }

/-- R499: does a request for the module's held level wait for its entry? -/
def entryPending (s : State) : Bool :=
  s.pages.any (fun e => e.2.pends.any (fun q => q.why == .powerEntry ukModule 0 && q.outcome.isNone))

/-- R499, R485: may the module enter a level now? -/
def moduleMayEnter (s : State) (level : Nat) : Bool :=
  s.pwr.module == 0 && decide (1 ≤ level) && decide (level ≤ 3) && !moduleWork s && !(level == 3 && anySession s)

/-- MODULE_LEVEL_ENTRY (R499): no work remains, and the module enters the level that a request waits for. Where W3 finds too few
free LPDDR frames the request ends with PARK_SPACE (R502). -/
def execModuleLevelEntry (s : State) : Host.Outcome State Fault Refusal :=
  .next (match s.pwr.moduleHeld with
    | some l =>
      if entryPending s = true ∧ moduleMayEnter s l = true then
        if l = 3 ∧ parkFits s = false then
          resolve { s with pwr := { s.pwr with moduleHeld := none } } (.powerEntry ukModule 0) (replyErr stNoResources dtParkSpace)
        else resolve (enterModule s l) (.powerEntry ukModule 0) replyOk
      else s
    | none => s)

/-- MODULE_WAKE (R500): a wake source brings the module out of W1 to W3. -/
def execModuleWake (s : State) : Host.Outcome State Fault Refusal := .next (awake s)

/-- MODULE_IDLE_RETURN (R499): after 1 ms without work the module returns to its held level. -/
def execModuleIdleReturn (s : State) : Host.Outcome State Fault Refusal :=
  .next (match s.pwr.moduleHeld with
    | some l =>
      if entryPending s = false ∧ moduleMayEnter s l = true ∧ elapsedAtLeast s s.pwr.wokeAt 1000000 = true ∧
          (l = 3 → parkFits s = true) then enterModule s l
      else s
    | none => s)

/-! ### Rate targets and limits (R504, R505) -/

/-- The set target of a rail; target 0 asks for the highest rate, 2,100 M bundles/s (R20). -/
def setTarget (s : State) (r : Nat) : Nat := lookD s.pwr.targets r 1600
def askedTarget (s : State) (r : Nat) : Nat := if setTarget s r = 0 then 2100 else setTarget s r
/-- R505, R542: the thermal limit of a rail; one that does not limit rests at 2,100. -/
def thermalLimit (s : State) (r : Nat) : Nat := if look s.pwr.blind r = some true then 900 else lookD s.pwr.thermal r 2100
/-- R505: the power limit, of compute rails only. -/
def powerLimit (s : State) (r : Nat) : Nat := if r < 4 then s.pwr.power.getD 2100 else 2100
/-- R505. -/
def effectiveTarget (s : State) (r : Nat) : Nat := min (askedTarget s r) (min (thermalLimit s r) (powerLimit s r))

/-- R504: the rail voltage in mV: 850 at target 0; else it lies within 650 to 850, and the manual does not fix it further. -/
def railMv (s : State) (r : Nat) : Nat :=
  if setTarget s r = 0 ∧ effectiveTarget s r = 2100 then 850 else 650 + freeVal s r % 201

def cmdPwrRateSet : Cmd := ⟨0x0900, .device, false, 0x18, false, [(0x10, 0, 3), (0x14, 0, 16)], noObj⟩
def bodyPwrRateSet (m : Mbx) (s : State) : State × Ans :=
  let r := mf m 0x10 0 3
  let t := mf m 0x14 0 16
  if 4 < r ∨ (t ≠ 0 ∧ (t < 900 ∨ 2100 < t)) then (s, ansErr stInvalidArgument dtRateRange2)
  else ({ s with pwr := { s.pwr with targets := put s.pwr.targets r t } }, ansOk)
/-- PWR_RATE_SET (R504). -/
def execPwrRateSet (m : Mbx) (s : State) : Host.Outcome State Fault Refusal := .next (mailbox cmdPwrRateSet bodyPwrRateSet m s)

/-- R512: the thermal sensors of a rail's die. -/
def railSensors (r : Nat) : List Nat := List.range' (16 * r) 16

/-- A sensor's temperature in 1/16 °C, if its sample is valid (R513). -/
def tempOf (s : State) (i : Nat) : Option Int :=
  match s.ink.sample.temps[i]? with
  | some t => if bitsOf t.toNat 16 2 = 0 then some (sInt 16 (bitsOf t.toNat 0 16)) else none
  | none => none

/-- The valid temperatures of a rail's die. -/
def railTemps (s : State) (r : Nat) : List Int := (railSensors r).filterMap (tempOf s)

/-- R505: the step of a rail's thermal limit. -/
def stepThermal (s : State) (r : Nat) : Nat :=
  let l := lookD s.pwr.thermal r 2100
  if (railTemps s r).any (fun t => decide ((1600 : Int) ≤ t)) then max 900 (l - 50)
  else if (railTemps s r).all (fun t => decide (t < (1520 : Int))) ∧ railTemps s r ≠ [] then min 2100 (l + 50)
  else l

/-- THERMAL_LIMIT_STEP (R505): every 10 ms. -/
def execThermalLimitStep (r : Fin 5) (s : State) : Host.Outcome State Fault Refusal :=
  .next (if elapsedAtLeast s (lookD s.pwr.thermalAt r.val 0) 10000000 then
      { s with pwr := { s.pwr with
        thermal := put s.pwr.thermal r.val (stepThermal s r.val), thermalAt := put s.pwr.thermalAt r.val s.elapsed } }
    else s)

/-- R505: the step of the power limit. -/
def stepPower (s : State) : Option Nat :=
  let l := s.pwr.power.getD 2100
  if 750000 < s.ink.sample.inputMw then some (l - 50)
  else if s.ink.sample.inputMw < 700000 then (if 2100 ≤ l + 50 then none else some (l + 50))
  else s.pwr.power

/-- POWER_LIMIT_STEP (R505): every 1 ms, all four compute rails together. -/
def execPowerLimitStep (s : State) : Host.Outcome State Fault Refusal :=
  .next (if elapsedAtLeast s s.pwr.powerAt 1000000 then
      { s with pwr := { s.pwr with power := stepPower s, powerAt := s.elapsed } }
    else s)

/-- R507: the fields of the PWR group of a rail. -/
def pwrFields (s : State) (r : Nat) : List Nat :=
  [countVal s kPwr r 0, countVal s kPwr r 1, railMv s r, effectiveTarget s r, countVal s kPwr r 4]

/-- R507: one elapsed-counter step of the limits. -/
def pwrTick (s : State) : State :=
  (List.range 5).foldl (fun s r =>
    let s := if thermalLimit s r < askedTarget s r then count s kPwr r 0 1 else s
    if powerLimit s r < askedTarget s r then count s kPwr r 1 1 else s) s

/-! ### Held levels (R494, R485, R499) -/

/-- R499, R485: the requests that wait for a unit are replaced. -/
def supersede (s : State) (kind u : Nat) : State :=
  resolve { s with pwr := { s.pwr with deferred := s.pwr.deferred.filter (fun d => !(d.kind == kind && d.unit == u)) } }
    (.powerEntry kind u) (replyErr stAborted dtLevelSuperseded)

/-- R503, R478, R486: the module enters W4: every session of every page ends, staged device settings are discarded, memory and
keys are lost, links go down and the sources that target Quill cores are discarded (R443). -/
def enterW4 (s : State) : State :=
  let s := (List.range 32).foldl (fun s j => if (getPort s j).link = 0 then s else linkDown s j) (countDeep (closeSessions s))
  { s with
    ready := false
    pages := mapT s.pages (fun _ pg => { pg with session := if pg.session = 1 then 2 else pg.session })
    devArea := { s.devArea with stage := [] }
    sec := { s.sec with nonces := [] }
    keySess := []
    mem := []
    poison := []
    hbmFilled := false
    lpddrFilled := false
    irq := { s.irq with
      srcs := s.irq.srcs.filter (fun e => decide (64 ≤ e.2.target) && e.2.target != 127)
      procs := s.irq.procs.filter (fun e => decide (64 ≤ e.1)) }
    pcie := { s.pcie with ports := mapT s.pcie.ports (fun _ x => { x with up := false, trained := false, l1 := 0 }) }
    pwr := { s.pwr with module := 4, parked := false, moduleHeld := none, deferred := [] } }

/-- R311: the unit that a request names: global on the device page; of the petal's cores on an own page. The error where it is
out of range. -/
def unitNamed (s : State) (m : Mbx) : Except (Nat × Nat) (Nat × Nat) :=
  let kind := mf m 0x10 0 4
  let n := mf m 0x14 0 16
  if m.page.val = devPage then
    if n < unitCount kind then .ok (kind, n) else .error (stInvalidArgument, dtUnitRange)
  else if 5 < kind then .error (stInvalidArgument, dtUnitRange)
  else if 1 < kind then .error (stNotPermitted, 0)
  else
    let i := if kind = 0 then n / 4 else n
    match (getPetal s m.page.val).bind (fun x => x.cores[i]?) with
    | some k => .ok (kind, if kind = 0 then 4 * k + n % 4 else k)
    | none => .error (stInvalidArgument, dtUnitRange)

/-- R499, R502, R503, R311: a request for the module. -/
def setModule (s : State) (level : Nat) (auto : Bool) : State × Ans :=
  if auto = false ∧ level = 4 then
    if s.petals.isEmpty = false then (s, ansErr stNotPermitted dtPowerPetals)
    else (enterW4 (supersede s ukModule 0), ansOk)
  else if auto = false ∧ level = 3 ∧ parkFits s = false then (s, ansErr stNoResources dtParkSpace)
  else
    let s := supersede s ukModule 0
    if auto ∨ level = 0 then (holdModule s level auto, ansOk)
    else if sessionHolds s ukModule 0 level auto then
      ({ s with pwr := { s.pwr with deferred := s.pwr.deferred ++ [⟨ukModule, 0, level, auto, devPage⟩] } }, .pend (.powerEntry ukModule 0))
    else (holdModule s level auto, .pend (.powerEntry ukModule 0))

/-- R494, R485: a request for another unit. -/
def setUnit (s : State) (kind u level : Nat) (auto : Bool) (page : Nat) : State × Ans :=
  let s := supersede s kind u
  if sessionHolds s kind u level auto then
    ({ s with pwr := { s.pwr with deferred := s.pwr.deferred ++ [⟨kind, u, level, auto, page⟩] } }, .pend (.powerEntry kind u))
  else (holdUnit s kind u level auto, ansOk)

def cmdPwrLevelSet : Cmd :=
  ⟨0x0901, .any, true, 0x1C, false, [(0x10, 0, 4), (0x14, 0, 16), (0x18, 0, 4)], noObj⟩
def bodyPwrLevelSet (m : Mbx) (s : State) : State × Ans :=
  let level := mf m 0x18 0 3
  let auto := mf m 0x18 3 1 == 1
  match unitNamed s m with
  | .error e => (s, ansErr e.1 e.2)
  | .ok (kind, u) =>
    if kind = ukHub ∧ 4 ≤ u then (s, ansErr stInvalidArgument dtUnitRange)
    else if 4 < level ∨ (auto = true ∧ level ≠ 0) then (s, ansErr stInvalidArgument 0)
    else if kind = ukModule then setModule s level auto
    else setUnit s kind u level auto m.page.val
/-- PWR_LEVEL_SET (R494, R499, R503, R485). -/
def execPwrLevelSet (m : Mbx) (s : State) : Host.Outcome State Fault Refusal := .next (mailbox cmdPwrLevelSet bodyPwrLevelSet m s)

/-- PWR_LEVEL_AUTO is the command PWR_LEVEL_SET with auto 1 and level 0 (R494). -/
def autoOf (m : Mbx) : Mbx := { m with payload := BitVec.ofNat 1920 (setBits m.payload.toNat (8 * 8) 4 8) }
/-- PWR_LEVEL_AUTO (R494). -/
def execPwrLevelAuto (m : Mbx) (s : State) : Host.Outcome State Fault Refusal :=
  .next (mailbox cmdPwrLevelSet bodyPwrLevelSet (autoOf m) s)

def cmdPwrQuery : Cmd := ⟨0x0902, .any, false, 0x18, false, [(0x10, 0, 4), (0x14, 0, 16)], noObj⟩
def bodyPwrQuery (m : Mbx) (s : State) : State × Ans :=
  let s := fresh s
  match unitNamed s m with
  | .error e => (s, ansErr e.1 e.2)
  | .ok (kind, u) =>
    let r := railOf kind u
    (s, .reply (replyData (unitLevel s kind u + railMv s r * 2 ^ 32 + effectiveTarget s r * 2 ^ 64) 12))
/-- PWR_QUERY (R311). -/
def execPwrQuery (m : Mbx) (s : State) : Host.Outcome State Fault Refusal := .next (mailbox cmdPwrQuery bodyPwrQuery m s)

end Sys2Proof.Machine
end

