-- ==== Sys2Proof/Machine/Clock.lean ====
section
/-!
DEFINITION. What the module does between commands: the elapsed counter steps (R24).
-/

namespace Sys2Proof.Machine

/-- R6, R24, R507: one step of 10 ns of the elapsed counter, with the counters that count such steps. A module without input, or at W4,
stands still. -/
def tick (s : State) : State :=
  if s.board.stage = .off ∨ s.pwr.module = 4 then s
  else { pwrTick s with elapsed := s.elapsed + 1 }

end Sys2Proof.Machine
end

