-- ==== Sys2Proof/Machine/MemCmd.lean ====
section
/-!
DEFINITION. The memory commands (R145, R146, R309): pins, migration policy, scrub intervals.
-/

namespace Sys2Proof.Machine

def dtPinLimit : Nat := 0x80
def dtPageHeld : Nat := 0x81
def dtPdaUnmapped : Nat := 0x82
def dtCeilingRange : Nat := 0x83
def dtRangeMisaligned : Nat := 0x84
/-- R272. -/
def dtPetalUnknown : Nat := 0x81

/-! ### MEM_PIN and MEM_UNPIN (R144, R145) -/

/-- R145: sets the tier pins of pages. -/
def setTier (x : Petal) (pages : List Nat) (tier : Nat) : Petal :=
  pages.foldl (fun x g => setPin x g { pinOf x g with tier := tier }) x

/-- R144: how many pages would be pinned in HBM, or in LPDDR, after a MEM_PIN that brings its pages into a tier. -/
def pinsAfter (x : Petal) (pages : List Nat) (tier : Nat) (hbm : Bool) : Nat :=
  (x.pins.filter (fun e => !pages.contains e.1 && pageHbm x e.1 == hbm)).length +
    (if (tier == 1) == hbm then pages.length else 0)

/-- R145: a tier pin to the other tier on a page that holds place pins. -/
def pageHeld (x : Petal) (pages : List Nat) (tier : Nat) : Bool :=
  pages.any (fun g => decide (0 < (pinOf x g).place) && pageHbm x g != (tier == 1))

/-- R145: the effect on a range: kind 0 removes the tier pins; kinds 1 and 2 bring every page into its tier and pin it. The
pages that lie elsewhere move once every page of the range that is in its tier has been pinned. -/
def pinRange (s : State) (p : Nat) (pages : List Nat) (kind : Nat) : State × Ans :=
  let s := pages.foldl (fun s g => settlePage s p g) s
  match getPetal s p with
  | none => (s, ansErr stNotFound dtPetalUnknown)
  | some x =>
    if kind = 0 then (setPetal s p (setTier x pages 0), ansOk)
    else if pageHeld x pages kind then (s, ansErr stBusy dtPageHeld)
    else if 512 * recHbm x.record < pinsAfter x pages kind true ∨ 512 * recLpddr x.record < pinsAfter x pages kind false then
      (s, ansErr stNoResources dtPinLimit)
    else
      let away := pages.filter (fun g => pageHbm x g != (kind == 1))
      let s := setPetal s p (setTier x (pages.filter (fun g => pageHbm x g == (kind == 1))) kind)
      let s := away.foldl (fun s g =>
        modPetal (bringTo s p g (kind == 1)) p (fun x => setTier x [g] kind)) s
      (s, if away = [] then ansOk else .late .work replyOk)

def cmdMemPin : Cmd :=
  ⟨0x0210, .own, true, 0x2C, true, [(0x10, 0, 9), (0x18, 0, 48), (0x20, 0, 48), (0x28, 0, 2)], noObj⟩
def bodyMemPin (m : Mbx) (s : State) : State × Ans :=
  let base := mf m 0x18 0 48
  let n := mf m 0x20 0 48
  let kind := mf m 0x28 0 2
  match getPetal s m.page.val with
  | none => (s, ansErr stNotFound dtPetalUnknown)
  | some x =>
    if kind = 3 then (s, ansErr stInvalidArgument 0)
    else if base % 2 ^ 21 ≠ 0 ∨ n % 2 ^ 21 ≠ 0 ∨ n = 0 then (s, ansErr stInvalidArgument dtRangeMisaligned)
    else if slotsOf x * 2 ^ 30 < base + n then (s, ansErr stInvalidArgument dtPdaUnmapped)
    else pinRange s m.page.val (rangePages base n) kind
/-- MEM_PIN (R145). -/
def execMemPin (m : Mbx) (s : State) : Host.Outcome State Fault Refusal := .next (mailbox cmdMemPin bodyMemPin m s)

/-- MEM_UNPIN is the command MEM_PIN with kind 0 (R145). -/
def unpinOf (m : Mbx) : Mbx := { m with payload := BitVec.ofNat 1920 (setBits m.payload.toNat (8 * 0x18) 2 0) }
/-- MEM_UNPIN (R145). -/
def execMemUnpin (m : Mbx) (s : State) : Host.Outcome State Fault Refusal :=
  .next (mailbox cmdMemPin bodyMemPin (unpinOf m) s)

/-! ### MEM_POLICY_SET, MEM_POLICY_GET (R146) -/

/-- The policy record of a staged request. -/
def policyIn (p : BitVec 1920) : BitVec 128 := BitVec.ofNat 128 (sf p 0x20 0 128)

/-- R146: the ranges of the fields other than those of CEILING_RANGE. -/
def policyRanges (v : BitVec 128) : Bool :=
  decide (1 ≤ polInterval v) && decide (polInterval v ≤ 1024) && decide (1 ≤ polThreshold v) && decide (polBudget v ≤ 4096)
/-- R147: CEILING_RANGE. -/
def ceilingOk (x : Petal) (v : BitVec 128) : Bool :=
  decide (recHbm x.record ≤ polCeiling v) && decide (polCeiling v ≤ slotsOf x) && polStacks v != 0

def cmdMemPolicySet : Cmd :=
  ⟨0x0211, .device, true, 0x30, true,
   [(0x10, 0, 9), (0x20, 0, 16), (0x24, 0, 32), (0x28, 0, 24)], noObj⟩
def bodyMemPolicySet (m : Mbx) (s : State) : State × Ans :=
  match getPetal s (mPetal m) with
  | none => (s, ansErr stNotFound dtPetalUnknown)
  | some x =>
    if policyRanges (policyIn m.payload) = false then (s, ansErr stInvalidArgument 0)
    else if ceilingOk x (policyIn m.payload) = false then (s, ansErr stInvalidArgument dtCeilingRange)
    else stageItem 0x0211 m s
/-- MEM_POLICY_SET (R146). -/
def execMemPolicySet (m : Mbx) (s : State) : Host.Outcome State Fault Refusal :=
  .next (mailbox cmdMemPolicySet bodyMemPolicySet m s)

def cmdMemPolicyGet : Cmd := ⟨0x0212, .any, false, 0x14, true, [(0x10, 0, 9)], noObj⟩
def bodyMemPolicyGet (m : Mbx) (s : State) : State × Ans :=
  match getPetal s (mPetal m) with
  | none => (s, ansErr stNotFound dtPetalUnknown)
  | some x => (s, .reply (replyData x.policy.toNat 16))
/-- MEM_POLICY_GET (R309). -/
def execMemPolicyGet (m : Mbx) (s : State) : Host.Outcome State Fault Refusal :=
  .next (mailbox cmdMemPolicyGet bodyMemPolicyGet m s)

/-! ### MEM_SCRUB_SET (R155, R309) -/

def cmdMemScrubSet : Cmd :=
  ⟨0x0213, .device, true, 0x20, false, [(0x14, 0, 32), (0x18, 0, 32), (0x1C, 0, 32)], noObj⟩
def bodyMemScrubSet (m : Mbx) (s : State) : State × Ans := stageItem 0x0213 m s
/-- MEM_SCRUB_SET (R309). -/
def execMemScrubSet (m : Mbx) (s : State) : Host.Outcome State Fault Refusal :=
  .next (mailbox cmdMemScrubSet bodyMemScrubSet m s)

/-- R155: an interval in ns, 0 for the default; none where it lies outside the table's bounds. -/
def scrubIn (v fastest dflt : Nat) : Option Nat := if v = 0 then some dflt else if fastest ≤ v ∧ v ≤ dflt then some v else none

/-! ### Commits (R142, R253) -/

/-- What a commit does with a staged setting of this chapter; none where it fails. -/
def applyMem (i : Staged) (s : State) : Option State :=
  if i.opcode = 0x0211 then
    let p := sf i.payload 0x10 0 9
    (getPetal s p).bind (fun x =>
      if ceilingOk x (policyIn i.payload) then
        some (demoteExcess (residency x) (setPetal s p { x with policy := policyIn i.payload }) p)
      else none)
  else
    match scrubIn (sf i.payload 0x14 0 32) 1000 2000000, scrubIn (sf i.payload 0x18 0 32) 1000 600000,
        scrubIn (sf i.payload 0x1C 0 32) 10000 1000000 with
    | some a, some b, some c => some { s with scrubHbm := a, scrubLpddr := b, scrubHub := c }
    | _, _, _ => none

end Sys2Proof.Machine
end

