-- ==== Sys2Proof/Machine/Rdma.lean ====
section
/-!
DEFINITION. The RDMA engine (16_rdma): the packets of a queue pair in both directions, its window and timers, completion queues,
memory regions, and resident contexts. Opcodes, header layouts and NAK codes are those of the InfiniBand Architecture
Specification, which R392 names; the manual does not print them.
-/

namespace Sys2Proof.Machine

/-! ### Detail codes (R418) -/
def dtQpExists : Nat := 0x80
def dtQpState : Nat := 0x81
def dtCqExists : Nat := 0x82
def dtCqInUse : Nat := 0x83
def dtAddrOwner : Nat := 0x84
def dtMrLimit : Nat := 0x85
def dtKeyUnknown : Nat := 0x86
def dtRetryExceeded : Nat := 0x87
def dtRnrExceeded : Nat := 0x88
def dtRemoteAccess : Nat := 0x89
def dtRemoteError : Nat := 0x8A
def dtRecvLength : Nat := 0x8B
def dtFlushed : Nat := 0x8C
def dtRdmUncorrectable : Nat := 0x8D
def dtRdmAccelDma : Nat := 0x8E
def dtRdmOpForm : Nat := 0x8F
def dtRdmReserved : Nat := 0x90
def dtRdmTagRange : Nat := 0x91
def dtRdmTagInUse : Nat := 0x92
def dtRdmBuffer : Nat := 0x93
def dtRdmCounter : Nat := 0x94
def dtLabelUnset : Nat := 0x95
def dtAbandoned : Nat := 0x96
def dtRdmDescriptor : Nat := 0x97

def kRdm : Nat := 0x0C
def okQp : Nat := 2
def okRegion : Nat := 3

/-! ### Queue pairs -/

def qpKey (p n : Nat) : Nat := p * 2 ^ 20 + n
def getQp (s : State) (p n : Nat) : Option Qp := look s.rdma.qps (qpKey p n)
def setQp (s : State) (q : Qp) : State :=
  { s with rdma := { s.rdma with qps := put s.rdma.qps (qpKey q.petal q.num) q } }
def modQp (s : State) (p n : Nat) (f : Qp → Qp) : State :=
  { s with rdma := { s.rdma with qps := upd s.rdma.qps (qpKey p n) f } }
/-- A field of RDM_QP_CREATE's request (R398), by the request's byte. -/
def qf (q : Qp) (byte bit w : Nat) : Nat := fld q.cfg.toNat (byte - 16) bit w
def qAddr (q : Qp) : Nat := qf q 0x10 20 4
def qPort (q : Qp) : Nat := qf q 0x10 24 5
def qCq (q : Qp) : Nat := qf q 0x14 0 12
def qBind (q : Qp) : Nat := qf q 0x14 12 4
def qSq (q : Qp) : Nat := 2 ^ qf q 0x14 16 4
def qRq (q : Qp) : Nat := if qf q 0x14 20 4 = 0 then 0 else 2 ^ qf q 0x14 20 4
def qTc (q : Qp) : Nat := qf q 0x14 24 3
def qData (q : Qp) : Bool := qf q 0x14 27 1 == 1
def qControl (q : Qp) : Bool := qf q 0x14 28 1 == 1
def qSignal (q : Qp) : Bool := qf q 0x14 29 1 == 1
def qMtu (q : Qp) : Nat := 1024 * 2 ^ qf q 0x14 30 2
def qDscp (q : Qp) : Nat := qf q 0x18 0 6
def qRnr (q : Qp) : Nat := qf q 0x18 8 3
def qTimeout (q : Qp) : Nat := qf q 0x18 16 16
def qSqAddr (q : Qp) : Nat := qf q 0x20 0 64
def qRqAddr (q : Qp) : Nat := qf q 0x28 0 64

/-- The packets of a message of n bytes (R392). -/
def packets (mtu n : Nat) : Nat := max 1 ((n + mtu - 1) / mtu)
/-- The wire PSN of a position. -/
def wirePsn (q : Qp) (i : Nat) : Nat := (q.startPsn + i) % 2 ^ 24
def psnDiff (a b : Nat) : Nat := (a + 2 ^ 24 - b % 2 ^ 24) % 2 ^ 24

/-! ### Completion queues (R397, R405) -/

def cqKey (p n : Nat) : Nat := p * 4096 + n
def getCq (s : State) (p n : Nat) : Option RdmCq := look s.rdma.cqs (cqKey p n)
def setCq (s : State) (p n : Nat) (c : RdmCq) : State :=
  { s with rdma := { s.rdma with cqs := put s.rdma.cqs (cqKey p n) c } }
def cqSize (c : RdmCq) : Nat := 2 ^ fld c.cfg.toNat 4 0 8
def cqBind (c : RdmCq) : Nat := fld c.cfg.toNat 0 16 4
def cqMsix (c : RdmCq) : Nat := fld c.cfg.toNat 4 16 16
def cqAddr (c : RdmCq) : Nat := fld c.cfg.toNat 8 0 64
def cqRoom (s : State) (p n : Nat) : Bool :=
  match getCq s p n with
  | some c => decide (c.used + c.reserved < cqSize c)
  | none => false
def cqReserve (s : State) (p n : Nat) : State :=
  { s with rdma := { s.rdma with cqs := upd s.rdma.cqs (cqKey p n) (fun c => { c with reserved := c.reserved + 1 }) } }
def cqRelease (s : State) (p n : Nat) : State :=
  { s with rdma := { s.rdma with cqs := upd s.rdma.cqs (cqKey p n) (fun c => { c with reserved := c.reserved - 1 }) } }

/-- R169, R170, R405: posts one record; it uses an entry that acceptance reserved. -/
def postCq (s : State) (p n tag status result detail : Nat) : State :=
  match getCq s p n with
  | none => s
  | some c =>
    let rec_ := record tag status n result c.seq detail c.phase
    let s := (bufWrite s p (cqBind c) (cqAddr c + 32 * c.cqTail) (leBytes 32 rec_)).1
    let t := (c.cqTail + 1) % cqSize c
    let c := { c with
      cqTail := t, used := c.used + 1, reserved := c.reserved - 1, seq := c.seq + 1
      phase := if t = 0 then !c.phase else c.phase }
    sendVector (setCq s p n c) (cqMsix c)

/-! ### Send completions (R404, R405) -/

def wSig (w : Wqe) : Bool := fld w.raw.toNat 0 8 1 == 1
def wRec (w : Wqe) : Bool := fld w.raw.toNat 0 9 1 == 1
def wCounter (w : Wqe) : Nat := fld w.raw.toNat 0x28 0 32
def wIncrement (w : Wqe) : Nat := fld w.raw.toNat 0x2C 0 32

/-- R404: a send entry completes: record, counter add, tag release. -/
def completeSend (s : State) (q : Qp) (w : Wqe) (status detail bytes : Nat) : State :=
  let s :=
    if wRec w ∨ status ≠ stOk then postCq s q.petal (qCq q) w.tag status (bytes + q.num * 2 ^ 32) detail
    else cqRelease s q.petal (qCq q)
  let s := if status = stOk then count s kRdm q.petal 0 1 else s
  let s := if status = stOk ∧ wSig w then signal s q.petal (wCounter w) (wIncrement w) else s
  if w.fail.isSome then s else resolveTask (dmaForget (freeTag s q.petal w.tag) q.petal w.tag) q.petal w.tag

/-- R404: posts the completions that are due at the front of the send entries, in ring order. -/
def postDone : Nat → State → Nat → Nat → State
  | 0, s, _, _ => s
  | k + 1, s, p, n =>
    match getQp s p n with
    | none => s
    | some q =>
      match q.wqes with
      | [] => s
      | w :: ws =>
        match w.fail with
        | some f => postDone k (completeSend (setQp s { q with wqes := ws }) q w f.1 f.2 0) p n
        | none =>
          if w.first + w.count ≤ q.una then
            postDone k (completeSend (setQp s { q with wqes := ws }) q w stOk 0 w.len) p n
          else s

def postSends (s : State) (p n : Nat) : State :=
  match getQp s p n with
  | some q => postDone q.wqes.length s p n
  | none => s

/-! ### Flush and ERROR (R400, R417) -/

/-- A receive record (R405). -/
def postRecv (s : State) (q : Qp) (id status detail bytes : Nat) : State :=
  postCq s q.petal (qCq q) id status (bytes + q.num * 2 ^ 32 + 2 ^ 52) detail

/-- The raw entry of a ring at an index. -/
def sendEntry (s : State) (q : Qp) (i : Nat) : Nat := leNat (bufRead s q.petal (qBind q) (qSqAddr q + 64 * (i % qSq q)) 64)
def recvEntry (s : State) (q : Qp) (i : Nat) : Nat := leNat (bufRead s q.petal (qBind q) (qRqAddr q + 32 * (i % qRq q)) 32)

/-- R400: accepts the entries that the rings of a QP in ERROR offer, while the completion queue has room, and completes each
with ABORTED and FLUSHED. -/
def flushRings : Nat → State → Nat → Nat → State
  | 0, s, _, _ => s
  | k + 1, s, p, n =>
    match getQp s p n with
    | none => s
    | some q =>
      if q.st ≠ .error ∨ cqRoom s p (qCq q) = false then s
      else if q.sqHead ≠ q.sqTail then
        let tag := fld (sendEntry s q q.sqHead) 0 16 13
        let s := cqReserve (setQp s { q with sqHead := (q.sqHead + 1) % qSq q }) p (qCq q)
        flushRings k (postCq s p (qCq q) tag stAborted (q.num * 2 ^ 32) dtFlushed) p n
      else if q.rqHead ≠ q.rqTail then
        let id := fld (recvEntry s q q.rqHead) 0 0 16
        let s := cqReserve (setQp s { q with rqHead := (q.rqHead + 1) % qRq q }) p (qCq q)
        flushRings k (postRecv s q id stAborted dtFlushed 0) p n
      else s

/-- Every accepted entry of a QP completes with ABORTED and FLUSHED, the send entries first. -/
def flushAccepted (s : State) (q : Qp) : State :=
  let s := q.wqes.foldl (fun s w => completeSend s q w stAborted dtFlushed 0) (modQp s q.petal q.num (fun q => { q with wqes := [] }))
  match q.inbound with
  | some b =>
    if b.write then s
    else postRecv s q (fld b.entry.toNat 0 0 16) stAborted dtFlushed b.got
  | none => s

/-- R417: a QP enters ERROR. Where the cause met a send entry, that one, the oldest, completes with the status given. -/
def enterError (s : State) (p n : Nat) (onSend : Bool) (status detail : Nat) : State :=
  match getQp s p n with
  | none => s
  | some q =>
    let s := count s kRdm p 15 1
    let s := modQp s p n (fun q => { q with
      st := .error, timer := none, rnrFrom := none, owed := [], unacked := 0, unackedAt := none, inbound := none })
    match onSend, q.wqes with
    | true, w :: ws =>
      let s := completeSend (modQp s p n (fun q => { q with wqes := ws })) q w status detail 0
      flushAccepted s { q with wqes := ws }
    | _, _ => flushAccepted s q

/-! ### Frames (R393) -/

/-- The address entry of a QP. -/
def qEntry (s : State) (q : Qp) : Nat := (lookD s.net.addrs (16 * qPort q + qAddr q) 0).toNat

/-- R393: a RoCE v2 frame: base transport header, extended headers, payload padded to 4 bytes, ICRC. -/
def roceFrame (s : State) (q : Qp) (opcode : Nat) (ackReq : Bool) (psn ecn : Nat) (ext payload : List Byte) : List Byte :=
  let e := qEntry s q
  let v6 := addrV6 e
  let pad := (4 - payload.length % 4) % 4
  let bth := beB 1 opcode ++ beB 1 (pad * 16) ++ beB 2 0xFFFF ++ beB 4 q.remoteQpn ++ beB 4 (psn % 2 ^ 24 + b2n ackReq * 2 ^ 31)
  let body := bth ++ ext ++ payload ++ List.replicate pad 0
  let sport := 0xC000 + q.wireQpn % 0x4000
  let udp (icrc : List Byte) : List Byte := beB 2 sport ++ beB 2 4791 ++ beB 2 (8 + body.length + 4) ++ beB 2 0 ++ body ++ icrc
  let ip (icrc : List Byte) : List Byte := ipPacket v6 (addrIp e) q.remoteIp.toNat 17 (qDscp q * 4 + ecn) 64 (udp icrc)
  let l4 := if v6 then 40 else 20
  let crc := icrcOf (ip (List.replicate 4 0)) { Parsed.none with v4 := !v6, v6 := v6, l3 := 0, l4 := l4 }
  ethFrame (addrMac e) (macOf (qPort q)) (addrVid e) (if v6 then 0x86DD else 0x0800) (ip (leBytes 4 crc))

/-- R387: the egress queue of a QP. -/
def qQueue (s : State) (q : Qp) : Nat := bitsOf (getPort s (qPort q)).tcMap.toNat (4 * qTc q) 4

def qRoom (s : State) (q : Qp) : Bool := sendRoom s (qPort q) (qQueue s q)

def emit (s : State) (q : Qp) (f : List Byte) : State := sendFrame s (qPort q) (qQueue s q) q.petal f

/-- An acknowledgement header: syndrome and message number. -/
def aeth (syndrome msn : Nat) : List Byte := beB 1 syndrome ++ beB 3 msn
/-- An RDMA extended header. -/
def reth (addr key len : Nat) : List Byte := beB 8 addr ++ beB 4 key ++ beB 4 len

/-! ### The requester (R404, R411, R412) -/

/-- Opcode of packet k of n of a SEND, a WRITE or a READ response. -/
def segOpcode (first mid last only k n : Nat) : Nat :=
  if n = 1 then only else if k = 0 then first else if k + 1 = n then last else mid

/-- R411: bytes of a send entry in flight: sent and not acknowledged, or requested and not received. -/
def wInFlight (q : Qp) (w : Wqe) : Nat :=
  if w.op = 2 then (if w.first < q.nxt then w.len - w.got else 0)
  else
    let lo := max q.una w.first - w.first
    let hi := min q.nxt (w.first + w.count) - w.first
    min w.len (hi * qMtu q) - min w.len (lo * qMtu q)

def inFlight (q : Qp) : Nat := (q.wqes.map (wInFlight q)).foldl (· + ·) 0

/-- The send entry that owns a position. -/
def wqeAt (q : Qp) (i : Nat) : Option Wqe := q.wqes.find? (fun w => decide (w.first ≤ i) && decide (i < w.first + w.count))

/-- The payload of packet k of a send entry. -/
def sendPayload (s : State) (q : Qp) (w : Wqe) (k : Nat) : List Byte :=
  if w.op = 4 then
    leBytes 8 (fld w.raw.toNat 0x20 0 64) ++ leBytes 8 (lookD s.rdma.labels q.petal 0).toNat
  else bufRead s q.petal (qBind q) (w.local_.toNat + k * qMtu q) (min (qMtu q) (w.len - k * qMtu q))

/-- Why a packet's source cannot be read: a poisoned line, or a bus address that cannot be reached. -/
def sourceWhy (s : State) (q : Qp) (w : Wqe) (k : Nat) : Option (Nat × Nat) :=
  let n := min (qMtu q) (w.len - k * qMtu q)
  let a := w.local_.toNat + k * qMtu q
  if w.op = 2 ∨ w.op = 4 ∨ n = 0 then none
  else if bufPoison s q.petal a n then some (stDeviceFault, dtRdmUncorrectable)
  else if dmaFailed s q.petal w.tag then some (stDeviceFault, dtRdmAccelDma)
  else (bufWhy s q.petal (qBind q) a false).map (fun st => (st, dtRdmAccelDma))

/-- R393, R404: the frame of packet k of a send entry. -/
def sendPacket (s : State) (q : Qp) (w : Wqe) (k : Nat) : List Byte :=
  let i := w.first + k
  let last := decide (k + 1 = w.count)
  match w.op with
  | 1 =>
    roceFrame s q (segOpcode 0x06 0x07 0x08 0x0A k w.count) last (wirePsn q i) 2
      (if k = 0 then reth w.remote.toNat w.rkey.toNat w.len else []) (sendPayload s q w k)
  | 2 =>
    let off := k * qMtu q
    roceFrame s q 0x0C true (wirePsn q i) 2 (reth (w.remote.toNat + off) w.rkey.toNat (w.len - off)) []
  | 3 => roceFrame s q (segOpcode 0x00 0x01 0x02 0x04 k w.count) last (wirePsn q i) 2 [] (sendPayload s q w k)
  | _ => roceFrame s q 0x05 true (wirePsn q i) 2 (beB 4 (0x5347 * 2 ^ 16 + fld w.raw.toNat 0x1C 0 16)) (sendPayload s q w k)

/-- R411: may the packet at position `nxt` go now? A READ longer than the window goes when nothing is in flight. -/
def windowOpen (q : Qp) (w : Wqe) (k : Nat) : Bool :=
  let n := if w.op = 2 then w.len - k * qMtu q else if w.op = 4 then 0 else min (qMtu q) (w.len - k * qMtu q)
  decide (inFlight q + n ≤ q.window) || inFlight q == 0

/-- Sends the packets that the window and the egress queue allow. -/
def pump : Nat → State → Nat → Nat → State
  | 0, s, _, _ => s
  | fuel + 1, s, p, n =>
    match getQp s p n with
    | none => s
    | some q =>
      if q.st ≠ .ready ∨ q.top ≤ q.nxt ∨ q.rnrFrom.isSome ∨ qRoom s q = false ∨ keyPresent s p = false then s
      else
        match wqeAt q q.nxt with
        | none => s
        | some w =>
          let k := q.nxt - w.first
          if windowOpen q w k = false ∨ dmaPending s p w.tag = true then s
          else
            match sourceWhy s q w k with
            | some e =>
              if q.wqes.head? = some w then
                let m := min (qMtu q) (w.len - k * qMtu q)
                enterError (if e.2 = dtRdmUncorrectable then bufTouch s p (w.local_.toNat + k * qMtu q) m else s) p n true e.1 e.2
              else s
            | none =>
              let f := sendPacket s q w k
              let n' := if w.op = 2 then w.first + w.count else q.nxt + 1
              let first := decide (q.high ≤ q.nxt)
              let bytes := if w.op = 2 then 0 else if w.op = 4 then 16 else min (qMtu q) (w.len - k * qMtu q)
              let s := if first then count s kRdm p 2 bytes else count s kRdm p 4 1
              let s := if w.op = 4 then s else bufTouch s p (w.local_.toNat + k * qMtu q) bytes
              let s := setQp s { q with nxt := n', high := max q.high n', timer := q.timer.or (some s.elapsed), lastUse := s.elapsed }
              pump fuel (emit s q f) p n

/-- Sends what can go. -/
def pumpQp (s : State) (p n : Nat) : State :=
  match getQp s p n with
  | some q => pump (q.top - q.nxt) s p n
  | none => s

/-- R411: halves the window, or quarters it, not below one MTU. -/
def shrink (s : State) (p n d : Nat) : State :=
  match getQp s p n with
  | none => s
  | some q => count (setQp s { q with window := max (qMtu q) (q.window / d), sinceDec := some 0 }) kRdm p 9 1

/-- R411: a decrease on congestion, at most once per window of acknowledged bytes. -/
def congest (s : State) (p n : Nat) : State :=
  match getQp s p n with
  | none => s
  | some q => if (match q.sinceDec with | some b => decide (b < q.window) | none => false) then s else shrink s p n 2

/-- The highest position to which an acknowledgement may advance: a READ whose data is missing holds it. -/
def ackLimit (q : Qp) : Nat :=
  match q.wqes.find? (fun w => w.op == 2 && w.fail.isNone && decide (w.got < w.len ∨ (w.len = 0 ∧ q.una ≤ w.first))) with
  | some w => max q.una (w.first + w.got / qMtu q)
  | none => q.nxt

/-- R404, R411, R412: positions below `k` are acknowledged; `extra` bytes of READ data came with it. -/
def advance (s : State) (p n k extra : Nat) : State :=
  match getQp s p n with
  | none => s
  | some q =>
    if k ≤ q.una then s
    else
      let freed := extra + (inFlight q - inFlight { q with una := k, nxt := max k q.nxt })
      let win := min (16 * 2 ^ 20) (q.window + qMtu q * freed / q.window)
      let q := { q with
        una := k, nxt := max k q.nxt, window := win, retries := 0, rnrRetries := 0
        sinceDec := q.sinceDec.map (· + freed)
        timer := if k < max k q.nxt then some s.elapsed else none }
      postSends (setQp s q) p n

/-- The position that a wire PSN names among those sent. -/
def posOf (q : Qp) (psn : Nat) : Option Nat :=
  let d := psnDiff psn (wirePsn q q.una)
  if q.una + d < q.nxt then some (q.una + d) else none

/-- R412: go-back-N from the oldest unacknowledged PSN, counting one retry; the eighth attempt without progress fails. -/
def goBack (s : State) (p n : Nat) : State :=
  match getQp s p n with
  | none => s
  | some q =>
    if 7 ≤ q.retries then enterError s p n true stDeviceFault dtRetryExceeded
    else pumpQp (setQp s { q with nxt := q.una, retries := q.retries + 1, timer := none }) p n

/-- R414, R413, R417: what the requester does with an acknowledgement packet, or a NAK. -/
def takeAck (s : State) (q : Qp) (k : RocePkt) : State :=
  let p := q.petal
  let n := q.num
  let syn := k.syndrome.toNat
  let at_ := posOf q k.psn.toNat
  let before (s : State) : State :=
    -- a NAK acknowledges every packet before its PSN
    match at_ with
    | some i => advance s p n (min i (max q.una (ackLimit q))) 0
    | none => s
  if syn / 32 = 0 then
    match at_ with
    | some i => pumpQp (advance s p n (min (i + 1) (ackLimit q)) 0) p n
    | none => s
  else if syn / 32 = 1 then
    let s := before s
    match getQp s p n with
    | none => s
    | some q =>
      if qRnr q ≠ 7 ∧ qRnr q ≤ q.rnrRetries then enterError s p n true stTimeout dtRnrExceeded
      else
        setQp s { q with
          nxt := q.una, rnrFrom := some s.elapsed, rnrRetries := q.rnrRetries + 1, timer := none
          rnrWait := if syn % 32 = 1 then 10000 else Config.rnrNs (syn % 32) }
  else
    let s := before s
    match syn with
    | 0x60 => goBack s p n
    | 0x62 => enterError s p n true stRevoked dtRemoteAccess
    | _ => enterError s p n true stDeviceFault dtRemoteError

/-- R404: a READ response packet: its data is written to the local buffer. -/
def takeReadData (s : State) (q : Qp) (k : RocePkt) : State :=
  let p := q.petal
  match wqeAt q q.una with
  | none => s
  | some w =>
    if w.op ≠ 2 ∨ k.psn.toNat ≠ wirePsn q q.una ∨ q.nxt ≤ q.una ∨ k.payload.length ≠ min (qMtu q) (w.len - w.got) then s
    else
      let r := bufWrite s p (qBind q) (w.local_.toNat + w.got) k.payload
      match r.2 with
      | some e => enterError r.1 p q.num true e dtRdmAccelDma
      | none =>
        let s := modQp r.1 p q.num (fun q =>
          { q with wqes := q.wqes.map (fun x => if x.first = w.first then { x with got := x.got + k.payload.length } else x) })
        pumpQp (advance s p q.num (q.una + 1) k.payload.length) p q.num

/-! ### The responder (R406, R408, R410, R413, R414) -/

/-- Sends what a QP owes its peer while its egress queue has room. -/
def payOwed : Nat → State → Nat → Nat → State
  | 0, s, _, _ => s
  | fuel + 1, s, p, n =>
    match getQp s p n with
    | none => s
    | some q =>
      if qRoom s q = false then s
      else
        match q.owed with
        | [] => s
        | .ack psn syn msn :: rest =>
          payOwed fuel (emit (setQp s { q with owed := rest }) q (roceFrame s q 0x11 false psn 0 (aeth syn msn) [])) p n
        | .cnp :: rest =>
          payOwed fuel (emit (setQp s { q with owed := rest }) q (roceFrame s q 0x81 false 0 0 (List.replicate 16 0) [])) p n
        | .read psn addr len sent msn key :: rest =>
          let total := packets (qMtu q) len
          let size := min (qMtu q) (len - sent * qMtu q)
          if (poisonIn s p (addr + sent * qMtu q) size).isSome ∧ size ≠ 0 then
            payOwed fuel (touch (setQp s { q with owed := .ack ((psn + sent) % 2 ^ 24) 0x63 msn :: rest }) p (addr + sent * qMtu q) size) p n
          else
            let op := segOpcode 0x0D 0x0E 0x0F 0x10 sent total
            let f := roceFrame s q op false ((psn + sent) % 2 ^ 24) 2 (if hasAeth op then aeth 0 msn else [])
              (memRead s p (addr + sent * qMtu q) size)
            let rest := if sent + 1 = total then rest else .read psn addr len (sent + 1) msn key :: rest
            payOwed fuel (emit (touch (setQp s { q with owed := rest }) p (addr + sent * qMtu q) size) q f) p n

/-- The packets that a QP owes. -/
def owedCount (q : Qp) : Nat :=
  (q.owed.map (fun o => match o with | .read _ _ len sent _ _ => packets (qMtu q) len - sent + 1 | _ => 1)).foldl (· + ·) 0

/-- R410: a region whose withdrawal has been accepted ends once no message uses it. -/
def regionBusy (s : State) (p key : Nat) : Bool :=
  s.rdma.qps.any (fun e => e.2.petal == p &&
    ((match e.2.inbound with | some b => b.write && b.key.toNat == key | none => false) ||
     e.2.owed.any (fun o => match o with | .read _ _ _ _ _ k => k == key | _ => false)))

def regionKey (p idx : Nat) : Nat := p * 65536 + idx
def keyOf (idx variant : Nat) : Nat := idx * 256 + variant % 256

/-- R410: the withdrawn regions that nothing uses any more are removed: pins released, the index free, the command answered. -/
def endRegions (s : State) (p : Nat) : State :=
  (s.rdma.regions.filter (fun e => e.1 / 65536 == p && e.2.closing)).foldl (fun s e =>
    let idx := e.1 % 65536
    if regionBusy s p (keyOf idx e.2.variant) then s
    else
      let s := (rangePages e.2.base e.2.len).foldl (fun s g => unplacePin s p g) s
      resolve { s with rdma := { s.rdma with
          regions := del s.rdma.regions e.1, variants := put s.rdma.variants e.1 ((e.2.variant + 1) % 256) } }
        (.objEnd p okRegion idx) replyOk) s

/-- R400: a QP whose destruction has begun goes once no inbound message is in progress. Its wire QPN rests for 10 s (R393). -/
def endQp (s : State) (p n : Nat) : State :=
  match getQp s p n with
  | some q =>
    if q.st = .destroying ∧ q.inbound = none then
      resolve { s with rdma := { s.rdma with
          qps := del s.rdma.qps (qpKey p n), resting := s.rdma.resting ++ [(q.wireQpn, s.elapsed + 1000000000)] } }
        (.objEnd p okQp n) replyOk
    else s
  | none => s

/-- What follows every packet: owed packets go, withdrawn regions and destroyed QPs end. -/
def settleQp (s : State) (p n : Nat) : State :=
  let s := match getQp s p n with | some q => payOwed (owedCount q) s p n | none => s
  endRegions (endQp s p n) p

/-- R414: an acknowledgement, at once. -/
def ackNow (s : State) (p n : Nat) : State :=
  modQp s p n (fun q => { q with
    owed := q.owed ++ [.ack ((q.ePsn + 2 ^ 24 - 1) % 2 ^ 24) 0 q.msn], unacked := 0, unackedAt := none })

/-- A NAK or RNR NAK of the expected PSN. -/
def nakNow (s : State) (p n syn : Nat) : State :=
  modQp s p n (fun q => { q with owed := q.owed ++ [.ack q.ePsn syn q.msn], unacked := 0, unackedAt := none })

/-- R414: the packet is taken: acknowledged at once on AckReq or after 16 packets, and otherwise within 2 µs. -/
def taken (s : State) (p n : Nat) (ackReq : Bool) (psns : Nat) : State :=
  let s := modQp s p n (fun q => { q with
    ePsn := (q.ePsn + psns) % 2 ^ 24, unacked := q.unacked + 1, unackedAt := q.unackedAt.or (some s.elapsed) })
  match getQp s p n with
  | some q => if ackReq ∨ 16 ≤ q.unacked then ackNow s p n else s
  | none => s

/-- R409: may a QP take the whole-space key: is it named by a communicator, or the control petal's? -/
def wholeAllowed (s : State) (q : Qp) : Bool :=
  ((getPetal s q.petal).map (·.control)).getD false || lookD s.rdma.named (qpKey q.petal q.num) 0 != 0

/-- R408, R409: does a key allow an operation on a range? -/
def keyAdmits (s : State) (q : Qp) (key addr len : Nat) (write : Bool) : Bool :=
  let idx := key / 256
  if idx = 0xFFFFFF then
    wholeAllowed s q && key % 256 == lookD s.rdma.whole q.petal 0 &&
      ((getPetal s q.petal).map (fun x => decide (addr + len ≤ slotsOf x * 2 ^ 30))).getD false
  else
    match (if idx < 65536 then look s.rdma.regions (regionKey q.petal idx) else none) with
    | some r =>
      !r.closing && r.variant == key % 256 && (if write then r.write else r.read) &&
        decide (r.base ≤ addr) && decide (addr + len ≤ r.base + r.len)
    | none => false

/-- A remote-access NAK (R408): the message is wholly rejected; the QP stays READY (R417). -/
def denyAccess (s : State) (p n : Nat) : State := nakNow (count s kRdm p 12 1) p n 0x62

/-- R403: may a receive entry be used? -/
def recvOk (s : State) (q : Qp) (e : Nat) : Bool :=
  bitsOf e 16 16 == 0 && bitsOf e 128 128 == 0 && decide (fld e 4 0 32 ≤ 65536) && fld e 8 0 6 == 0 &&
    bufOk s q.petal (qBind q) (fld e 8 0 64) (fld e 4 0 32)

/-- The receive side of a completed message. -/
def messageDone (s : State) (p n bytes : Nat) : State :=
  count (count (modQp s p n (fun q => { q with msn := (q.msn + 1) % 2 ^ 24 })) kRdm p 1 1) kRdm p 3 bytes

/-- Is the inbound message in progress a WRITE, or a SEND? -/
def inWrite (q : Qp) : Bool := match q.inbound with | some b => b.write | none => false
def inSend (q : Qp) : Bool := match q.inbound with | some b => !b.write | none => false

/-- R404, R413: a SEND packet. -/
def takeSend (s : State) (q : Qp) (k : RocePkt) : State :=
  let p := q.petal
  let n := q.num
  let op := k.opcode.toNat
  let starts := op == 0x00 || op == 0x04
  let ends := op == 0x02 || op == 0x04
  if qControl q = false ∨ starts ≠ q.inbound.isNone ∨ inWrite q = true ∨
      (ends = false ∧ k.payload.length ≠ qMtu q) ∨ qMtu q < k.payload.length then nakNow s p n 0x61
  else if starts ∧ (q.rqHead = q.rqTail ∨ cqRoom s p (qCq q) = false) then
    nakNow (count s kRdm p 7 1) p n 0x21
  else if starts ∧ bufPoison s p (qRqAddr q + 32 * q.rqHead) 32 then
    let s := cqReserve (bufTouch s p (qRqAddr q + 32 * q.rqHead) 32) p (qCq q)
    enterError (settleQp (nakNow (postRecv s q 0xFFFF stDeviceFault dtRdmDescriptor 0) p n 0x63) p n) p n false stDeviceFault 0
  else
    let e := if starts then recvEntry s q q.rqHead else ((q.inbound.map (fun b => b.entry.toNat)).getD 0)
    let got := (q.inbound.map (·.got)).getD 0
    let s :=
      if starts then cqReserve (setQp (bufTouch s p (qRqAddr q + 32 * q.rqHead) 32) { q with rqHead := (q.rqHead + 1) % qRq q }) p (qCq q)
      else s
    let id := fld e 0 0 16
    if starts ∧ recvOk s q e = false then
      -- an entry that names no buffer of the petal is consumed; the SEND finds no receive entry
      nakNow (count (postRecv s q id stNotPermitted dtRdmBuffer 0) kRdm p 7 1) p n 0x21
    else if fld e 4 0 32 < got + k.payload.length then
      let s := postRecv s q id stLengthError dtRecvLength got
      enterError (settleQp (nakNow (modQp s p n (fun q => { q with inbound := none })) p n 0x61) p n) p n false stLengthError 0
    else
      let r := bufWrite s p (qBind q) (fld e 8 0 64 + got) k.payload
      match r.2 with
      | some _ =>
        let s := postRecv r.1 q id stDeviceFault dtRdmAccelDma got
        enterError (settleQp (nakNow (modQp s p n (fun q => { q with inbound := none })) p n 0x63) p n) p n false stDeviceFault 0
      | none =>
        let b : Inbound := ⟨false, 0, 0, 0, BitVec.ofNat 256 e, got + k.payload.length, s.elapsed⟩
        let s := modQp r.1 p n (fun q => { q with inbound := if ends then none else some b })
        let s := if ends then messageDone (postRecv s q id stOk 0 (got + k.payload.length)) p n (got + k.payload.length) else s
        taken s p n k.ackReq 1

/-- R408, R410: a WRITE packet. -/
def takeWrite (s : State) (q : Qp) (k : RocePkt) : State :=
  let p := q.petal
  let n := q.num
  let op := k.opcode.toNat
  let starts := op == 0x06 || op == 0x0A
  let ends := op == 0x08 || op == 0x0A
  let left := if starts then k.dmaLen.toNat else (q.inbound.map (·.left)).getD 0
  if qData q = false ∨ starts ≠ q.inbound.isNone ∨ inSend q = true ∨
      (ends = false ∧ k.payload.length ≠ qMtu q) ∨ qMtu q < k.payload.length ∨ left < k.payload.length ∨
      (ends = true ∧ left ≠ k.payload.length) ∨ 2 ^ 31 < left then nakNow s p n 0x61
  else if starts ∧ k.dmaLen ≠ 0 ∧ keyAdmits s q k.rkey.toNat k.addr.toNat k.dmaLen.toNat true = false then denyAccess s p n
  else
    let at_ := if starts then k.addr.toNat else (q.inbound.map (·.addr)).getD 0
    let key := if starts then k.rkey else (q.inbound.map (·.key)).getD 0
    let total := (q.inbound.map (·.got)).getD 0 + k.payload.length
    let s := memPut s p at_ k.payload
    let b : Inbound := ⟨true, at_ + k.payload.length, key, left - k.payload.length, 0, total, s.elapsed⟩
    let s := modQp s p n (fun q => { q with inbound := if ends then none else some b })
    let s := if ends then messageDone s p n total else s
    taken s p n k.ackReq 1

/-- R408: a READ request; a duplicate one is served again (R414). -/
def takeRead (s : State) (q : Qp) (k : RocePkt) (dup : Bool) : State :=
  let p := q.petal
  let n := q.num
  let len := k.dmaLen.toNat
  if qData q = false ∨ (q.inbound.isSome ∧ dup = false) ∨ 2 ^ 31 < len then (if dup then s else nakNow s p n 0x61)
  else if len ≠ 0 ∧ keyAdmits s q k.rkey.toNat k.addr.toNat len false = false then (if dup then s else denyAccess s p n)
  else
    let s := if dup then s
      else
        let s := messageDone (taken s p n false (packets (qMtu q) len)) p n 0
        modQp s p n (fun q => { q with unacked := 0, unackedAt := none })
    modQp s p n (fun q => { q with owed := q.owed ++ [.read k.psn.toNat k.addr.toNat len 0 q.msn k.rkey.toNat] })

/-- R432: a foreign signal is counted and, at most once per port per second, logged. -/
def foreignSignal (s : State) (q : Qp) (k : RocePkt) (i : Nat) : State :=
  let s := count (count s kSyn q.petal 7 1) kSynDev 0 2 1
  let s := modPetal s q.petal (fun x => { x with lastBlocked := BitVec.ofNat 64 (i % 2 ^ 32 + 2 * 2 ^ 32) })
  match look s.rdma.foreignAt (qPort q) with
  | some t =>
    if elapsedAtLeast s t 1000000000 then
      logEvent { s with rdma := { s.rdma with foreignAt := put s.rdma.foreignAt (qPort q) s.elapsed } } 4 1 "foreign signal"
        (qPort q) noPetal (leBytes 16 k.src.toNat)
    else s
  | none =>
    logEvent { s with rdma := { s.rdma with foreignAt := put s.rdma.foreignAt (qPort q) s.elapsed } } 4 1 "foreign signal"
      (qPort q) noPetal (leBytes 16 k.src.toNat)

/-- R406, R432: does a REMOTE_SIGNAL pass the receiver's checks of bit, label and index? -/
def signalPasses (s : State) (q : Qp) (k : RocePkt) : Bool :=
  let label := leNat ((k.payload.drop 8).take 8)
  let i := k.imm.toNat % 2 ^ 16
  qSignal q && label != 0 && label == (lookD s.rdma.labels q.petal 0).toNat &&
    ((getPetal s q.petal).map (fun x => decide (i < recCounters x.record))).getD false

/-- R406, R432: a REMOTE_SIGNAL in order. -/
def takeSignal (s : State) (q : Qp) (k : RocePkt) : State :=
  let p := q.petal
  let n := q.num
  let i := k.imm.toNat % 2 ^ 16
  if k.imm.toNat / 2 ^ 16 ≠ 0x5347 ∨ k.payload.length ≠ 16 ∨ q.inbound.isSome then nakNow s p n 0x61
  else if signalPasses s q k = false then denyAccess (foreignSignal s q k i) p n
  else
    let r := applyUpdate s ⟨p, i, sInt 64 (leNat (k.payload.take 8))⟩
    if r.2 then
      taken (messageDone (count (count r.1 kRdm p 13 1) kSyn p 1 1) p n 16) p n k.ackReq 1
    else denyAccess r.1 p n

/-- R411: a CE-marked packet makes the responder send a CNP, at most once per 50 µs. -/
def markedCe (s : State) (p n : Nat) (k : RocePkt) : State :=
  if k.ce then
    match getQp s p n with
    | none => s
    | some q =>
      if (match q.lastCnp with | some t => elapsedAtLeast s t 50000 | none => true) then
        count (setQp s { q with owed := q.owed ++ [.cnp], lastCnp := some s.elapsed }) kRdm p 8 1
      else s
  else s

/-- R414, R416: the responder takes a request packet. -/
def takeRequest (s : State) (q : Qp) (k : RocePkt) : State :=
  let p := q.petal
  let n := q.num
  let op := k.opcode.toNat
  let s := markedCe s p n k
  let d := psnDiff k.psn.toNat q.ePsn
  let q := (getQp s p n).getD q
  if keyPresent s p = false then nakNow (count s kRdm p 7 1) p n 0x21
  else if d = 0 then
    let s := setQp s { q with gapNak := false }
    let q := { q with gapNak := false }
    if op = 0x05 then takeSignal s q k
    else if op = 0x0C then takeRead s q k false
    else if op = 0x00 ∨ op = 0x01 ∨ op = 0x02 ∨ op = 0x04 then takeSend s q k
    else if op = 0x06 ∨ op = 0x07 ∨ op = 0x08 ∨ op = 0x0A then takeWrite s q k
    else nakNow s p n 0x61
  else if d < 2 ^ 23 then
    if q.gapNak then s else nakNow (count (setQp s { q with gapNak := true }) kRdm p 6 1) p n 0x60
  else if op = 0x0C then takeRead s q k true
  else ackNow s p n

/-! ### Reception (R374, R395, R415) -/

/-- The kinds of packet that the commands take. -/
inductive PktKind
  | request | signal | ack | nak | cnp
  deriving DecidableEq, Repr

def pktKind (k : RocePkt) : PktKind :=
  let op := k.opcode.toNat
  if op = 0x81 then .cnp
  else if op = 0x0D ∨ op = 0x0E ∨ op = 0x0F ∨ op = 0x10 then .ack
  else if op = 0x11 then (if k.syndrome.toNat / 32 = 0 then .ack else .nak)
  else if op = 0x05 then .signal
  else .request

/-- The QP of the module that a packet names. -/
def qpOfWire (s : State) (wire : Nat) : Option Qp := (s.rdma.qps.find? (fun e => e.2.wireQpn == wire)).map (·.2)

/-- R395: is a packet that arrived on port j one that its QP processes? A QP in DESTROYING still finishes a begun message
(R400). -/
def accepts (s : State) (j : Nat) (q : Qp) (k : RocePkt) : Bool :=
  let e := qEntry s q
  (q.st == .ready || (q.st == .destroying && q.inbound.isSome)) && qPort q == j && bitAt e 12 && addrIp e == k.dst.toNat &&
    q.remoteIp == k.src && k.icrcOk

/-- A packet that its QP processes. -/
def applyPacket (s : State) (q : Qp) (f : RxFrame) : State :=
  let k := f.pkt
  let p := q.petal
  let s := count (modQp s p q.num (fun q => { q with lastUse := s.elapsed })) kPtl p 2 f.len
  let q := { q with lastUse := s.elapsed }
  let s :=
    match pktKind k with
    | .request => takeRequest s q k
    | .signal => takeRequest s q k
    | .cnp => congest s p q.num
    | .nak =>
      let s := if k.ce then congest s p q.num else s
      takeAck s ((getQp s p q.num).getD q) k
    | .ack =>
      let s := if k.ce then congest s p q.num else s
      let q := (getQp s p q.num).getD q
      if k.opcode = 0x11 then takeAck s q k else takeReadData s q k
  settleQp s p q.num

/-- Bytes of a petal in the miss buffer, and its share (R415). -/
def missBytes (s : State) (p : Nat) : Nat :=
  ((s.rdma.miss.filter (fun e => ((qpOfWire s e.2.pkt.destQp.toNat).map (·.petal)) == some p)).map (fun e => e.2.len)).foldl (· + ·) 0
def missShare (s : State) (p : Nat) : Nat :=
  max 65536 (4 * 2 ^ 20 * ((getPetal s p).map (fun x => recQpResident x.record)).getD 0 / 16384)
def missTotal (s : State) : Nat := (s.rdma.miss.map (fun e => e.2.len)).foldl (· + ·) 0

/-- R395, R415: a frame reaches the engine. -/
def receiveRoce (s : State) (j : Nat) (f : RxFrame) : State :=
  match qpOfWire s f.pkt.destQp.toNat with
  | none => s
  | some q =>
    if accepts s j q f.pkt = false then count s kRdm q.petal 14 1
    else if q.resident then applyPacket s q f
    else if missBytes s q.petal + f.len ≤ missShare s q.petal ∧ missTotal s + f.len ≤ 4 * 2 ^ 20 then
      { s with rdma := { s.rdma with miss := s.rdma.miss ++ [(j, f)] } }
    else count s kRdm q.petal 11 1

/-- R374: the frame that the engine takes next on a port: the oldest of its highest ingress queue that holds one. -/
def headIngress (s : State) (j : Nat) : Option (Nat × RxFrame) :=
  let x := getPort s j
  [7, 6, 5, 4, 3, 2, 1, 0].findSome? (fun q => ((x.ingress.toList[q]?).bind (fun g => g.frames.head?)).map (fun f => (q, f)))

/-- Takes the next frame of a port where it is of a kind. -/
def takeFrame (s : State) (j : Nat) (kind : PktKind) : State :=
  match headIngress s j with
  | none => s
  | some (q, f) =>
    if pktKind f.pkt = kind then
      receiveRoce (fresh (modPort s j (fun x => { x with ingress := modV x.ingress q (fun g => { g with frames := g.frames.drop 1 }) }))) j f
    else s

/-- RDM_PACKET_RECEIVE (R395, R414): the engine takes a request packet of a port. -/
def execRdmPacketReceive (j : Fin 32) (s : State) : Host.Outcome State Fault Refusal := .next (takeFrame s j.val .request)
/-- REMOTE_SIGNAL (R406): the engine takes a SEND Only with Immediate. -/
def execRemoteSignal (j : Fin 32) (s : State) : Host.Outcome State Fault Refusal := .next (takeFrame s j.val .signal)
/-- RDM_ACK_RECEIVE (R404): the engine takes an acknowledgement or a READ response. -/
def execRdmAckReceive (j : Fin 32) (s : State) : Host.Outcome State Fault Refusal := .next (takeFrame s j.val .ack)
/-- RDM_NAK_RECEIVE (R413, R417): the engine takes a NAK or an RNR NAK. -/
def execRdmNakReceive (j : Fin 32) (s : State) : Host.Outcome State Fault Refusal := .next (takeFrame s j.val .nak)
/-- CNP (R411): the engine takes a congestion notification packet. -/
def execCnp (j : Fin 32) (s : State) : Host.Outcome State Fault Refusal := .next (takeFrame s j.val .cnp)

/-! ### Timers -/

/-- R412: how long an attempt waits, in ns. -/
def attemptNs (q : Qp) : Nat := min (qTimeout q * 1000 * 2 ^ q.retries) 4000000

/-- RDM_RETRANSMIT_TIMEOUT (R412). -/
def execRdmRetransmitTimeout (p : PetalId) (n : BitVec 20) (s : State) : Host.Outcome State Fault Refusal :=
  .next (match getQp s p.val n.toNat with
    | some q =>
      match q.timer with
      | some t =>
        if q.st = .ready ∧ q.una < q.nxt ∧ elapsedAtLeast s t (attemptNs q) then
          goBack (shrink (count (fresh s) kRdm p.val 5 1) p.val n.toNat 4) p.val n.toNat
        else s
      | none => s
    | none => s)

/-- RDM_RNR_TIMER (R413): the wait of an RNR NAK ends and the message is sent again. -/
def execRdmRnrTimer (p : PetalId) (n : BitVec 20) (s : State) : Host.Outcome State Fault Refusal :=
  .next (match getQp s p.val n.toNat with
    | some q =>
      match q.rnrFrom with
      | some t =>
        if q.st = .ready ∧ elapsedAtLeast s t q.rnrWait then pumpQp (setQp (fresh s) { q with rnrFrom := none }) p.val n.toNat else s
      | none => s
    | none => s)

/-- RDM_ACK_TIMER (R414): 2 µs have passed since the last unacknowledged packet. -/
def execRdmAckTimer (p : PetalId) (n : BitVec 20) (s : State) : Host.Outcome State Fault Refusal :=
  .next (match getQp s p.val n.toNat with
    | some q =>
      match q.unackedAt with
      | some t => if elapsedAtLeast s t 2000 then settleQp (ackNow s p.val n.toNat) p.val n.toNat else s
      | none => s
    | none => s)

/-- RDM_MESSAGE_ABANDON (R410): a begun inbound message has received no packet for 100 ms. -/
def execRdmMessageAbandon (p : PetalId) (n : BitVec 20) (s : State) : Host.Outcome State Fault Refusal :=
  .next (match getQp s p.val n.toNat with
    | some q =>
      match q.inbound with
      | some b =>
        if elapsedAtLeast s b.since 100000000 then
          let s := if b.write then s else postRecv s q (fld b.entry.toNat 0 0 16) stDeviceFault dtAbandoned b.got
          let s := modQp s p.val n.toNat (fun q => { q with inbound := none })
          if q.st = .destroying then settleQp s p.val n.toNat
          else settleQp (enterError s p.val n.toNat false stDeviceFault dtAbandoned) p.val n.toNat
        else s
      | none => s
    | none => s)

/-! ### Contexts (R415) -/

/-- R415: a QP with unacknowledged sends or a begun inbound message is never evicted. -/
def evictable (q : Qp) : Bool := q.resident && q.una == q.top && q.wqes.isEmpty && q.inbound.isNone && q.owed.isEmpty && q.unacked == 0

def residents (s : State) (p : Nat) : List Qp := (s.rdma.qps.filter (fun e => e.2.petal == p && e.2.resident)).map (·.2)

/-- R415: is there a context slot for one more QP of the petal, perhaps after evicting the least recently used one? -/
def makeSlot (s : State) (p : Nat) : Option State :=
  let cap := ((getPetal s p).map (fun x => recQpResident x.record)).getD 0
  if (residents s p).length < cap then some s
  else (leastBy (fun q => q.lastUse.toNat) ((residents s p).filter evictable)).map (fun q => setQp s { q with resident := false })

/-- The frames of a QP in the miss buffer, in order, with the buffer without them. -/
def missOf (s : State) (wire : Nat) : List (Nat × RxFrame) := s.rdma.miss.filter (fun e => e.2.pkt.destQp.toNat == wire)

/-- R415: an evicted context is fetched; the frames that waited for it are processed in their order. -/
def fetchContext (s : State) (q : Qp) : State :=
  match makeSlot s q.petal with
  | none => s
  | some s =>
    let s := count (setQp s { q with resident := true, lastUse := s.elapsed }) kRdm q.petal 10 1
    let l := missOf s q.wireQpn
    let s := { s with rdma := { s.rdma with miss := s.rdma.miss.filter (fun e => e.2.pkt.destQp.toNat != q.wireQpn) } }
    l.foldl (fun s e => receiveRoce s e.1 e.2) s

/-- RDM_CONTEXT_FETCH (R415): the context of a QP that a frame or a doorbell waits for is fetched. -/
def execRdmContextFetch (p : PetalId) (n : BitVec 20) (s : State) : Host.Outcome State Fault Refusal :=
  .next (match getQp s p.val n.toNat with
    | some q =>
      if q.resident = false ∧ (missOf s q.wireQpn ≠ [] ∨ q.sqHead ≠ q.sqTail) then fetchContext (fresh s) q else s
    | none => s)

/-- R278: a petal with fewer context slots evicts what it can. -/
def fitResident : Nat → State → Nat → Nat → State
  | 0, s, _, _ => s
  | k + 1, s, p, cap =>
    if (residents s p).length ≤ cap then s
    else
      match leastBy (fun q => q.lastUse.toNat) ((residents s p).filter evictable) with
      | some q => fitResident k (setQp s { q with resident := false }) p cap
      | none => s

/-! ### ETH_FRAME_TRANSMIT (R375) -/

/-- Sources that waited for room in an egress queue go on (R375). -/
def pumpAll (s : State) (j : Nat) : State :=
  (s.rdma.qps.map (·.2)).foldl (fun s q => if qPort q = j then settleQp (pumpQp s q.petal q.num) q.petal q.num else s) s

/-- ETH_FRAME_TRANSMIT (R375, R376): a port whose link is up starts one frame, of the petal line that R282 selects. -/
def execEthFrameTransmit (j : Fin 32) (pick : Fin 512) (s : State) : Host.Outcome State Fault Refusal :=
  .next (if (getPort s j.val).link = 2 then pumpAll (transmit (fresh s) j.val pick.val) j.val else s)

end Sys2Proof.Machine
end

