-- ==== Sys2Proof/Machine/RdmaCmd.lean ====
section
/-!
DEFINITION. The RDMA commands and doorbells, the acceptance and validation of send entries, and memory regions (R394 to R410).
-/

namespace Sys2Proof.Machine

/-! ### RDM_ADDR_SET, RDM_LABEL_SET (R394, R396) -/

def cmdRdmAddrSet : Cmd :=
  ⟨0x0740, .device, true, 0x30, false,
   [(0x10, 0, 5), (0x10, 8, 6), (0x10, 16, 12), (0x14, 0, 10), (0x18, 0, 128), (0x28, 0, 48)], noObj⟩
def bodyRdmAddrSet (m : Mbx) (s : State) : State × Ans :=
  if (511 < mf m 0x14 0 10 ∧ mf m 0x14 0 10 ≠ 0x3FF) ∨ (mf m 0x10 13 1 = 0 ∧ mf m 0x1C 0 96 ≠ 0) then
    (s, ansErr stInvalidArgument 0)
  else stageItem 0x0740 m s
/-- RDM_ADDR_SET (R394). -/
def execRdmAddrSet (m : Mbx) (s : State) : Host.Outcome State Fault Refusal := .next (mailbox cmdRdmAddrSet bodyRdmAddrSet m s)

/-- R394: what a commit does with a staged address entry; none where it changes one that a QP uses. -/
def applyAddr (i : Staged) (s : State) : Option State :=
  let k := sf i.payload 0x10 0 5 * 16 + sf i.payload 0x10 8 4
  let e := BitVec.ofNat 256 (sf i.payload 0x10 0 256)
  if lookD s.net.addrs k 0 ≠ e ∧ s.rdma.qps.any (fun q => 16 * qPort q.2 + qAddr q.2 == k) then none
  else some { s with net := { s.net with addrs := put s.net.addrs k e } }

def cmdRdmLabelSet : Cmd := ⟨0x0741, .own, true, 0x18, false, [(0x10, 0, 64)], noObj⟩
def bodyRdmLabelSet (m : Mbx) (s : State) : State × Ans :=
  ({ s with rdma := { s.rdma with labels := put s.rdma.labels m.page.val (BitVec.ofNat 64 (mf m 0x10 0 64)) } }, ansOk)
/-- RDM_LABEL_SET (R396). -/
def execRdmLabelSet (m : Mbx) (s : State) : Host.Outcome State Fault Refusal := .next (mailbox cmdRdmLabelSet bodyRdmLabelSet m s)

/-! ### Rings and buffers (R345 row 6) -/

/-- A ring's PDA range, where it lies in petal memory. -/
def pdaRing (addr n : Nat) : List (Nat × Nat) := match bufAddr addr with | .pda a => [(a, n)] | _ => []

/-- The PDA ranges of a ring pair. -/
def pairRanges (r : Ring) (entry : Nat) : List (Nat × Nat) :=
  pdaRing r.sqPda (entry * 2 ^ r.sqLog) ++ pdaRing r.cqPda (32 * 2 ^ r.cqLog)

/-- The PDA ranges of every ring of a petal. -/
def ringRanges (s : State) (p : Nat) : List (Nat × Nat) :=
  (match getPetal s p with
   | some x => x.queues.flatMap (fun e => [(e.2.sqPda, 64 * 2 ^ e.2.sqLog), (e.2.cqPda, 32 * 2 ^ e.2.cqLog)])
   | none => []) ++
  (s.rdma.cqs.filter (fun e => e.1 / 4096 == p)).flatMap (fun e => pdaRing (cqAddr e.2) (32 * cqSize e.2)) ++
  (s.rdma.qps.filter (fun e => e.2.petal == p)).flatMap (fun e =>
    pdaRing (qSqAddr e.2) (64 * qSq e.2) ++ (if qRq e.2 = 0 then [] else pdaRing (qRqAddr e.2) (32 * qRq e.2))) ++
  (s.comms.filter (fun e => e.2.petal == p)).flatMap (fun e => pairRanges e.2.ring 256) ++
  (s.cphQs.filter (fun e => e.1 / 64 == p)).flatMap (fun e => pairRanges e.2.ring 128) ++
  (s.sclQps.filter (fun e => e.2.petal == p)).flatMap (fun e => pairRanges e.2.ring 64) ++
  (s.ctxs.filter (fun e => e.2.petal == p)).flatMap (fun e => e.2.rings.flatMap (fun r => pairRanges r.2.ring r.2.entryBytes))

/-- R345 row 6: may a petal name a buffer: inside its memory and off its rings, or on the bus under a binding, aligned? -/
def bufferOk (s : State) (p bind addr n : Nat) : Bool :=
  bufOk s p bind addr n && addr % 64 == 0 &&
    (match bufAddr addr with | .pda a => !(ringRanges s p).any (fun r => overlaps a n r.1 r.2) | _ => true)

/-- R345 row 6 for a ring that a command creates. -/
def ringOk (s : State) (p bind addr n : Nat) : Bool := bufOk s p bind addr n && addr % 64 == 0

/-- A binding field: an index, or none. -/
def bindField (b : Nat) : Bool := decide (b < 4) || b == 0xF

/-! ### Completion queues (R396, R397) -/

def okCq : Nat := 4

def cmdRdmCqCreate : Cmd :=
  ⟨0x0750, .own, true, 0x20, false, [(0x10, 0, 12), (0x10, 16, 4), (0x14, 0, 8), (0x14, 16, 16), (0x18, 0, 64)],
   fun m => some (okCq, mf m 0x10 0 12)⟩
def bodyRdmCqCreate (m : Mbx) (s : State) : State × Ans :=
  let p := m.page.val
  let n := mf m 0x10 0 12
  let b := mf m 0x10 16 4
  let l := mf m 0x14 0 8
  if (getCq s p n).isSome then (s, ansErr stInvalidArgument dtCqExists)
  else if bindField b = false ∨ l < 4 ∨ 16 < l then (s, ansErr stInvalidArgument 0)
  else if ringOk s p b (mf m 0x18 0 64) (32 * 2 ^ l) = false then (s, ansErr stNotPermitted dtRdmBuffer)
  else if vectorOf s p (mf m 0x14 16 16) = false then (s, ansErr stNotPermitted 0)
  else (setCq s p n ⟨BitVec.ofNat 192 (mf m 0x10 0 192), 0, 0, 0, 0, 0, true⟩, ansOk)
/-- RDM_CQ_CREATE (R397). -/
def execRdmCqCreate (m : Mbx) (s : State) : Host.Outcome State Fault Refusal := .next (mailbox cmdRdmCqCreate bodyRdmCqCreate m s)

def cmdRdmCqDestroy : Cmd := ⟨0x0751, .own, true, 0x14, false, [(0x10, 0, 12)], fun m => some (okCq, mf m 0x10 0 12)⟩
def bodyRdmCqDestroy (m : Mbx) (s : State) : State × Ans :=
  let p := m.page.val
  let n := mf m 0x10 0 12
  if (getCq s p n).isNone then (s, ansErr stNotFound 0)
  else if s.rdma.qps.any (fun e => e.2.petal == p && qCq e.2 == n) then (s, ansErr stBusy dtCqInUse)
  else ({ s with rdma := { s.rdma with cqs := del s.rdma.cqs (cqKey p n) } }, ansOk)
/-- RDM_CQ_DESTROY (R396). -/
def execRdmCqDestroy (m : Mbx) (s : State) : Host.Outcome State Fault Refusal :=
  .next (mailbox cmdRdmCqDestroy bodyRdmCqDestroy m s)

/-! ### Queue pairs (R398 to R400) -/

def qpObj (m : Mbx) : Option (Nat × Nat) := some (okQp, mf m 0x10 0 20)

/-- R393: a wire QPN is free where no QP has it and it does not rest. -/
def wireFree (s : State) (w : Nat) : Bool :=
  (qpOfWire s w).isNone && !s.rdma.resting.any (fun e => e.1 == w && decide (s.elapsed.toNat < e.2.toNat))

/-- R393: the first free wire QPN from a starting point on, in 0x000100 to 0xFFFFFF. -/
def pickWire (s : State) : Nat → Nat → Nat
  | 0, w => w
  | k + 1, w => if wireFree s w then w else pickWire s k (if w = 0xFFFFFF then 0x100 else w + 1)

/-- R398: a request's own fields. -/
def qpFieldsOk (m : Mbx) : Bool :=
  bindField (mf m 0x14 12 4) && decide (4 ≤ mf m 0x14 16 4) && decide (mf m 0x14 16 4 ≤ 12) &&
  (decide (4 ≤ mf m 0x14 20 4 ∧ mf m 0x14 20 4 ≤ 12) || (mf m 0x14 20 4 == 0 && mf m 0x14 28 1 == 0)) &&
  mf m 0x14 30 2 != 3 && decide (8 ≤ mf m 0x18 16 16) && decide (mf m 0x18 16 16 ≤ 4000)

/-- R398: the checks of RDM_QP_CREATE. -/
def qpCreateCheck (s : State) (m : Mbx) (x : Petal) : Option (Nat × Nat) :=
  let p := m.page.val
  let n := mf m 0x10 0 20
  let e := (lookD s.net.addrs (16 * mf m 0x10 24 5 + mf m 0x10 20 4) 0).toNat
  let b := mf m 0x14 12 4
  if (getQp s p n).isSome then some (stInvalidArgument, dtQpExists)
  else if recQpTotal x.record ≤ n then some (stNotPermitted, 0)
  else if recQpResident x.record = 0 then some (stNoResources, 0)
  else if qpFieldsOk m = false then some (stInvalidArgument, 0)
  else if bitAt e 12 = false ∨ (addrOwner e ≠ p ∧ addrOwner e ≠ 0x3FF) then some (stNotPermitted, dtAddrOwner)
  else if (getCq s p (mf m 0x14 0 12)).isNone then some (stNotFound, 0)
  else if ringOk s p b (mf m 0x20 0 64) (64 * 2 ^ mf m 0x14 16 4) = false ∨
      (mf m 0x14 20 4 ≠ 0 ∧ ringOk s p b (mf m 0x28 0 64) (32 * 2 ^ mf m 0x14 20 4) = false) then
    some (stNotPermitted, dtRdmBuffer)
  else none

/-- A QP at creation (R398, R411). -/
def newQp (m : Mbx) (wire psn : Nat) (now : W64) : Qp where
  petal := m.page.val
  num := mf m 0x10 0 20
  cfg := BitVec.ofNat 256 (mf m 0x10 0 256)
  st := .created
  wireQpn := wire
  startPsn := psn
  remoteQpn := 0
  remoteIp := 0
  sqHead := 0
  sqTail := 0
  rqHead := 0
  rqTail := 0
  wqes := []
  una := 0
  nxt := 0
  top := 0
  high := 0
  window := 262144
  sinceDec := none
  retries := 0
  rnrRetries := 0
  timer := none
  rnrFrom := none
  rnrWait := 0
  ePsn := 0
  msn := 0
  inbound := none
  gapNak := false
  unacked := 0
  unackedAt := none
  lastCnp := none
  owed := []
  resident := false
  lastUse := now

def cmdRdmQpCreate : Cmd :=
  ⟨0x0760, .own, true, 0x30, false,
   [(0x10, 0, 29), (0x14, 0, 32), (0x18, 0, 6), (0x18, 8, 3), (0x18, 16, 16), (0x20, 0, 128)], qpObj⟩
/-- R398: the wire QPN is free in the module and the starting PSN random; both are free values. A new context is resident where
a slot is free. -/
def bodyRdmQpCreate (m : Mbx) (s : State) : State × Ans :=
  match getPetal s m.page.val with
  | none => (s, ansErr stNotFound 0)
  | some x =>
    match qpCreateCheck s m x with
    | some e => (s, ansErr e.1 e.2)
    | none =>
      let s := fresh s
      let wire := pickWire s (s.rdma.qps.length + s.rdma.resting.length + 1) (0x100 + freeVal s 0 % (0x1000000 - 0x100))
      let q := newQp m wire (freeVal s 1 % 2 ^ 24) s.elapsed
      let room := decide ((residents s q.petal).length < recQpResident x.record)
      (setQp s { q with resident := room }, .reply (replyData (wire + q.startPsn * 2 ^ 32) 8))
/-- RDM_QP_CREATE (R398). -/
def execRdmQpCreate (m : Mbx) (s : State) : Host.Outcome State Fault Refusal := .next (mailbox cmdRdmQpCreate bodyRdmQpCreate m s)

def cmdRdmQpConnect : Cmd :=
  ⟨0x0761, .own, true, 0x30, false, [(0x10, 0, 20), (0x14, 0, 24), (0x18, 0, 24), (0x20, 0, 128)], qpObj⟩
/-- R399: does an address have the family of the QP's entry? An IPv4 address has zero in its other bits. -/
def familyOk (s : State) (q : Qp) (ip : Nat) : Bool := addrV6 (qEntry s q) != decide (ip < 2 ^ 32)
def bodyRdmQpConnect (m : Mbx) (s : State) : State × Ans :=
  match getQp s m.page.val (mf m 0x10 0 20) with
  | none => (s, ansErr stNotFound 0)
  | some q =>
    if q.st ≠ .created ∨ familyOk s q (mf m 0x20 0 128) = false then (s, ansErr stInvalidArgument dtQpState)
    else
      (setQp s { q with
        st := .ready, remoteQpn := mf m 0x14 0 24, ePsn := mf m 0x18 0 24, remoteIp := BitVec.ofNat 128 (mf m 0x20 0 128) }, ansOk)
/-- RDM_QP_CONNECT (R399). -/
def execRdmQpConnect (m : Mbx) (s : State) : Host.Outcome State Fault Refusal :=
  .next (mailbox cmdRdmQpConnect bodyRdmQpConnect m s)

/-- R400: a QP enters DESTROYING: its accepted send entries flush; a begun inbound message finishes. -/
def closeQp (s : State) (q : Qp) : State :=
  let s := q.wqes.foldl (fun s w => completeSend s q w stAborted dtFlushed 0)
    (setQp s { q with st := .destroying, wqes := [], timer := none, rnrFrom := none })
  settleQp s q.petal q.num

def cmdRdmQpDestroy : Cmd := ⟨0x0762, .own, true, 0x14, false, [(0x10, 0, 20)], qpObj⟩
def bodyRdmQpDestroy (m : Mbx) (s : State) : State × Ans :=
  let p := m.page.val
  let n := mf m 0x10 0 20
  match getQp s p n with
  | none => (s, ansErr stNotFound 0)
  | some q =>
    let s := closeQp s q
    (s, if (getQp s p n).isSome then .pend (.objEnd p okQp n) else ansOk)
/-- RDM_QP_DESTROY (R400). -/
def execRdmQpDestroy (m : Mbx) (s : State) : Host.Outcome State Fault Refusal :=
  .next (mailbox cmdRdmQpDestroy bodyRdmQpDestroy m s)

/-- The state code of RDM_QP_QUERY, in the order of R400. -/
def QpSt.code : QpSt → Nat
  | .created => 0 | .ready => 1 | .error => 2 | .destroying => 3

/-- R396 names what RDM_QP_QUERY returns and gives no layout; the model packs state, retry count, wire QPN, next PSN, window. -/
def qpQueryReply (q : Qp) : Reply :=
  replyData (q.st.code + q.retries % 256 * 2 ^ 8 + q.wireQpn * 2 ^ 32 + wirePsn q q.nxt * 2 ^ 64 + q.window % 2 ^ 32 * 2 ^ 96) 16

def cmdRdmQpQuery : Cmd := ⟨0x0763, .own, false, 0x14, false, [(0x10, 0, 20)], noObj⟩
def bodyRdmQpQuery (m : Mbx) (s : State) : State × Ans :=
  match getQp s m.page.val (mf m 0x10 0 20) with
  | none => (s, ansErr stNotFound 0)
  | some q => (s, .reply (qpQueryReply q))
/-- RDM_QP_QUERY (R396). -/
def execRdmQpQuery (m : Mbx) (s : State) : Host.Outcome State Fault Refusal := .next (mailbox cmdRdmQpQuery bodyRdmQpQuery m s)

/-! ### Memory regions (R407 to R410) -/

def petalRegions (s : State) (p : Nat) : Nat := (s.rdma.regions.filter (fun e => e.1 / 65536 == p)).length

/-- The lowest region index of a petal that is free. -/
def freeRegion (s : State) (p : Nat) : Nat :=
  ((List.range (petalRegions s p + 1)).find? (fun i => (look s.rdma.regions (regionKey p i)).isNone)).getD 0

/-- R144, R407: does R144 forbid the place pins: are both tiers at their limits for some page? -/
def placeFits (x : Petal) (pages : List Nat) : Bool :=
  decide ((x.pins.length + (pages.filter (fun g => !pinned x g)).length) ≤ petalPages x)

def cmdRdmMrReg : Cmd := ⟨0x0770, .own, true, 0x24, false, [(0x10, 0, 48), (0x18, 0, 48), (0x20, 0, 2)], noObj⟩
def bodyRdmMrReg (m : Mbx) (s : State) : State × Ans :=
  let p := m.page.val
  let base := mf m 0x10 0 48
  let len := mf m 0x18 0 48
  match getPetal s p with
  | none => (s, ansErr stNotFound 0)
  | some x =>
    if base % 64 ≠ 0 ∨ len % 64 ≠ 0 ∨ len < 64 ∨ slotsOf x * 2 ^ 30 < base + len then (s, ansErr stInvalidArgument 0)
    else if 65536 ≤ petalRegions s p ∨ 262144 ≤ s.rdma.regions.length then (s, ansErr stNoResources dtMrLimit)
    else if placeFits x (rangePages base len) = false then (s, ansErr stNoResources dtPinLimit)
    else
      let i := freeRegion s p
      let v := lookD s.rdma.variants (regionKey p i) 0
      let s := (rangePages base len).foldl (fun s g => placePin (settlePage s p g) p g) s
      let s := { s with rdma := { s.rdma with
        regions := put s.rdma.regions (regionKey p i) ⟨base, len, mf m 0x20 0 1 == 1, mf m 0x20 1 1 == 1, v, false⟩ } }
      let r := replyData (keyOf i v) 4
      (s, if placeMoves x (rangePages base len) then .late .work r else .reply r)
/-- RDM_MR_REG (R407). -/
def execRdmMrReg (m : Mbx) (s : State) : Host.Outcome State Fault Refusal := .next (mailbox cmdRdmMrReg bodyRdmMrReg m s)

def cmdRdmMrDereg : Cmd := ⟨0x0771, .own, true, 0x14, false, [(0x10, 0, 32)], fun m => some (okRegion, mf m 0x10 0 32)⟩
def bodyRdmMrDereg (m : Mbx) (s : State) : State × Ans :=
  let p := m.page.val
  let key := mf m 0x10 0 32
  let idx := key / 256
  match (if idx < 65536 then look s.rdma.regions (regionKey p idx) else none) with
  | none => (s, ansErr stNotFound dtKeyUnknown)
  | some r =>
    if r.variant ≠ key % 256 ∨ r.closing then (s, ansErr stNotFound dtKeyUnknown)
    else
      let s := endRegions { s with rdma := { s.rdma with regions := put s.rdma.regions (regionKey p idx) { r with closing := true } } } p
      (s, if (look s.rdma.regions (regionKey p idx)).isSome then .pend (.objEnd p okRegion idx) else ansOk)
/-- RDM_MR_DEREG (R410). -/
def execRdmMrDereg (m : Mbx) (s : State) : Host.Outcome State Fault Refusal := .next (mailbox cmdRdmMrDereg bodyRdmMrDereg m s)

/-! ### Doorbells (R401) -/

/-- R401: an ignored doorbell write is counted, saturating. -/
def rdmIgnored (s : State) (p : Nat) : State :=
  { s with rdma := { s.rdma with ignored := put s.rdma.ignored p (min 0xFFFFFFFF (lookD s.rdma.ignored p 0 + 1)) } }

/-- A new ring tail: none where R169 ignores it. -/
def newTail (head tail size v : Nat) : Option Nat :=
  if size ≤ v then none
  else if (v + size - head) % size < (tail + size - head) % size then none
  else some v

/-- R400: entries offered to a QP in ERROR are flushed. -/
def flushOffered (s : State) (p n : Nat) : State :=
  match getQp s p n with
  | some q => if q.st = .error then flushRings (qSq q + qRq q) s p n else s
  | none => s

/-- The effect of the doorbell. -/
def rdmSqDb (p : PetalId) (v : W32) (s : State) : State :=
  if (getPetal s p.val).isNone then s else
    match getQp s p.val (bitsOf v.toNat 0 20) with
    | none => rdmIgnored s p.val
    | some q =>
      match newTail q.sqHead q.sqTail (qSq q) (bitsOf v.toNat 20 12) with
      | some t => flushOffered (setQp (fresh s) { q with sqTail := t }) p.val q.num
      | none => rdmIgnored s p.val
/-- RDM_SQ_DB (R401). -/
def execRdmSqDb (p : PetalId) (v : W32) (s : State) : Host.Outcome State Fault Refusal := .next (rdmSqDb p v (awake s))

/-- The effect of the doorbell. -/
def rdmRqDb (p : PetalId) (v : W32) (s : State) : State :=
  if (getPetal s p.val).isNone then s else
    match getQp s p.val (bitsOf v.toNat 0 20) with
    | none => rdmIgnored s p.val
    | some q =>
      match (if qRq q = 0 then none else newTail q.rqHead q.rqTail (qRq q) (bitsOf v.toNat 20 12)) with
      | some t => flushOffered (setQp (fresh s) { q with rqTail := t }) p.val q.num
      | none => rdmIgnored s p.val
/-- RDM_RQ_DB (R401). -/
def execRdmRqDb (p : PetalId) (v : W32) (s : State) : Host.Outcome State Fault Refusal := .next (rdmRqDb p v (awake s))

/-- The effect of the doorbell. -/
def rdmCqDb (p : PetalId) (v : W32) (s : State) : State :=
  if (getPetal s p.val).isNone then s else
    match getCq s p.val (bitsOf v.toNat 0 12) with
    | none => rdmIgnored s p.val
    | some c =>
      let h := bitsOf v.toNat 16 16
      let d := (h + cqSize c - c.cqHead) % cqSize c
      if cqSize c ≤ h ∨ c.used < d then rdmIgnored s p.val
      else setCq s p.val (bitsOf v.toNat 0 12) { c with cqHead := h, used := c.used - d }
/-- RDM_CQ_DB (R401). -/
def execRdmCqDb (p : PetalId) (v : W32) (s : State) : Host.Outcome State Fault Refusal := .next (rdmCqDb p v (awake s))

/-! ### Send entries (R402) -/

/-- R402, R4: are the reserved bits of a send entry zero, and the fields that its op does not use? -/
def weReserved (e : Nat) : Bool :=
  let op := fld e 0 0 8
  fld e 0 11 5 == 0 && fld e 0 29 3 == 0 && fld e 0x1E 0 16 == 0 && fld e 0x30 0 128 == 0 &&
  ((op != 1 && op != 2) || (fld e 0x1C 0 16 == 0 && fld e 0x20 0 64 == 0)) &&
  (op != 3 || (fld e 0x10 0 64 == 0 && fld e 0x18 0 32 == 0 && fld e 0x1C 0 16 == 0 && fld e 0x20 0 64 == 0)) &&
  (op != 4 || (fld e 0x10 0 64 == 0 && fld e 0x18 0 32 == 0))

/-- R402: OP_FORM. -/
def weForm (q : Qp) (e : Nat) : Bool :=
  let len := fld e 4 0 32
  match fld e 0 0 8 with
  | 1 => qData q && decide (len ≤ 2 ^ 31)
  | 2 => qData q && decide (len ≤ 2 ^ 31)
  | 3 => qControl q && decide (len ≤ 65536)
  | 4 => qSignal q && len == 0
  | _ => false

/-- R402, R406: the checks of a send entry in order. -/
def weCheck (s : State) (q : Qp) (x : Petal) (e : Nat) : Option (Nat × Nat) :=
  let tag := fld e 0 16 13
  let op := fld e 0 0 8
  let inc := fld e 0x2C 0 32
  if weReserved e = false then some (stInvalidArgument, dtRdmReserved)
  else if recTags x.record ≤ tag then some (stInvalidArgument, dtRdmTagRange)
  else if tagHeld x tag then some (stInvalidArgument, dtRdmTagInUse)
  else if weForm q e = false then some (stInvalidArgument, dtRdmOpForm)
  else if op ≠ 4 ∧ bufferOk s q.petal (qBind q) (fld e 8 0 64) (fld e 4 0 32) = false then some (stNotPermitted, dtRdmBuffer)
  else if fld e 0 8 1 = 1 ∧ (recCounters x.record ≤ fld e 0x28 0 32 ∨ inc = 0 ∨ 2 ^ 31 ≤ inc) then
    some (stNotPermitted, dtRdmCounter)
  else if op = 4 ∧ lookD s.rdma.labels q.petal 0 = 0 then some (stNotPermitted, dtLabelUnset)
  else none

/-- The send entry that an accepted ring entry makes. -/
def wqeOf (q : Qp) (e : Nat) (fail : Option (Nat × Nat)) : Wqe where
  raw := BitVec.ofNat 512 e
  tag := fld e 0 16 13
  op := fld e 0 0 8
  len := fld e 4 0 32
  local_ := BitVec.ofNat 64 (fld e 8 0 64)
  remote := BitVec.ofNat 64 (fld e 0x10 0 64)
  rkey := BitVec.ofNat 32 (fld e 0x18 0 32)
  first := q.top
  count := if fail.isSome then 0 else packets (qMtu q) (fld e 4 0 32)
  got := 0
  fail := fail

/-- R402, R404: the next offered send entry is accepted, validated and begun. -/
def startSend (s : State) (q : Qp) (x : Petal) : State :=
  let p := q.petal
  let e := sendEntry s q q.sqHead
  let at_ := qSqAddr q + 64 * q.sqHead
  let s := cqReserve (bufTouch (setQp s { q with sqHead := (q.sqHead + 1) % qSq q, lastUse := s.elapsed }) p at_ 64) p (qCq q)
  if bufPoison s p at_ 64 then
    enterError (postCq s p (qCq q) 0xFFFF stDeviceFault (q.num * 2 ^ 32) dtRdmDescriptor) p q.num false stDeviceFault 0
  else
    match bufWhy s p (qBind q) at_ false with
    | some st => enterError (postCq s p (qCq q) 0xFFFF st (q.num * 2 ^ 32) dtRdmAccelDma) p q.num false st 0
    | none =>
      let fail := weCheck s q x e
      let w := wqeOf q e fail
      let s := modQp s p q.num (fun q => { q with wqes := q.wqes ++ [w], top := q.top + w.count })
      if fail.isSome then postSends s p q.num
      else
        let s := holdTag s p w.tag .rdma
        let s := if w.op = 1 ∨ w.op = 3 then dmaIssue s p (qBind q) w.local_.toNat w.tag else s
        pumpQp s p q.num

/-- R402, R404: may a QP accept its next send entry? A fence waits for every earlier READ. -/
def sendReady (s : State) (q : Qp) (x : Petal) : Bool :=
  x.st == .active && q.st == .ready && q.resident && q.sqHead != q.sqTail && cqRoom s q.petal (qCq q) && keyPresent s q.petal &&
    !(bitAt (sendEntry s q q.sqHead) 10 && q.wqes.any (fun w => w.op == 2 && w.fail.isNone))

/-- RDM_SEND_START (R404): a QP accepts its next send entry and its packets go on the wire; packets that waited for room or for
data go on. -/
def execRdmSendStart (p : PetalId) (n : BitVec 20) (s : State) : Host.Outcome State Fault Refusal :=
  .next (match getPetal s p.val, getQp s p.val n.toNat with
    | some x, some q =>
      let s := fresh s
      if sendReady s q x then startSend s q x
      else if q.st = .error then flushOffered s p.val n.toNat
      else pumpQp s p.val n.toNat
    | _, _ => s)

/-! ### RESET_PETAL and DESTROY_PETAL (R280, R281, R409) -/

/-- The QPs, queues and registrations of a petal go; with `discard` nothing is written for them. -/
def removeRdma (s : State) (p : Nat) (discard : Bool) : State :=
  let mine := (s.rdma.qps.filter (fun e => e.2.petal == p)).map (·.2)
  let s := if discard then s else mine.foldl (fun s q => flushAccepted s q) s
  let s := (s.rdma.regions.filter (fun e => e.1 / 65536 == p)).foldl (fun s e =>
    let s := (rangePages e.2.base e.2.len).foldl (fun s g => unplacePin s p g) s
    { s with rdma := { s.rdma with variants := put s.rdma.variants e.1 ((e.2.variant + 1) % 256) } }) s
  let wires := mine.map (·.wireQpn)
  { s with rdma := { s.rdma with
      qps := s.rdma.qps.filter (fun e => e.2.petal != p)
      cqs := s.rdma.cqs.filter (fun e => e.1 / 4096 != p)
      regions := s.rdma.regions.filter (fun e => e.1 / 65536 != p)
      named := s.rdma.named.filter (fun e => e.1 / 2 ^ 20 != p)
      whole := put s.rdma.whole p ((lookD s.rdma.whole p 0 + 1) % 256)
      labels := if discard then del s.rdma.labels p else s.rdma.labels
      ignored := if discard then del s.rdma.ignored p else s.rdma.ignored
      resting := s.rdma.resting ++ wires.map (fun w => (w, s.elapsed + 1000000000))
      miss := s.rdma.miss.filter (fun e => !wires.contains e.2.pkt.destQp.toNat) } }

/-- R277: RDMA work of a petal in progress: begun sends, a begun inbound message, packets owed. -/
def rdmaRunning (s : State) (p : Nat) : Bool :=
  s.rdma.qps.any (fun e => e.2.petal == p && (!e.2.wqes.isEmpty || e.2.inbound.isSome || !e.2.owed.isEmpty))

/-- R276: the sends of a petal's QPs are stopped: they end with ABORTED as those of a flushed QP do. -/
def stopRdma (s : State) (p : Nat) : State :=
  (s.rdma.qps.filter (fun e => e.2.petal == p && e.2.st == .ready && (!e.2.wqes.isEmpty || e.2.inbound.isSome))).foldl
    (fun s e => enterError s p e.2.num false stAborted dtFlushed) s

end Sys2Proof.Machine
end

