-- ==== Sys2Proof/Machine/Scroll.lean ====
section
/-!
DEFINITION. Scroll storage queues (R338 to R361): queue pairs, volumes with their write-back caches, commands, freezes, self-tests.
What a target answers comes from outside and is an operand of the command that waits for it.
-/

namespace Sys2Proof.Machine

/-! ### Detail codes (R361) -/
def dtSclQpExists : Nat := 0x80
def dtSclGeometry : Nat := 0x81
def dtVolExists : Nat := 0x82
def dtVolUnknown : Nat := 0x83
def dtVolInUse : Nat := 0x84
def dtLbaRange : Nat := 0x85
def dtSclBuffer : Nat := 0x86
def dtBackConnect : Nat := 0x87
def dtBackFormat : Nat := 0x88
def dtBackIo : Nat := 0x89
def dtSclUncorrectable : Nat := 0x8A
def dtSclAccelDma : Nat := 0x8B
def dtQpNotFrozen : Nat := 0x8C
def dtRestartHead : Nat := 0x8D
def dtCmdAborted : Nat := 0x8E
def dtSclTagRange : Nat := 0x8F
def dtSclTagInUse : Nat := 0x90
def dtSclOpForm : Nat := 0x91
def dtSclKeySlot : Nat := 0x92
def dtSelfTestBusy : Nat := 0x93
def dtSclDescriptor : Nat := 0x94
def dtSclReserved : Nat := 0x95
def dtSclCounter : Nat := 0x96

def okSclQp : Nat := 8
def okVol : Nat := 13
def okVolTest : Nat := 14

def sclKey (p n : Nat) : Nat := p * 4096 + n
def getScl (s : State) (p n : Nat) : Option SclQp := look s.sclQps (sclKey p n)
def setScl (s : State) (q : SclQp) : State := { s with sclQps := put s.sclQps (sclKey q.petal q.num) q }
def modScl (s : State) (p n : Nat) (f : SclQp → SclQp) : State := { s with sclQps := upd s.sclQps (sclKey p n) f }
def volKey (p n : Nat) : Nat := p * 256 + n
def getVol (s : State) (p n : Nat) : Option Vol := look s.vols (volKey p n)
def setVol (s : State) (v : Vol) : State := { s with vols := put s.vols (volKey v.petal v.num) v }
def modVol (s : State) (p n : Nat) (f : Vol → Vol) : State := { s with vols := upd s.vols (volKey p n) f }
def findScl (s : State) (p tag : Nat) : Option SclCmd := s.sclCmds.find? (fun c => c.petal == p && c.tag == tag)
def sclOf (s : State) (p n : Nat) : List SclCmd := s.sclCmds.filter (fun c => c.petal == p && c.qp == n)

/-! ### The entry (R342) -/

def seOp (e : Nat) : Nat := fld e 0 0 8
def seSig (e : Nat) : Bool := fld e 0 8 1 == 1
def seFua (e : Nat) : Bool := fld e 0 9 1 == 1
def seWait (e : Nat) : Bool := fld e 0 10 1 == 1
def seTag (e : Nat) : Nat := fld e 0 16 13
def seVol (e : Nat) : Nat := fld e 4 0 8
def seLba (e : Nat) : Nat := fld e 8 0 64
def seBlocks (e : Nat) : Nat := fld e 0x10 0 32
def seCounter (e : Nat) : Nat := fld e 0x14 0 32
def seBuf (e : Nat) : Nat := fld e 0x18 0 64
def seDest (e : Nat) : Nat := fld e 0x20 0 64
def seInc (e : Nat) : Nat := fld e 0x28 0 32
def seWaitCtr (e : Nat) : Nat := fld e 0x2C 0 32
def seWaitVal (e : Nat) : Nat := fld e 0x30 0 64

def sRead : Nat := 1
def sWrite : Nat := 2
def sFlush : Nat := 3
def sTrim : Nat := 4
def sCopy : Nat := 5
def sFence : Nat := 6

/-- The operation of an accepted command. -/
def scOp (c : SclCmd) : Nat := seOp c.raw.toNat

/-- Does a command name a volume? A FENCE names none. -/
def namesVol (c : SclCmd) (p v : Nat) : Bool := c.petal == p && scOp c != sFence && seVol c.raw.toNat == v

/-- R353, R356: the accepted commands of a volume. -/
def volCmds (s : State) (p v : Nat) : List SclCmd := s.sclCmds.filter (fun c => namesVol c p v)

/-! ### Volumes (R353) -/

def vfld (v : Vol) (byte bit w : Nat) : Nat := fld v.req.toNat (byte - 16) bit w
def vSlot (v : Vol) : Nat := vfld v 0x10 16 16
def vMib (v : Vol) : Nat := vfld v 0x14 0 32
def vCache (v : Vol) : Nat := vfld v 0x18 0 48
def vTable (v : Vol) : Nat := vfld v 0x20 0 48
def vW1 (v : Vol) : Nat := vfld v 0x28 0 16
def vW2 (v : Vol) : Nat := vfld v 0x28 16 16
def vHigh (v : Vol) : Nat := vfld v 0x2C 0 8
def vLow (v : Vol) : Nat := vfld v 0x2C 8 8
/-- Cache blocks. -/
def vBlocks (v : Vol) : Nat := vMib v * 256
def xQp (x : BitVec 512) : Nat := fld x.toNat 0 0 20
def xBlocks (x : BitVec 512) : Nat := fld x.toNat 0x10 0 64
def vCapacity (v : Vol) : Nat := (v.exts.map xBlocks).foldl (· + ·) 0
/-- The PDA ranges that a volume uses: cache and extent table (R278). -/
def volRanges (v : Vol) : List (Nat × Nat) := [(vCache v, vMib v * 2 ^ 20), (vTable v, 64 * v.exts.length)]

def volReady (v : Vol) : Bool := !v.connecting && !v.closing
def dirtyCount (v : Vol) : Nat := (v.cache.filter (fun e => e.2.dirty)).length

/-- A volume is in use: it is at W0, and its idle time begins anew (R358). -/
def noteUse (s : State) (p n : Nat) : State := modVol s p n (fun v => { v with level := 0, idleAt := s.elapsed })
/-- Its idle time begins anew; the level stays. -/
def noteIdle (s : State) (p n : Nat) : State := modVol s p n (fun v => { v with idleAt := s.elapsed })

/-- R355: does every extent's QP still carry requests? -/
def backed (s : State) (v : Vol) : Bool := v.exts.all (fun x => ((getQp s v.petal (xQp x)).map (·.st)) == some .ready)

/-- R355: commands go to every extent of a volume. -/
def sendNvme (s : State) (v : Vol) (command : Nat) : State :=
  { s with sent := s.sent ++ (List.range v.exts.length).map (fun i => Out.nvme v.petal v.num i command) }

/-! ### Blocks (R354) -/

/-- The XTS key of a volume. -/
def volXts (s : State) (v : Vol) : List Byte :=
  (((getPetal s v.petal).bind (fun x => slotKey x (vSlot v) 2)).map (fun k => keyBytes k 64)).getD []

/-- The PDA of a cached block. -/
def cachedAt (v : Vol) (b : CBlk) : Nat := vCache v + 4096 * b.slot

/-- The first place of the cache from a place on that holds no block. -/
def pickPlace (v : Vol) : Nat → Nat → Nat
  | 0, k => k
  | n + 1, k => if v.cache.any (fun e => e.2.slot == k) then pickPlace v n ((k + 1) % vBlocks v) else k

/-- R354: room for one more block: the cache as it is, or without its least recently used clean block; none where every block
is dirty. -/
def makeRoom (v : Vol) : Option Vol :=
  if v.cache.length < vBlocks v then some v
  else (leastBy (fun e => e.2.used) (v.cache.filter (fun e => !e.2.dirty))).map (fun e => { v with cache := del v.cache e.1 })

/-- A block enters the cache with its contents. Which free place it takes is the service's. -/
def insertBlock (s : State) (p n b : Nat) (dirty : Bool) (bytes : List Byte) : State :=
  match getVol s p n with
  | none => s
  | some v =>
    match look v.cache b with
    | some k =>
      let s := setVol s { v with cache := put v.cache b { k with dirty := k.dirty || dirty, used := v.clock }, clock := v.clock + 1 }
      memPut s p (cachedAt v k) bytes
    | none =>
      match makeRoom v with
      | none => s
      | some v =>
        let k : CBlk := ⟨pickPlace v v.cache.length (freeVal s (2 ^ 100 + b) % max 1 (vBlocks v)), dirty, v.clock⟩
        memPut (setVol s { v with cache := put v.cache b k, clock := v.clock + 1 }) p (cachedAt v k) bytes

/-- The ciphertext of a block on the target; what the device has not written is the target's. -/
def targetBytes (s : State) (v : Vol) (b : Nat) : List Byte :=
  loadBytes v.target (fun k => Config.foreign s.freeCtr (volKey v.petal v.num * 2 ^ 80 + k)) (4096 * b) 4096

/-- R354, R355: reads a block: from the cache, or by a fill that decrypts it and keeps it clean. -/
def readBlock (s : State) (p n b : Nat) : State × List Byte :=
  match getVol s p n with
  | none => (s, [])
  | some v =>
    match look v.cache b with
    | some k =>
      let s := setVol s { v with cache := put v.cache b { k with used := v.clock }, clock := v.clock + 1 }
      (touch s p (cachedAt v k) 4096, memRead s p (cachedAt v k) 4096)
    | none =>
      let key := volXts s v
      let pt := xts true (key.take 32) (key.drop 32) b (targetBytes s v b)
      (insertBlock s p n b false pt, pt)

/-- Reads blocks in order. -/
def readBlocks : Nat → State → Nat → Nat → Nat → State × List Byte
  | 0, s, _, _, _ => (s, [])
  | k + 1, s, p, n, b =>
    let r := readBlock s p n b
    let t := readBlocks k r.1 p n (b + 1)
    (t.1, r.2 ++ t.2)

/-- Writes blocks in order and marks them dirty. -/
def writeBlocks : Nat → State → Nat → Nat → Nat → List Byte → State
  | 0, s, _, _, _, _ => s
  | k + 1, s, p, n, b, bs => writeBlocks k (insertBlock s p n b true (bs.take 4096)) p n (b + 1) (bs.drop 4096)

/-- Does a cached block in a range read uncorrectable? -/
def cacheBad (s : State) (v : Vol) (b k : Nat) : Bool :=
  v.cache.any (fun e => decide (b ≤ e.1) && decide (e.1 < b + k) && (poisonIn s v.petal (cachedAt v e.2) 4096).isSome)

/-- Is a block of a range missing from the cache? -/
def missing (v : Vol) (b k : Nat) : Bool := decide ((v.cache.filter (fun e => decide (b ≤ e.1) && decide (e.1 < b + k))).length < k)

/-- R354: can the blocks of a range all become dirty now? -/
def roomFor (v : Vol) (b k : Nat) : Bool :=
  decide ((v.cache.filter (fun e => e.2.dirty && !(decide (b ≤ e.1) && decide (e.1 < b + k)))).length + k ≤ vBlocks v)

/-- R354: one dirty block goes to its target, encrypted. -/
def destageBlock (s : State) (p n b : Nat) : State :=
  match getVol s p n with
  | none => s
  | some v =>
    match look v.cache b with
    | none => s
    | some k =>
      let key := volXts s v
      let ct := xts false (key.take 32) (key.drop 32) b (memRead s p (cachedAt v k) 4096)
      touch (setVol s { v with cache := put v.cache b { k with dirty := false }, target := storeBytes v.target (4096 * b) ct })
        p (cachedAt v k) 4096

/-- The dirty blocks of a volume that read well, least recently used first. -/
def dirtyBlocks (s : State) (v : Vol) : List Nat :=
  (sortBy (fun e => e.2.used) (v.cache.filter (fun e => e.2.dirty && (poisonIn s v.petal (cachedAt v e.2) 4096).isNone))).map (·.1)

/-- R355: a destage of blocks: with the targets' consent they are written; otherwise they stay dirty and the failure is counted. -/
def destage (s : State) (p n : Nat) (blocks : List Nat) (ok : Bool) : State :=
  match getVol s p n with
  | none => s
  | some v =>
    if blocks = [] then s
    else if ok && backed s v then
      let s := sendNvme (modVol s p n (fun v => { v with failedAt := none })) v 3
      noteIdle (blocks.foldl (fun s b => destageBlock s p n b) s) p n
    else modVol s p n (fun v => { v with failedAt := some s.elapsed, failures := v.failures + 1 })

/-! ### Queue pairs (R339) -/

def cmdSclQpCreate : Cmd :=
  ⟨0x0600, .own, true, 0x28, false, [(0x10, 0, 12), (0x10, 16, 4), (0x14, 0, 32), (0x18, 0, 64), (0x20, 0, 64)],
   fun m => some (okSclQp, mf m 0x10 0 12)⟩
/-- R339: the geometry: log2 fields, alignment, and rings in petal memory apart. -/
def sclRingsFit (m : Mbx) : Bool :=
  let sq := mf m 0x14 0 8
  let cq := mf m 0x14 8 8
  decide (4 ≤ sq) && decide (sq ≤ 16) && decide (sq ≤ cq) && decide (cq ≤ 16) &&
  mf m 0x18 0 64 % 64 == 0 && mf m 0x20 0 64 % 64 == 0 &&
  !(match bufAddr (mf m 0x18 0 64), bufAddr (mf m 0x20 0 64) with
    | .pda a, .pda b => overlaps a (64 * 2 ^ sq) b (32 * 2 ^ cq)
    | _, _ => false)
def bodySclQpCreate (m : Mbx) (s : State) : State × Ans :=
  let p := m.page.val
  let n := mf m 0x10 0 12
  let b := mf m 0x10 16 4
  match getPetal s p with
  | none => (s, ansErr stNotFound 0)
  | some x =>
    if (getScl s p n).isSome then (s, ansErr stInvalidArgument dtSclQpExists)
    else if recScroll x.record ≤ n then (s, ansErr stNotPermitted 0)
    else if bindField b = false then (s, ansErr stInvalidArgument 0)
    else if sclRingsFit m = false then (s, ansErr stInvalidArgument dtSclGeometry)
    else if bufOk s p b (mf m 0x18 0 64) (64 * 2 ^ mf m 0x14 0 8) = false ∨
        bufOk s p b (mf m 0x20 0 64) (32 * 2 ^ mf m 0x14 8 8) = false then (s, ansErr stNotPermitted dtSclBuffer)
    else if vectorOf s p (mf m 0x14 16 16) = false then (s, ansErr stNotPermitted 0)
    else (setScl s ⟨p, n, b, Ring.new (mf m 0x14 0 8) (mf m 0x14 8 8) (mf m 0x18 0 64) (mf m 0x20 0 64) (mf m 0x14 16 16), false, none⟩, ansOk)
/-- SCL_QP_CREATE (R339). -/
def execSclQpCreate (m : Mbx) (s : State) : Host.Outcome State Fault Refusal := .next (mailbox cmdSclQpCreate bodySclQpCreate m s)

/-! ### The doorbell (R340) -/

/-- R340: a write that is ignored is counted, to 0xFFFFFFFF. -/
def sclIgnore (s : State) (p : Nat) : State :=
  { s with sclIgnored := put s.sclIgnored p (min 0xFFFFFFFF (lookD s.sclIgnored p 0 + 1)) }

/-- R340: a write to SCL_DB of a petal. -/
def sclDoorbell (s : State) (p qp rsv index : Nat) (head : Bool) : State :=
  if (getPetal s p).isNone then s
  else
    match getScl s p qp with
    | none => sclIgnore s p
    | some q =>
      match (if rsv ≠ 0 then none else if head then ringHead q.ring index else ringTail q.ring index) with
      | some r => setScl s { q with ring := r }
      | none => sclIgnore s p

/-- The effect of the doorbell. -/
def sclDbSqTail (p : PetalId) (qp : BitVec 12) (rsv : BitVec 3) (index : BitVec 16) (s : State) : State :=
  sclDoorbell s p.val qp.toNat rsv.toNat index.toNat false
/-- SCL_DB_SQ_TAIL (R340): a write with kind 0; `rsv` is bits [15:13]. -/
def execSclDbSqTail (p : PetalId) (qp : BitVec 12) (rsv : BitVec 3) (index : BitVec 16) (s : State) : Host.Outcome State Fault Refusal := .next (sclDbSqTail p qp rsv index (awake s))

/-- The effect of the doorbell. -/
def sclDbCqHead (p : PetalId) (qp : BitVec 12) (rsv : BitVec 3) (index : BitVec 16) (s : State) : State :=
  sclDoorbell s p.val qp.toNat rsv.toNat index.toNat true
/-- SCL_DB_CQ_HEAD (R340): a write with kind 1. -/
def execSclDbCqHead (p : PetalId) (qp : BitVec 12) (rsv : BitVec 3) (index : BitVec 16) (s : State) : Host.Outcome State Fault Refusal := .next (sclDbCqHead p qp rsv index (awake s))

/-! ### Completion, freeze (R344, R348, R349) -/

/-- R341: sq_head: the oldest accepted command that has not begun, or the acceptance point. -/
def sqHeadOf (s : State) (q : SclQp) : Nat :=
  match (sclOf s q.petal q.num).find? (fun c => c.begun.isNone) with
  | some c => c.index
  | none => q.ring.sqHead

/-- R349: a queue pair freezes: what has not begun is not executed. `cause` is the command that froze it, whose fate is known. -/
def freezeScl (s : State) (q : SclQp) (cause : SclCmd) (status detail fate : Nat) : State :=
  let mine := sclOf s q.petal q.num
  let waiting := mine.filter (fun c => c.begun.isNone)
  let first := sqHeadOf s q
  let entry (c : SclCmd) (fate : Nat) : Nat × Nat × Nat × Nat := (c.index, c.tag, scOp c, fate)
  let pos (e : Nat × Nat × Nat × Nat) : Nat := (e.1 + 2 ^ q.ring.sqLog - (q.ring.sqHead % 2 ^ q.ring.sqLog)) % 2 ^ q.ring.sqLog
  let list := sortBy pos (entry cause fate :: mine.map (fun c => entry c (if c.begun.isSome then 1 else 0)))
  let s := waiting.foldl (fun s c => freeTag s c.petal c.tag) s
  let s := { s with sclCmds := s.sclCmds.filter (fun c => !(c.petal == q.petal && c.qp == q.num && c.begun.isNone)) }
  let s := modScl s q.petal q.num (fun q =>
    { q with
      frozen := true
      log := some ⟨cause.index, cause.tag, status, detail, first, s.elapsed, list⟩
      ring := { q.ring with sqHead := first, reserved := q.ring.reserved - waiting.length } })
  waiting.foldl (fun s c => noteIdle s c.petal (seVol c.raw.toNat)) s

/-- R350: the fate of a begun command of a frozen queue. -/
def noteFate (s : State) (p n index fate : Nat) : State :=
  modScl s p n (fun q =>
    if q.frozen then { q with log := q.log.map (fun l => { l with entries := l.entries.map (fun e =>
      if e.1 = index ∧ e.2.2.2 = 1 then (e.1, e.2.1, e.2.2.1, fate) else e) }) }
    else q)

/-- R344, R360: posts a command's record; the answer says whether a lease expiry withheld it. -/
def sclPost (s : State) (p n tag status blocks detail : Nat) : State × Bool :=
  match getScl s p n with
  | none => (s, false)
  | some q =>
    let r := ringPostBus s p q.bind q.ring n tag status (sqHeadOf s q + blocks % 2 ^ 32 * 2 ^ 32) detail
    (setScl r.1 { q with ring := r.2.1 }, r.2.2 == some stLeaseExpired)

/-- R338: a queue pair whose destruction has begun goes with its last command. -/
def endScl (s : State) (p n : Nat) : State :=
  match getScl s p n with
  | some q =>
    if q.ring.closing && (sclOf s p n).isEmpty then
      resolve { s with sclQps := del s.sclQps (sclKey p n) } (.objEnd p okSclQp n) replyOk
    else s
  | none => s

/-- R348: does a completion freeze its queue? -/
def freezes (status detail : Nat) : Bool := status != stOk && status != stAlreadyComplete && !(status == stAborted && detail == dtCmdAborted)

/-- R344, R348: the completion of a command that is no longer among the accepted ones. -/
def closeScl (s : State) (c : SclCmd) (status blocks detail : Nat) : State :=
  let e := c.raw.toNat
  let fate := if status = stOk then 2 else 3
  let s := noteFate s c.petal c.qp c.index fate
  let r := sclPost s c.petal c.qp (if detail = dtSclDescriptor then 0xFFFF else c.tag) status blocks detail
  let s := if status = stOk ∧ seSig e ∧ r.2 = false then signal r.1 c.petal (seCounter e) (seInc e) else r.1
  match getScl s c.petal c.qp with
  | none => s
  | some q =>
    if q.frozen || q.ring.closing then s
    else if freezes status detail then freezeScl s q c status detail fate
    else if r.2 then freezeScl s q c stLeaseExpired 0 fate
    else s

/-- R344: an accepted command completes: record, counter add, tag release. -/
def finishScl (s : State) (c : SclCmd) (status blocks detail : Nat) : State :=
  let s := { s with sclCmds := s.sclCmds.filter (fun x => !(x.petal == c.petal && x.tag == c.tag)) }
  let s := closeScl s c status blocks detail
  let s := dmaForget (freeTag s c.petal c.tag) c.petal c.tag
  let s := if scOp c = sFence then s else noteIdle s c.petal (seVol c.raw.toNat)
  endScl (resolveTask s c.petal c.tag) c.petal c.qp

/-! ### Acceptance (R341, R345) -/

/-- R345, check 1: the reserved fields, and those that R342 sets to zero for the opcode. A reserved opcode is left to check 3. -/
def sclReserved (e : Nat) : Bool :=
  let op := seOp e
  let z (on : Bool) (v : Nat) : Bool := on || v == 0
  fld e 0 11 5 == 0 && fld e 0 29 3 == 0 && fld e 4 8 24 == 0 && fld e 0x38 0 64 == 0 &&
  z (op == sWrite) (b2n (seFua e)) && z (op == sFence) (b2n (seWait e)) && z (op != sFence) (seVol e) &&
  z (op == sRead || op == sWrite || op == sTrim || op == sCopy) (seLba e) &&
  z (op == sRead || op == sWrite || op == sTrim || op == sCopy) (seBlocks e) &&
  z (op == sRead || op == sWrite) (seBuf e) && z (op == sCopy) (seDest e)

/-- R345, check 3. -/
def sclForm (e : Nat) : Bool :=
  let op := seOp e
  let n := seBlocks e
  decide (1 ≤ op) && decide (op ≤ 6) &&
  (if op = sRead ∨ op = sWrite ∨ op = sCopy then decide (1 ≤ n) && decide (n ≤ 4096)
   else if op = sTrim then decide (1 ≤ n) && decide (n ≤ 65536) else true)

/-- R345, check 5. -/
def sclRange (v : Vol) (e : Nat) : Bool :=
  let op := seOp e
  let n := seBlocks e
  (op == sFlush || decide (seLba e + n ≤ vCapacity v)) &&
  (op != sCopy || (decide (seDest e + n ≤ vCapacity v) && !overlaps (seLba e) n (seDest e) n))

/-- R345, check 6. -/
def sclBufferOk (s : State) (q : SclQp) (v : Vol) (e : Nat) : Bool :=
  if seOp e = sRead ∨ seOp e = sWrite then
    bufferOk s q.petal q.bind (seBuf e) (4096 * seBlocks e) &&
      (match bufAddr (seBuf e) with | .pda a => !overlaps a (4096 * seBlocks e) (vCache v) (vMib v * 2 ^ 20) | _ => true)
  else true

/-- R345: the checks of an entry in order. -/
def sclCheck (s : State) (q : SclQp) (x : Petal) (e : Nat) : Option (Nat × Nat) :=
  if sclReserved e = false then some (stInvalidArgument, dtSclReserved)
  else if recTags x.record ≤ seTag e then some (stInvalidArgument, dtSclTagRange)
  else if tagHeld x (seTag e) then some (stInvalidArgument, dtSclTagInUse)
  else if sclForm e = false then some (stInvalidArgument, dtSclOpForm)
  else
    let counters : Option (Nat × Nat) :=
      if (seSig e ∧ (recCounters x.record ≤ seCounter e ∨ seInc e = 0 ∨ 2 ^ 31 ≤ seInc e)) ∨
          (seWait e ∧ recCounters x.record ≤ seWaitCtr e) then some (stNotPermitted, dtSclCounter) else none
    if seOp e = sFence then counters
    else
      match getVol s q.petal (seVol e) with
      | none => some (stNotFound, dtVolUnknown)
      | some v =>
        if volReady v = false then some (stNotFound, dtVolUnknown)
        else if sclRange v e = false then some (stInvalidArgument, dtLbaRange)
        else if sclBufferOk s q v e = false then some (stNotPermitted, dtSclBuffer)
        else counters

/-- R357: a command on a volume pre-empts its self-test. -/
def yieldTest (s : State) (p n : Nat) : State :=
  modVol s p n (fun v => { v with test := v.test.map (fun t => { t with yielded := true }) })

/-- R341: takes the next entry of a queue pair and validates it. -/
def acceptScl (s : State) (q : SclQp) (x : Petal) : State :=
  let s := fresh s
  let p := q.petal
  let at_ := q.ring.sqPda + 64 * q.ring.sqHead
  let e := leNat (bufRead s p q.bind at_ 64)
  let c : SclCmd := ⟨p, q.num, seTag e, q.ring.sqHead, BitVec.ofNat 512 e, none⟩
  let s := bufTouch (setScl s { q with ring := ringTake q.ring }) p at_ 64
  if bufPoison s p at_ 64 then closeScl s c stDeviceFault 0 dtSclDescriptor
  else
    match bufWhy s p q.bind at_ false with
    | some st => closeScl s c st 0 dtSclAccelDma
    | none =>
      match sclCheck s q x e with
      | some f => closeScl s c f.1 0 f.2
      | none =>
        let s := { holdTag s p (seTag e) .scroll with sclCmds := s.sclCmds ++ [c] }
        if seOp e = sFence then s else yieldTest (noteUse s p (seVol e)) p (seVol e)

/-- R341, R349: may a queue pair accept its next entry? -/
def sclAcceptable (q : SclQp) (x : Petal) : Bool :=
  x.st == .active && !q.frozen && !q.ring.closing && decide (0 < ringOffered q.ring) && ringFree q.ring

/-- SCL_CMD_ACCEPT (R341, R345). -/
def execSclCmdAccept (p : PetalId) (n : BitVec 12) (s : State) : Host.Outcome State Fault Refusal :=
  .next (match getPetal s p.val, getScl s p.val n.toNat with
    | some x, some q => if sclAcceptable q x then acceptScl s q x else s
    | _, _ => s)

/-! ### Order (R346) -/

/-- The block ranges that a command reads and writes. -/
def sclReads (e : Nat) : List (Nat × Nat) := if seOp e = sRead ∨ seOp e = sCopy then [(seLba e, seBlocks e)] else []
def sclWrites (e : Nat) : List (Nat × Nat) :=
  if seOp e = sWrite ∨ seOp e = sTrim then [(seLba e, seBlocks e)]
  else if seOp e = sCopy then [(seDest e, seBlocks e)] else []

def rangesMeet (a b : List (Nat × Nat)) : Bool := a.any (fun x => b.any (fun y => overlaps x.1 x.2 y.1 y.2))

/-- R346: must a later command of a queue wait for an earlier one? -/
def sclWaitsFor (later earlier : Nat) : Bool :=
  seOp earlier == sFence ||
  (seOp later != sFence && seVol later == seVol earlier &&
    (rangesMeet (sclWrites later) (sclReads earlier ++ sclWrites earlier) || rangesMeet (sclReads later) (sclWrites earlier)))

/-- The commands of its queue that were accepted before a command and have not completed. -/
def sclBefore (s : State) (c : SclCmd) : List SclCmd := (sclOf s c.petal c.qp).takeWhile (fun x => x.tag != c.tag)

/-- R341, R346: may a command begin? A FENCE never does. -/
def sclMayBegin (s : State) (c : SclCmd) : Bool :=
  c.begun.isNone && scOp c != sFence && (sclBefore s c).all (fun x => !sclWaitsFor c.raw.toNat x.raw.toNat)

/-- A command begins: the read of a bus buffer is issued. -/
def beginScl (s : State) (c : SclCmd) (q : SclQp) : State :=
  let s := { s with sclCmds := s.sclCmds.map (fun x => if x.petal = c.petal ∧ x.tag = c.tag then { x with begun := some s.elapsed } else x) }
  if scOp c = sWrite then dmaIssue s c.petal q.bind (seBuf c.raw.toNat) c.tag else s

/-- SCL_CMD_BEGIN (R341, R346). -/
def execSclCmdBegin (p : PetalId) (tag : BitVec 13) (s : State) : Host.Outcome State Fault Refusal :=
  .next (match findScl s p.val tag.toNat, getPetal s p.val with
    | some c, some x =>
      match getScl s p.val c.qp with
      | some q => if sclMayBegin s c = true ∧ x.st = .active ∧ keyPresent s p.val = true then beginScl s c q else s
      | none => s
    | _, _ => s)

/-! ### The commands (R343) -/

/-- R355: does a begun command need the targets' answer? -/
def needsTarget (v : Vol) (e : Nat) : Bool :=
  if seOp e = sRead ∨ seOp e = sCopy then missing v (seLba e) (seBlocks e)
  else seOp e == sFlush || seOp e == sTrim || (seOp e == sWrite && seFua e)

/-- R343, R354: is a begun command able to complete: its read of a bus buffer done, its blocks with room, and for a FLUSH the
earlier writes of its own queue done? -/
def sclCanEnd (s : State) (c : SclCmd) (v : Vol) : Bool :=
  let e := c.raw.toNat
  !dmaPending s c.petal c.tag &&
  (seOp e != sWrite || roomFor v (seLba e) (seBlocks e)) && (seOp e != sCopy || roomFor v (seDest e) (seBlocks e)) &&
  (seOp e != sFlush || (sclBefore s c).all (fun x => !(namesVol x c.petal v.num && !(sclWrites x.raw.toNat).isEmpty)))

/-- The failure that a begun command meets. -/
def sclTrouble (s : State) (c : SclCmd) (q : SclQp) (v : Vol) (ok : Bool) : Option (Nat × Nat) :=
  let e := c.raw.toNat
  let n := seBlocks e
  if dmaFailed s c.petal c.tag then some (stDeviceFault, dtSclAccelDma)
  else if seOp e = sRead ∨ seOp e = sWrite then
    match bufWhy s c.petal q.bind (seBuf e) (seOp e == sRead) with
    | some st => some (st, dtSclAccelDma)
    | none =>
      if (seOp e = sRead ∧ cacheBad s v (seLba e) n) ∨ (seOp e = sWrite ∧ bufPoison s c.petal (seBuf e) (4096 * n)) then
        some (stDeviceFault, dtSclUncorrectable)
      else if needsTarget v e ∧ (ok = false ∨ backed s v = false ∨ (seOp e = sWrite ∧ v.failedAt.isSome)) then some (stDeviceFault, dtBackIo)
      else none
  else if (seOp e = sCopy ∧ cacheBad s v (seLba e) n) ∨ (seOp e = sFlush ∧ v.cache.any (fun b => b.2.dirty && (poisonIn s v.petal (cachedAt v b.2) 4096).isSome)) then
    some (stDeviceFault, dtSclUncorrectable)
  else if needsTarget v e ∧ (ok = false ∨ backed s v = false ∨ (seOp e = sFlush ∧ v.failedAt.isSome)) then some (stDeviceFault, dtBackIo)
  else none

/-- The reads that meet an uncorrectable line: a WRITE's buffer, or cached blocks. -/
def readBad (s : State) (c : SclCmd) (v : Vol) : State :=
  let e := c.raw.toNat
  if seOp e = sWrite then bufTouch s c.petal (seBuf e) (4096 * seBlocks e)
  else (v.cache.filter (fun b => seOp e == sFlush || (decide (seLba e ≤ b.1) && decide (b.1 < seLba e + seBlocks e)))).foldl
    (fun s b => touch s c.petal (cachedAt v b.2) 4096) s

/-- The effect of a READ. -/
def runRead (s : State) (c : SclCmd) (q : SclQp) : State :=
  let e := c.raw.toNat
  let r := readBlocks (seBlocks e) s c.petal (seVol e) (seLba e)
  (bufWrite r.1 c.petal q.bind (seBuf e) r.2).1

/-- The effect of a WRITE; with fua its blocks go on to the target. -/
def runWrite (s : State) (c : SclCmd) (q : SclQp) : State :=
  let e := c.raw.toNat
  let n := seBlocks e
  let bytes := bufRead s c.petal q.bind (seBuf e) (4096 * n)
  let s := writeBlocks n (bufTouch s c.petal (seBuf e) (4096 * n)) c.petal (seVol e) (seLba e) bytes
  if seFua e then destage s c.petal (seVol e) (List.range' (seLba e) n) true else s

/-- The effect of a FLUSH: every dirty block goes to its target, then Flush to every extent. -/
def runFlush (s : State) (p n : Nat) : State :=
  match getVol s p n with
  | none => s
  | some v => sendNvme (destage s p n (dirtyBlocks s v) true) v 4

/-- The effect of a TRIM: the blocks leave the cache, and their extents are told to deallocate them. -/
def runTrim (s : State) (c : SclCmd) (v : Vol) : State :=
  let b := seLba c.raw.toNat
  let n := seBlocks c.raw.toNat
  sendNvme (setVol s { v with
    cache := v.cache.filter (fun e => !(decide (b ≤ e.1) && decide (e.1 < b + n)))
    target := dropCells v.target (4096 * b) (4096 * n) }) v 5

/-- The effect of a COPY. -/
def runCopy (s : State) (c : SclCmd) : State :=
  let e := c.raw.toNat
  let r := readBlocks (seBlocks e) s c.petal (seVol e) (seLba e)
  writeBlocks (seBlocks e) r.1 c.petal (seVol e) (seDest e) r.2

/-- R343: the effect of a begun command that succeeds. -/
def runScl (s : State) (c : SclCmd) (q : SclQp) (v : Vol) : State :=
  if scOp c = sRead then runRead s c q
  else if scOp c = sWrite then runWrite s c q
  else if scOp c = sFlush then runFlush s c.petal v.num
  else if scOp c = sTrim then runTrim s c v
  else runCopy s c

/-- R344, R352: what a command that fails has done: a free number of its blocks, below all of them, and a READ's buffer is
unspecified. A fua WRITE whose destage fails has its blocks in the cache, dirty (R355). -/
def spoilScl (s : State) (c : SclCmd) (q : SclQp) (detail : Nat) : State × Nat :=
  let e := c.raw.toNat
  let k := if scOp c = sWrite ∧ detail = dtBackIo then seBlocks e else freeVal s 0 % max 1 (seBlocks e)
  let bytes (n : Nat) : List Byte := (List.range n).map (fun i => BitVec.ofNat 8 (freeVal s (2 ^ 120 + i)))
  if scOp c = sRead then ((bufWrite s c.petal q.bind (seBuf e) (bytes (4096 * seBlocks e))).1, k)
  else if scOp c = sWrite ∧ bufWhy s c.petal q.bind (seBuf e) false = none ∧ dmaFailed s c.petal c.tag = false then
    (writeBlocks k s c.petal (seVol e) (seLba e) (bufRead s c.petal q.bind (seBuf e) (4096 * k)), k)
  else (s, 0)

/-- R355: a FLUSH or fua WRITE whose target fails leaves its blocks dirty, and the failure is counted. -/
def noteDestageFail (s : State) (c : SclCmd) (detail : Nat) : State :=
  if detail = dtBackIo ∧ (scOp c = sFlush ∨ scOp c = sWrite) then
    modVol s c.petal (seVol c.raw.toNat) (fun v =>
      if v.failedAt.isSome then v else { v with failedAt := some s.elapsed, failures := v.failures + 1 })
  else s

/-- A begun command fails. -/
def failScl (s : State) (c : SclCmd) (q : SclQp) (status detail : Nat) : State :=
  let r := spoilScl (noteDestageFail s c detail) c q detail
  finishScl r.1 c status r.2 detail

/-- The blocks of a command that succeeds: transferred, trimmed or copied. -/
def sclDone (c : SclCmd) : Nat := if scOp c = sFlush ∨ scOp c = sFence then 0 else seBlocks c.raw.toNat

/-- R343: a FENCE is done once it is the oldest of its queue and its counter condition holds. -/
def fenceDone (s : State) (c : SclCmd) : Bool :=
  let e := c.raw.toNat
  (sclBefore s c).isEmpty &&
  (!seWait e || ((getPetal s c.petal).map (fun x => decide (sInt 64 (seWaitVal e) ≤ (counterVal x (seWaitCtr e)).toInt))).getD false)

/-- R343: a command completes; `ok` is what the targets answer where it needs them. -/
def completeScl (s : State) (c : SclCmd) (q : SclQp) (ok : Bool) : State :=
  let s := fresh s
  if scOp c = sFence then (if fenceDone s c then finishScl s c stOk 0 0 else s)
  else
    match getVol s c.petal (seVol c.raw.toNat) with
    | none => s
    | some v =>
      if c.begun.isNone || !sclCanEnd s c v then s
      else
        match sclTrouble s c q v ok with
        | some f => failScl (if f.2 = dtSclUncorrectable then readBad s c v else s) c q f.1 f.2
        | none => finishScl (runScl s c q v) c stOk (sclDone c) 0

/-- SCL_CMD_COMPLETE (R343, R344). -/
def execSclCmdComplete (p : PetalId) (tag : BitVec 13) (ok : Bool) (s : State) : Host.Outcome State Fault Refusal :=
  .next (match findScl s p.val tag.toNat with
    | some c => match getScl s p.val c.qp with
      | some q => completeScl s c q ok
      | none => s
    | none => s)

/-- SCL_TARGET_TIMEOUT (R355): a target command of a begun command exceeds 8 s. -/
def execSclTargetTimeout (p : PetalId) (tag : BitVec 13) (s : State) : Host.Outcome State Fault Refusal :=
  .next (match findScl s p.val tag.toNat with
    | some c =>
      match getScl s p.val c.qp, getVol s p.val (seVol c.raw.toNat), c.begun with
      | some q, some v, some t =>
        if needsTarget v c.raw.toNat = true ∧ (scOp c = sWrite → sclCanEnd s c v = true) ∧ elapsedAtLeast s t 8000000000 = true then
          failScl (fresh s) c q stDeviceFault dtBackIo else s
      | _, _, _ => s
    | none => s)

/-! ### SCL_ABORT (R352) and SCL_QP_DESTROY (R338) -/

/-- R352: aborts an accepted command. The answer is false where the command runs on. -/
def abortScl (s : State) (c : SclCmd) (q : SclQp) : State × Bool :=
  if c.begun.isNone then (finishScl s c stAborted 0 dtCmdAborted, true)
  else if scOp c = sRead then
    let r := spoilScl s c q dtCmdAborted
    (finishScl r.1 c stAborted r.2 dtCmdAborted, true)
  else (s, false)

/-- R352, R357: the self-test of a page with a tag. -/
def testWithTag (s : State) (p tag : Nat) : Option Vol :=
  ((s.vols.filter (fun e => e.2.petal == p)).find? (fun e => (e.2.test.map (·.tag)) == some tag)).map (·.2)

/-- R357: the late record of a self-test is posted, and the test is over. -/
def endTest (s : State) (v : Vol) (r : Reply) : State :=
  let s := setVol s { v with test := none, idleAt := s.elapsed }
  resolve s (.objEnd v.petal okVolTest v.num) r

/-- R352: a pending command of a page posts its record now. -/
def postNow (s : State) (g tag : Nat) : State :=
  match (getPage s g).pends.find? (fun q => q.tag == tag) with
  | some q => match q.outcome with
    | some r => postLate s g q r
    | none => s
  | none => s

def cmdSclAbort : Cmd := ⟨0x0620, .own, true, 0x18, false, [(0x10, 0, 12), (0x14, 0, 13)], noObj⟩
def bodySclAbort (m : Mbx) (s : State) : State × Ans :=
  let p := m.page.val
  let n := mf m 0x10 0 12
  let tag := mf m 0x14 0 13
  if n = 0xFFF then
    match testWithTag s p tag with
    | some v => (postNow (endTest s v (replyErr stAborted dtCmdAborted)) p tag, ansOk)
    | none => (s, ansErr stNotFound 0)
  else
    match (sclOf s p n).find? (fun c => c.tag == tag), getScl s p n with
    | some c, some q =>
      let r := abortScl (fresh s) c q
      (r.1, if r.2 then ansOk else .pend (.taskEnd p tag false))
    | none, some q =>
      match (if q.frozen then (q.log.map (·.entries)).getD [] else []).find? (fun e => e.2.1 == tag) with
      | some e => (s, if e.2.2.2 = 0 then ansErr stFrozen 0 else ansErr stAlreadyComplete 0)
      | none => (s, ansErr stNotFound 0)
    | _, none => (s, ansErr stNotFound 0)
/-- SCL_ABORT (R352). -/
def execSclAbort (m : Mbx) (s : State) : Host.Outcome State Fault Refusal := .next (mailbox cmdSclAbort bodySclAbort m s)

/-- R338: a queue pair accepts nothing more, and every command of it is aborted, oldest first. -/
def closeSclQp (s : State) (q : SclQp) : State :=
  let s := setScl (fresh s) { q with ring := { q.ring with closing := true } }
  endScl ((sclOf s q.petal q.num).foldl (fun s c => (abortScl s c q).1) s) q.petal q.num

def cmdSclQpDestroy : Cmd := ⟨0x0601, .own, true, 0x14, false, [(0x10, 0, 12)], fun m => some (okSclQp, mf m 0x10 0 12)⟩
def bodySclQpDestroy (m : Mbx) (s : State) : State × Ans :=
  let p := m.page.val
  let n := mf m 0x10 0 12
  match getScl s p n with
  | none => (s, ansErr stNotFound 0)
  | some q =>
    let s := closeSclQp s q
    (s, if (getScl s p n).isSome then .pend (.objEnd p okSclQp n) else ansOk)
/-- SCL_QP_DESTROY (R338). -/
def execSclQpDestroy (m : Mbx) (s : State) : Host.Outcome State Fault Refusal := .next (mailbox cmdSclQpDestroy bodySclQpDestroy m s)

/-! ### SCL_GET_LOG, SCL_RESTART_QUEUE (R350, R351) -/

/-- R350: the log page of a queue pair. -/
def logPage (s : State) (q : SclQp) : List Byte :=
  match q.log with
  | none => List.replicate 64 0
  | some l =>
    let st := if !q.frozen then 3 else if (sclOf s q.petal q.num).isEmpty then 2 else 1
    leBytes 4 (st + l.cause % 2 ^ 16 * 2 ^ 16) ++ leBytes 4 (l.tag % 2 ^ 13 + l.status % 2 ^ 8 * 2 ^ 16) ++ leBytes 4 (l.detail % 2 ^ 24) ++
    leBytes 4 (l.first % 2 ^ 16 + q.ring.sqTail % 2 ^ 16 * 2 ^ 16) ++ leBytes 8 l.time.toNat ++ leBytes 4 l.entries.length ++ List.replicate 36 0 ++
    l.entries.flatMap (fun e => leBytes 8 (e.1 % 2 ^ 16 + e.2.1 % 2 ^ 13 * 2 ^ 16 + e.2.2.1 % 2 ^ 8 * 2 ^ 32 + e.2.2.2 % 4 * 2 ^ 40))

def cmdSclGetLog : Cmd := ⟨0x0621, .own, true, 0x20, false, [(0x10, 0, 12), (0x18, 0, 48)], fun m => some (okSclQp, mf m 0x10 0 12)⟩
def bodySclGetLog (m : Mbx) (s : State) : State × Ans :=
  let p := m.page.val
  let a := mf m 0x18 0 48
  match getScl s p (mf m 0x10 0 12) with
  | none => (s, ansErr stNotFound 0)
  | some q =>
    let l := logPage s q
    if a % 64 ≠ 0 then (s, ansErr stInvalidArgument 0)
    else if memOpen s p a l.length = false then (s, ansErr stNotPermitted dtSclBuffer)
    else (memPut s p a l, .reply (replyData l.length 4))
/-- SCL_GET_LOG (R350). -/
def execSclGetLog (m : Mbx) (s : State) : Host.Outcome State Fault Refusal := .next (mailbox cmdSclGetLog bodySclGetLog m s)

/-- R351: does a head lie in ring order from the first unexecuted command to the latest tail? -/
def restartHeadOk (r : Ring) (head : Nat) : Bool :=
  decide (head < 2 ^ r.sqLog) && decide ((head + 2 ^ r.sqLog - r.sqHead) % 2 ^ r.sqLog ≤ ringOffered r)

def cmdSclRestart : Cmd := ⟨0x0622, .own, true, 0x14, false, [(0x10, 0, 12), (0x10, 16, 16)], fun m => some (okSclQp, mf m 0x10 0 12)⟩
def bodySclRestart (m : Mbx) (s : State) : State × Ans :=
  let p := m.page.val
  let n := mf m 0x10 0 12
  let head := mf m 0x10 16 16
  match getScl s p n with
  | none => (s, ansErr stNotFound 0)
  | some q =>
    if q.frozen = false then (s, ansErr stInvalidArgument dtQpNotFrozen)
    else if restartHeadOk q.ring head = false then (s, ansErr stInvalidArgument dtRestartHead)
    else if (sclOf s p n).isEmpty = false then (s, .pend .again)
    else (setScl s { q with frozen := false, ring := { q.ring with sqHead := head } }, ansOk)
/-- SCL_RESTART_QUEUE (R351). -/
def execSclRestartQueue (m : Mbx) (s : State) : Host.Outcome State Fault Refusal := .next (mailbox cmdSclRestart bodySclRestart m s)

/-! ### SCL_VOL_CREATE, SCL_VOL_DESTROY (R353, R354, R356) -/

/-- R353: the ranges of the request's own fields. -/
def volFieldsOk (v : Vol) : Bool :=
  decide (1 ≤ v.exts.length) && decide (v.exts.length ≤ 8) && vMib v % 2 == 0 && decide (64 ≤ vMib v) &&
  vCache v % 2 ^ 21 == 0 && vTable v % 64 == 0 && decide (1 ≤ vHigh v) && decide (vHigh v ≤ 100) && decide (vLow v < vHigh v)

/-- R353: one entry of the extent table. -/
def extentOk (x : BitVec 512) : Bool :=
  let e := x.toNat
  fld e 0 20 12 == 0 && fld e 0x18 48 16 == 0 && fld e 0x20 48 16 == 0 && fld e 0x28 0 192 == 0 && decide (1 ≤ xBlocks x)

/-- The PDA ranges that a creation names: cache, extent table, names. -/
def volNamed (v : Vol) : List (Nat × Nat) :=
  volRanges v ++ v.exts.flatMap (fun x => [(fld x.toNat 0x18 0 48, 256), (fld x.toNat 0x20 0 48, 256)])

/-- The caches of a petal's volumes. -/
def cacheRanges (s : State) (p : Nat) : List (Nat × Nat) := (s.vols.filter (fun e => e.2.petal == p)).map (fun e => (vCache e.2, vMib e.2 * 2 ^ 20))

/-- R353: do the regions lie in the petal's slots, off its rings and caches? -/
def volPlaced (s : State) (v : Vol) (x : Petal) (ranges : List (Nat × Nat)) : Bool :=
  ranges.all (fun r => inSlots x r.1 r.2 && !(ringRanges s v.petal ++ cacheRanges s v.petal).any (fun q => overlaps r.1 r.2 q.1 q.2))

/-- The volume that a request describes, with the extents as they stand in memory. -/
def volIn (s : State) (m : Mbx) : Vol :=
  let p := m.page.val
  ⟨p, mf m 0x10 0 8, BitVec.ofNat 256 (mf m 0x10 0 256),
   (List.range (mf m 0x10 8 4)).map (fun i => BitVec.ofNat 512 (memNat s p (mf m 0x20 0 48 + 64 * i) 64)),
   true, false, s.elapsed, [], 0, none, 0, 0, s.elapsed, s.elapsed, none, []⟩

/-- R353: the checks of a creation before its cache is pinned. -/
def volCheck (s : State) (v : Vol) (x : Petal) : Option (Nat × Nat) :=
  if volFieldsOk v = false then some (stInvalidArgument, 0)
  else if (getVol s v.petal v.num).isSome then some (stInvalidArgument, dtVolExists)
  else if 256 ≤ (s.vols.filter (fun e => e.2.petal == v.petal)).length ∨ 1024 ≤ s.vols.length then some (stNoResources, 0)
  else if (slotKey x (vSlot v) 2).isNone then some (stNotPermitted, dtSclKeySlot)
  else if volPlaced s v x (volRanges v) = false ∨ keyPresent s v.petal = false then some (stInvalidArgument, dtSclGeometry)
  else if (poisonIn s v.petal (vTable v) (64 * v.exts.length)).isSome then some (stDeviceFault, dtSclUncorrectable)
  else if v.exts.all extentOk = false then some (stInvalidArgument, 0)
  else if volPlaced s v x (volNamed v) = false then some (stInvalidArgument, dtSclGeometry)
  else if backed s v = false then some (stDeviceFault, dtBackConnect)
  else none

def cmdSclVolCreate : Cmd :=
  ⟨0x0610, .own, true, 0x30, false,
   [(0x10, 0, 12), (0x10, 16, 16), (0x14, 0, 32), (0x18, 0, 48), (0x20, 0, 48), (0x28, 0, 32), (0x2C, 0, 16)], fun m => some (okVol, mf m 0x10 0 8)⟩
def bodySclVolCreate (m : Mbx) (s : State) : State × Ans :=
  let s := fresh s
  let v := volIn s m
  match getPetal s m.page.val with
  | none => (s, ansErr stNotFound 0)
  | some x =>
    match volCheck s v x with
    | some e => (if e.2 = dtSclUncorrectable then touch s v.petal (vTable v) (64 * v.exts.length) else s, ansErr e.1 e.2)
    | none =>
      let s := touch s v.petal (vTable v) (64 * v.exts.length)
      match pinRange s v.petal (rangePages (vCache v) (vMib v * 2 ^ 20)) 2 with
      | (s', .reply r) => if r.status = stOk then (sendNvme (setVol s' v) v 1, .pend (.backing v.petal v.num)) else (s', .reply r)
      | (s', _) => (sendNvme (setVol s' v) v 1, .pend (.backing v.petal v.num))
/-- SCL_VOL_CREATE (R353). -/
def execSclVolCreate (m : Mbx) (s : State) : Host.Outcome State Fault Refusal := .next (mailbox cmdSclVolCreate bodySclVolCreate m s)

/-- R354, R356: a volume goes: its cache is unpinned and nothing of it is cleared. -/
def dropVol (s : State) (v : Vol) : State :=
  { (pinRange s v.petal (rangePages (vCache v) (vMib v * 2 ^ 20)) 0).1 with vols := del s.vols (volKey v.petal v.num) }

/-- R353, R356: the outcome of a creation or destruction that waits for its targets. -/
def settleVol (s : State) (p n : Nat) (discard : Bool) (a : Backing) : State × Reply :=
  match getVol s p n with
  | none => (s, replyErr stNotFound dtVolUnknown)
  | some v =>
    if v.connecting then
      match a with
      | .ok => (setVol s { v with connecting := false, idleAt := s.elapsed, keptAt := s.elapsed }, replyOk)
      | .format => (dropVol s v, replyErr stInvalidArgument dtBackFormat)
      | _ => (dropVol s v, replyErr stDeviceFault dtBackConnect)
    else
      let good := a == .ok && backed s v && (dirtyBlocks s v).length == dirtyCount v
      if discard || dirtyCount v == 0 then (dropVol s v, replyOk)
      else if good then
        let s := destage s p n (dirtyBlocks s v) true
        (match getVol s p n with | some v => dropVol s v | none => s, replyOk)
      else
        (setVol s { v with closing := false, failedAt := some s.elapsed, failures := v.failures + 1 }, replyErr stDeviceFault dtBackIo)

def cmdSclVolDestroy : Cmd := ⟨0x0611, .own, true, 0x14, false, [(0x10, 0, 9)], fun m => some (okVol, mf m 0x10 0 8)⟩
def bodySclVolDestroy (m : Mbx) (s : State) : State × Ans :=
  let p := m.page.val
  let n := mf m 0x10 0 8
  match getVol s p n with
  | none => (s, ansErr stNotFound dtVolUnknown)
  | some v =>
    if v.connecting then (s, ansErr stNotFound dtVolUnknown)
    else if (volCmds s p n).isEmpty = false ∨ v.test.isSome then (s, ansErr stBusy dtVolInUse)
    else (setVol s { v with closing := true }, .pend (.backing p n))
/-- SCL_VOL_DESTROY (R356). -/
def execSclVolDestroy (m : Mbx) (s : State) : Host.Outcome State Fault Refusal := .next (mailbox cmdSclVolDestroy bodySclVolDestroy m s)

/-- SCL_CONNECT_TIMEOUT (R353): a target has not answered Connect within 10 s. -/
def execSclConnectTimeout (p : PetalId) (n : Fin 256) (s : State) : Host.Outcome State Fault Refusal :=
  .next (match getVol s p.val n.val with
    | some v =>
      if v.connecting ∧ elapsedAtLeast s v.since 10000000000 then
        resolve (dropVol s v) (.backing p.val n.val) (replyErr stDeviceFault dtBackConnect)
      else s
    | none => s)

/-! ### Destage, Keep Alive, idle levels (R354, R355, R358) -/

/-- R360: does a petal's destage run? -/
def destageOn (s : State) (p : Nat) : Bool := ((getPetal s p).map (fun x => x.st == .active)).getD false && keyPresent s p

/-- R354: how many of the least recently used dirty blocks go to the target. -/
def destageCount (v : Vol) : Nat := dirtyCount v - (vLow v * vBlocks v + 99) / 100 + 1

/-- Does a command of a volume wait for room (R354)? -/
def waitsRoom (s : State) (v : Vol) : Bool :=
  (volCmds s v.petal v.num).any (fun c =>
    let e := c.raw.toNat
    c.begun.isSome && ((seOp e == sWrite && !roomFor v (seLba e) (seBlocks e)) || (seOp e == sCopy && !roomFor v (seDest e) (seBlocks e))))

/-- R354: has destage reason to start? -/
def destageDue (s : State) (v : Vol) : Bool := decide (vHigh v * vBlocks v < 100 * dirtyCount v) || waitsRoom s v

/-- SCL_DESTAGE_START (R354): `ok` is what the targets answer. -/
def execSclDestageStart (p : PetalId) (n : Fin 256) (ok : Bool) (s : State) : Host.Outcome State Fault Refusal :=
  .next (match getVol s p.val n.val with
    | some v =>
      if volReady v ∧ v.failedAt.isNone ∧ destageDue s v = true ∧ destageOn s p.val = true then
        destage s p.val n.val ((dirtyBlocks s v).take (destageCount v)) ok
      else s
    | none => s)

/-- SCL_DESTAGE_RETRY (R355): 1 s after a failure the destage is tried again. -/
def execSclDestageRetry (p : PetalId) (n : Fin 256) (ok : Bool) (s : State) : Host.Outcome State Fault Refusal :=
  .next (match getVol s p.val n.val with
    | some v =>
      match v.failedAt with
      | some t =>
        if volReady v ∧ elapsedAtLeast s t 1000000000 ∧ destageOn s p.val = true then destage s p.val n.val (dirtyBlocks s v) ok else s
      | none => s
    | none => s)

/-- SCL_KEEP_ALIVE (R355): every 5 s each extent is sent Keep Alive. -/
def execSclKeepAlive (p : PetalId) (n : Fin 256) (s : State) : Host.Outcome State Fault Refusal :=
  .next (match getVol s p.val n.val with
    | some v =>
      if v.connecting = false ∧ elapsedAtLeast s v.keptAt 5000000000 then sendNvme (setVol s { v with keptAt := s.elapsed }) v 0 else s
    | none => s)

/-- R358: is a volume idle? -/
def volIdle (s : State) (v : Vol) : Bool := volReady v && (volCmds s v.petal v.num).isEmpty && v.test.isNone && dirtyCount v == 0

/-- R358: the level that an idle volume enters now, if any. -/
def idleLevel (s : State) (v : Vol) : Option Nat :=
  if volIdle s v = false then none
  else if v.level < 2 ∧ vW2 v ≠ 0 ∧ elapsedAtLeast s v.idleAt (vW2 v * 1000000) then some 2
  else if v.level = 0 ∧ vW1 v ≠ 0 ∧ elapsedAtLeast s v.idleAt (vW1 v * 1000) then some 1
  else none

/-- SCL_VOL_IDLE (R358). -/
def execSclVolIdle (p : PetalId) (n : Fin 256) (s : State) : Host.Outcome State Fault Refusal :=
  .next (match getVol s p.val n.val with
    | some v => match idleLevel s v with
      | some l => setVol s { v with level := l }
      | none => s
    | none => s)

/-! ### Self-tests (R357) -/

def cmdSclSelfTest : Cmd := ⟨0x0630, .own, true, 0x14, false, [(0x10, 0, 10)], noObj⟩
def bodySclSelfTest (m : Mbx) (s : State) : State × Ans :=
  let p := m.page.val
  let n := mf m 0x10 0 8
  let kind := mf m 0x10 8 2
  if kind = 0 ∨ kind = 3 then (s, ansErr stInvalidArgument 0)
  else
    match getVol s p n with
    | none => (s, ansErr stNotFound dtVolUnknown)
    | some v =>
      if volReady v = false then (s, ansErr stNotFound dtVolUnknown)
      else if v.test.isSome then (s, ansErr stBusy dtSelfTestBusy)
      else
        (sendNvme (setVol s { v with level := 0, test := some ⟨m.tag.toNat, kind, !(volCmds s p n).isEmpty⟩ }) v 6,
         .pend (.objEnd p okVolTest n))
/-- SCL_SELF_TEST (R357). -/
def execSclSelfTest (m : Mbx) (s : State) : Host.Outcome State Fault Refusal := .next (mailbox cmdSclSelfTest bodySclSelfTest m s)

/-- SCL_SELF_TEST_RESUME (R357): a volume has had no outstanding command for 1 ms. -/
def execSclSelfTestResume (p : PetalId) (n : Fin 256) (s : State) : Host.Outcome State Fault Refusal :=
  .next (match getVol s p.val n.val with
    | some v =>
      match v.test with
      | some t =>
        if t.yielded ∧ (volCmds s p.val n.val).isEmpty ∧ elapsedAtLeast s v.idleAt 1000000 then
          setVol s { v with test := some { t with yielded := false } }
        else s
      | none => s
    | none => s)

/-- R357: the blocks of the cache that read uncorrectable, and whether a line of the region that holds none does. -/
def badCached (s : State) (v : Vol) : List Nat := (v.cache.filter (fun e => (poisonIn s v.petal (cachedAt v e.2) 4096).isSome)).map (·.1)

/-- R357: the outcome: 0 for a pass; otherwise bit 63 and the first failing block, all ones where none is a block's. `bad` is the
first block that a target failed, all ones for another failure of a target. -/
def testOutcome (s : State) (v : Vol) (bad : Option (BitVec 63)) : Nat :=
  let cached := badCached s v
  let region := (poisonIn s v.petal (vCache v) (vMib v * 2 ^ 20)).isSome
  let all := cached ++ (match bad with | some b => [b.toNat] | none => []) ++ (if region || !backed s v then [2 ^ 63 - 1] else [])
  match leastBy id all with
  | some b => 2 ^ 63 + b
  | none => 0

/-- SCL_SELF_TEST_COMPLETE (R357): a test that is not pre-empted ends; the lines of the cache have been read. -/
def execSclSelfTestComplete (p : PetalId) (n : Fin 256) (bad : Option (BitVec 63)) (s : State) : Host.Outcome State Fault Refusal :=
  .next (match getVol s p.val n.val with
    | some v =>
      match v.test with
      | some t =>
        if t.yielded then s
        else endTest (touch s p.val (vCache v) (vMib v * 2 ^ 20)) v (replyData (testOutcome s v bad) 8)
      | none => s
    | none => s)

/-! ### SCL_IDENTIFY (R359) -/

/-- R357: the bound of an extended test in seconds: 2 min and the capacity at 2 GB/s, rounded up. -/
def extTestSeconds (v : Vol) : Nat := 120 + (4096 * vCapacity v + 1999999999) / 2000000000

def identifyScl (x : Petal) (v : Option Vol) : Nat :=
  0x0100 + recScroll x.record * 2 ^ 16 + 65536 * 2 ^ 32 + 4096 * 2 ^ 64 + 4096 * 2 ^ 96 + 3 * 2 ^ 112 + 65536 * 2 ^ 128 +
  5 * 2 ^ 160 + 50 * 2 ^ 176 + (v.map vCapacity).getD 0 % 2 ^ 64 * 2 ^ 192 + (v.map extTestSeconds).getD 0 % 2 ^ 32 * 2 ^ 256 + 120 * 2 ^ 288

def cmdSclIdentify : Cmd := ⟨0x0640, .own, false, 0x14, false, [(0x10, 0, 8)], noObj⟩
def bodySclIdentify (m : Mbx) (s : State) : State × Ans :=
  let n := mf m 0x10 0 8
  match getPetal s m.page.val with
  | none => (s, ansErr stNotFound 0)
  | some x =>
    match (getVol s m.page.val n).filter volReady with
    | some v => (s, .reply (replyData (identifyScl x (some v)) 0x28))
    | none => if n = 0xFF then (s, .reply (replyData (identifyScl x none) 0x28)) else (s, ansErr stNotFound dtVolUnknown)
/-- SCL_IDENTIFY (R359). -/
def execSclIdentify (m : Mbx) (s : State) : Host.Outcome State Fault Refusal := .next (mailbox cmdSclIdentify bodySclIdentify m s)

/-! ### The petal's part (R276, R278, R280) -/

def sclRunning (s : State) (p : Nat) : Bool := s.sclCmds.any (fun c => c.petal == p && c.begun.isSome)

/-- R276: running commands are stopped as by their own abort; a READ ends, the others run on. -/
def stopScl (s : State) (p : Nat) : State :=
  (s.sclCmds.filter (fun c => c.petal == p && c.begun.isSome)).foldl (fun s c =>
    match getScl s p c.qp with | some q => (abortScl s c q).1 | none => s) (fresh s)

/-- R280: queue pairs of a petal go: accepted commands complete with ABORTED and add to no counter. With `discard` nothing is
written, and its volumes go too (R281). -/
def removeScl (s : State) (p : Nat) (discard : Bool) : State :=
  let mine := s.sclCmds.filter (fun c => c.petal == p)
  let s := if discard then { s with sclCmds := s.sclCmds.filter (fun c => c.petal != p) }
    else mine.foldl (fun s c => finishScl s { c with raw := BitVec.ofNat 512 (setBits c.raw.toNat 8 1 0) } stAborted 0 dtCmdAborted) s
  { s with
    sclQps := s.sclQps.filter (fun e => e.2.petal != p)
    vols := if discard then s.vols.filter (fun e => e.2.petal != p) else s.vols
    sclIgnored := if discard then del s.sclIgnored p else s.sclIgnored }

end Sys2Proof.Machine
end

