-- ==== Sys2Proof/Machine/Attention.lean ====
section
/-!
DEFINITION. The long-context attention service (R217 to R242): contexts, arenas, sequences, request rings, entries and spilling.
-/

namespace Sys2Proof.Machine

/-! ### Detail codes (R230) -/
def dtAtnReserved : Nat := 0x80
def dtAtnTagRange : Nat := 0x81
def dtAtnTagInUse : Nat := 0x82
def dtAtnForm : Nat := 0x83
def dtEntrySpace : Nat := 0x84
def dtSeqUnknown : Nat := 0x85
def dtLayerRange : Nat := 0x86
def dtAtnBuffer : Nat := 0x87
def dtAtnAlign : Nat := 0x88
def dtAtnCounter : Nat := 0x89
def dtSeqFull : Nat := 0x8A
def dtArenaFull : Nat := 0x8B
def dtSpillAuth : Nat := 0x8C
def dtSpillIo : Nat := 0x8D
def dtEntryTimeout : Nat := 0x8E
def dtEntryAborted : Nat := 0x8F
def dtAtnUncorrectable : Nat := 0x90
def dtAtnAccelDma : Nat := 0x91
def dtAtnDescriptor : Nat := 0x92
def dtCtxCores : Nat := 0x93
def dtCtxLimit : Nat := 0x94
def dtCtxExists : Nat := 0x98
def dtCtxGeometry : Nat := 0x99
def dtSeqLimit : Nat := 0x9A
def dtSeqExists : Nat := 0x9B
def dtAtnKeySlot : Nat := 0x9C
def dtSpillVolume : Nat := 0x9D
def dtRingExists : Nat := 0x9E
def dtAtnRing : Nat := 0x9F

def okCtx : Nat := 10
def okRing : Nat := 11
def okSeq : Nat := 12

def ctxKey (p n : Nat) : Nat := p * 16 + n
def getCtx (s : State) (p n : Nat) : Option AtnCtx := look s.ctxs (ctxKey p n)
def setCtx (s : State) (c : AtnCtx) : State := { s with ctxs := put s.ctxs (ctxKey c.petal c.num) c }
def modCtx (s : State) (p n : Nat) (f : AtnCtx → AtnCtx) : State := { s with ctxs := upd s.ctxs (ctxKey p n) f }
def modRing (s : State) (p n k : Nat) (f : AtnRing → AtnRing) : State := modCtx s p n (fun c => { c with rings := upd c.rings k f })
def modSeq (s : State) (p n q : Nat) (f : AtnSeq → AtnSeq) : State := modCtx s p n (fun c => { c with seqs := upd c.seqs q f })
def findAtn (s : State) (p tag : Nat) : Option AtnEntry := s.atnEntries.find? (fun e => e.petal == p && e.tag == tag)
def modAtn (s : State) (p tag : Nat) (f : AtnEntry → AtnEntry) : State :=
  { s with atnEntries := s.atnEntries.map (fun e => if e.petal = p ∧ e.tag = tag then f e else e) }
def ringEntries (s : State) (p n k : Nat) : List AtnEntry := s.atnEntries.filter (fun e => e.petal == p && e.ctx == n && e.ring == k)
def ctxEntries (s : State) (p n : Nat) : List AtnEntry := s.atnEntries.filter (fun e => e.petal == p && e.ctx == n)

/-! ### The shape of a context (R218, R220, R221) -/

def xf (c : AtnCtx) (byte bit w : Nat) : Nat := fld c.req.toNat (byte - 16) bit w
def xDim (c : AtnCtx) : Nat := 64 * 2 ^ xf c 0x10 8 2
def xKvFmt (c : AtnCtx) : Nat := xf c 0x10 10 3
def xQFmt (c : AtnCtx) : Fmt := match xf c 0x10 13 3 with | 0 => .bf16 | 1 => .fp16 | 2 => .fp32 | _ => .e4m3
def xOutFmt (c : AtnCtx) : Fmt := match xf c 0x10 16 2 with | 0 => .bf16 | 1 => .fp16 | _ => .fp32
def xKvHeads (c : AtnCtx) : Nat := xf c 0x14 0 8
def xQHeads (c : AtnCtx) : Nat := xf c 0x14 8 8
def xLayers (c : AtnCtx) : Nat := xf c 0x14 16 9
def xMaxSeqs (c : AtnCtx) : Nat := xf c 0x1C 0 15
def xFirst (c : AtnCtx) : Nat := xf c 0x20 0 16
def xCores (c : AtnCtx) : Nat := xf c 0x20 16 16
def xArena (c : AtnCtx) : Nat := xf c 0x28 0 48
def xMib (c : AtnCtx) : Nat := xf c 0x30 0 32
def xLow (c : AtnCtx) : Nat := xf c 0x34 0 8
def xHigh (c : AtnCtx) : Nat := xf c 0x34 8 8
def xSlot (c : AtnCtx) : Nat := xf c 0x34 16 16
def xVolume (c : AtnCtx) : Nat := xf c 0x38 0 32
def xSpillBase (c : AtnCtx) : Nat := xf c 0x40 0 64
def xSpillBytes (c : AtnCtx) : Nat := xf c 0x48 0 64

/-- R220: element bytes, scale bytes, and the record of one head. -/
def xElem (c : AtnCtx) : Nat := if xKvFmt c = 2 then 2 else 1
def xScales (c : AtnCtx) : Nat := if xKvFmt c = 3 then xDim c / 32 else 0
def xRec (c : AtnCtx) : Nat := xDim c * xElem c + xScales c
def xPage (c : AtnCtx) : Nat := 512 * xKvHeads c * xRec c
/-- A token in token layout (R228). -/
def xToken (c : AtnCtx) : Nat := 2 * xKvHeads c * xRec c
/-- R221: page slots: their size, their number, and those outside the working reserve. -/
def xSlotBytes (c : AtnCtx) : Nat := alignUp (xPage c) 64
def xSlots (c : AtnCtx) : Nat := xMib c * 2 ^ 20 / max 1 (xSlotBytes c)
def xUsable (c : AtnCtx) : Nat := xSlots c - 2 * xCores c
def slotPda (c : AtnCtx) (k : Nat) : Nat := xArena c + k * xSlotBytes c
/-- R240: spill slots. -/
def xSpillSlot (c : AtnCtx) : Nat := alignUp (xPage c + 32) 4096
def xSpillSlots (c : AtnCtx) : Nat := xSpillBytes c / xSpillSlot c

/-- The arena of a context (R278). -/
def arenaRange (c : AtnCtx) : Nat × Nat := (xArena c, xMib c * 2 ^ 20)

/-! ### Slots (R221, R231) -/

/-- Pages are keyed by layer × 4096 + page. -/
def pageKey (layer page : Nat) : Nat := layer * 4096 + page

def arenaSlots (q : AtnSeq) : List Nat := q.pages.filterMap (fun e => match e.2 with | .arena k => some k | _ => none)

/-- The slots in use: pages and maps of sequences, and pages that a running ATTEND still reads (R231). -/
def usedSlots (s : State) (c : AtnCtx) : List Nat :=
  (c.seqs.flatMap (fun e => arenaSlots e.2 ++ e.2.maps) ++ (ctxEntries s c.petal c.num).flatMap (fun e => e.view.map (·.2))).eraseDups

def freeSlotCount (s : State) (c : AtnCtx) : Nat := xUsable c - (usedSlots s c).length

/-- The first free slot from a slot on. -/
def pickSlot (used : List Nat) (n : Nat) : Nat → Nat → Nat
  | 0, k => k
  | m + 1, k => if used.contains k then pickSlot used n m ((k + 1) % n) else k

/-- R221: takes a free slot; which one is the service's. What the slot held is no longer specified. -/
def takeSlot (s : State) (c : AtnCtx) (draw : Nat) : State × Nat :=
  let used := usedSlots s c
  let k := pickSlot used (xUsable c) used.length (freeVal s (2 ^ 130 + draw) % max 1 (xUsable c))
  ({ s with mem := dropCells s.mem (memKey c.petal (slotPda c k)) (xSlotBytes c) }, k)

/-- R221: the map slots that a number of allocated pages needs. -/
def mapSlots (c : AtnCtx) (pages : Nat) : Nat := (4 * pages + xSlotBytes c - 1) / max 1 (xSlotBytes c)

/-- The length of a layer of a sequence. -/
def lenOf (q : AtnSeq) (layer : Nat) : Nat := lookD q.lens layer 0

/-- R221: the pages that n more tokens of a layer add. -/
def newPages (q : AtnSeq) (layer n : Nat) : List Nat :=
  (List.range' ((lenOf q layer + 255) / 256) ((lenOf q layer + n + 255) / 256 - (lenOf q layer + 255) / 256))

/-- Is the last page of a layer, partly filled, in the spill region? -/
def tailSpilled (q : AtnSeq) (layer n : Nat) : Option (Nat × Nat × Option (Nat × Nat)) :=
  let page := lenOf q layer / 256
  if n = 0 ∨ lenOf q layer % 256 = 0 then none
  else
    match look q.pages (pageKey layer page) with
    | some (.spilled k bad) => some (page, k, bad)
    | _ => none

/-- R221: the free slots that an append of n tokens needs: pages, a page to read back, and maps. -/
def slotsNeeded (c : AtnCtx) (q : AtnSeq) (layer n : Nat) : Nat :=
  (newPages q layer n).length + (if (tailSpilled q layer n).isSome then 1 else 0) +
    (mapSlots c (q.pages.length + (newPages q layer n).length) - q.maps.length)

/-! ### The request entry (R227, R228) -/

def aeTag (h : Nat) : Nat := fld h 0 0 13
def aeRec (h : Nat) : Bool := fld h 0 16 1 == 1
def aeSig (h : Nat) : Bool := fld h 0 17 1 == 1
def aeLse (h : Nat) : Bool := fld h 0 18 1 == 1
def aeOp (h : Nat) : Nat := fld h 4 0 2
def aeQ (h : Nat) : Nat := fld h 4 4 4
def aeInline (h : Nat) : Nat := fld h 4 8 4
def aeCausal (h : Nat) : Bool := fld h 4 12 1 == 1
def aeSeq (h : Nat) : Nat := fld h 8 0 14
def aeLayer (h : Nat) : Nat := fld h 0xC 0 9
def aePos (h : Nat) : Nat := fld h 0x10 0 21
def aeWindow (h : Nat) : Nat := fld h 0x14 0 21
def aeCount (h : Nat) : Nat := fld h 0x18 0 32
def aeTimeout (h : Nat) : Nat := fld h 0x1C 0 32
def aeSrc (h : Nat) : Nat := fld h 0x20 0 64
def aeOut (h : Nat) : Nat := fld h 0x28 0 64
def aeLseAt (h : Nat) : Nat := fld h 0x30 0 64
def aeCounter (h : Nat) : Nat := fld h 0x38 0 32
def aeInc (h : Nat) : Nat := fld h 0x3C 0 32

def aAttend : Nat := 0
def aAppend : Nat := 1
def aTruncate : Nat := 2

def eh (e : AtnEntry) : Nat := e.hdr.toNat
def eOp (e : AtnEntry) : Nat := aeOp (eh e)

/-- R228: the bytes of the query area, the output and the log-sum-exp buffer. -/
def queryBytes (c : AtnCtx) (h : Nat) : Nat := aeQ h * xQHeads c * xDim c * ((xQFmt c).width / 8)
def outBytes (c : AtnCtx) (h : Nat) : Nat := aeQ h * xQHeads c * xDim c * ((xOutFmt c).width / 8)
def lseBytes (c : AtnCtx) (h : Nat) : Nat := aeQ h * xQHeads c * 4
/-- The areas that follow the header. -/
def bodyBytes (c : AtnCtx) (h : Nat) : Nat := queryBytes c h + aeInline h * xToken c

/-! ### Completion (R232 to R234) -/

/-- R234: pending batch signals are applied in acceptance order, up to the first entry that has not completed. -/
def flushSignals (s : State) (p : Nat) : List AtnTrack → State × List AtnTrack
  | [] => (s, [])
  | t :: ts =>
    if t.done then
      flushSignals (match t.sig with | some g => signal s p g.1 g.2 | none => s) p ts
    else (s, t :: ts)

/-- R232, steps 3 and 4, for an entry of a ring. -/
def ringDone (s : State) (p n k ord : Nat) (ok : Bool) : State :=
  match (getCtx s p n).bind (fun c => look c.rings k) with
  | none => s
  | some r =>
    let s := if ok then s else signal s p r.errCounter 1
    let x := flushSignals s p (r.track.map (fun t => if t.ord = ord then { t with done := true } else t))
    modRing x.1 p n k (fun r => { r with track := x.2 })

/-- R232, step 2. -/
def ringRecord (s : State) (p n k tag status result detail : Nat) (post : Bool) : State :=
  match (getCtx s p n).bind (fun c => look c.rings k) with
  | none => s
  | some r =>
    if post then
      let x := ringPost s p r.ring (n * 16 + k) tag status result detail true
      modRing x.1 p n k (fun r => { r with ring := x.2 })
    else modRing s p n k (fun r => { r with ring := { r.ring with reserved := r.ring.reserved - 1 } })

def atnCount (s : State) (p n status : Nat) : State := count s kAtn (ctxKey p n) (if status = stOk then 0 else 1) 1

/-- R224: a DESTROYING sequence is FREE once no running entry and no spill write names it. -/
def endSeq (s : State) (p n q : Nat) : State :=
  match getCtx s p n with
  | none => s
  | some c =>
    match look c.seqs q with
    | some x =>
      if x.destroying && !(ctxEntries s p n).any (fun e => e.started.isSome && aeSeq (eh e) == q) && !c.spilling.any (fun w => w.seq == q) then
        resolve (setCtx s { c with seqs := del c.seqs q }) (.objEnd p okSeq (n * 16384 + q)) replyOk
      else s
    | none => s

/-- R237: a ring whose destruction has begun goes with its last entry, and a context with its last ring and sequence. -/
def endCtx (s : State) (p n : Nat) : State :=
  match getCtx s p n with
  | none => s
  | some c =>
    if c.closing && c.rings.isEmpty && c.seqs.isEmpty && (ctxEntries s p n).isEmpty then
      resolve { s with ctxs := del s.ctxs (ctxKey p n) } (.objEnd p okCtx n) replyOk
    else s

def endRing (s : State) (p n k : Nat) : State :=
  match (getCtx s p n).bind (fun c => look c.rings k) with
  | some r =>
    if r.ring.closing && (ringEntries s p n k).isEmpty then
      resolve (modCtx s p n (fun c => { c with rings := del c.rings k })) (.objEnd p okRing (n * 16 + k)) replyOk
    else s
  | none => s

/-- R233: the result of an entry: the length after it, and the pages read back. -/
def atnResult (s : State) (e : AtnEntry) : Nat :=
  let h := eh e
  let len := ((((getCtx s e.petal e.ctx).bind (fun c => look c.seqs (aeSeq h))).map (fun q => lenOf q (aeLayer h))).getD 0)
  (if aeOp h = aTruncate then aeCount h else len) % 2 ^ 21 + e.filled % 2 ^ 21 * 2 ^ 21

/-- R232: an accepted entry completes; `flags` is the OR of its Nibs' flags (R233). -/
def finishAtn (s : State) (e : AtnEntry) (status detail flags : Nat) : State :=
  let p := e.petal
  let s := ringRecord s p e.ctx e.ring e.tag status (atnResult s e) (detail + flags % 256 * 2 ^ 8) (aeRec (eh e) || status != stOk)
  let s := ringDone (atnCount s p e.ctx status) p e.ctx e.ring e.ord (status == stOk)
  let s := { dmaForget (freeTag s p e.tag) p e.tag with atnEntries := s.atnEntries.filter (fun x => !(x.petal == p && x.tag == e.tag)) }
  let s := resolveTask s p e.tag
  endCtx (endRing (endSeq s p e.ctx (aeSeq (eh e))) p e.ctx e.ring) p e.ctx

/-! ### Acceptance (R226, R230) -/

/-- R230, check 1. -/
def atnReserved (h : Nat) : Bool :=
  fld h 0 13 3 == 0 && fld h 0 19 13 == 0 && fld h 4 2 2 == 0 && fld h 4 13 19 == 0 && fld h 8 14 18 == 0 && fld h 0xC 9 23 == 0 &&
  fld h 0x10 21 11 == 0 && fld h 0x14 21 11 == 0 && fld h 0x40 0 512 == 0

/-- R230, check 4: what R227 asks of each op, the positions, and an increment in its range. -/
def atnForm (h : Nat) : Bool :=
  let op := aeOp h
  op != 3 && decide (aeInline h ≤ 8) && (!aeSig h || (aeInc h != 0 && decide (aeInc h < 2 ^ 31))) &&
  (if op = aAttend then
    decide (1 ≤ aeQ h) && decide (aeQ h ≤ 8) && decide (aeWindow h ≤ 1048576) && aeCount h == 0 && decide (aePos h + aeQ h ≤ 1048576)
   else aeQ h == 0 && !aeLse h && !aeCausal h && aePos h == 0 && aeWindow h == 0 && aeTimeout h == 0) &&
  (op != aAppend || decide (aeCount h ≤ 65536)) &&
  (op != aTruncate || (aeInline h == 0 && aeLayer h == 0 && decide (aeCount h ≤ 1048576)))

/-- The buffers of an entry. -/
def atnBufs (c : AtnCtx) (h : Nat) : List (Nat × Nat) :=
  if aeOp h = aAttend then (aeOut h, outBytes c h) :: (if aeLse h then [(aeLseAt h, lseBytes c h)] else [])
  else if aeOp h = aAppend ∧ 0 < aeCount h then [(aeSrc h, aeCount h * xToken c)] else []

/-- R230, check 8. -/
def atnAccess (s : State) (c : AtnCtx) (bind h : Nat) : Bool :=
  (atnBufs c h).all (fun b => bufOk s c.petal bind b.1 b.2 &&
    (match bufAddr b.1 with | .pda a => !overlaps a b.2 (xArena c) (xMib c * 2 ^ 20) | _ => true))

/-- R230: the checks of an entry in order. -/
def atnCheck (s : State) (c : AtnCtx) (r : AtnRing) (x : Petal) (h : Nat) : Option (Nat × Nat) :=
  if atnReserved h = false then some (stInvalidArgument, dtAtnReserved)
  else if recTags x.record ≤ aeTag h then some (stInvalidArgument, dtAtnTagRange)
  else if tagHeld x (aeTag h) then some (stInvalidArgument, dtAtnTagInUse)
  else if atnForm h = false then some (stInvalidArgument, dtAtnForm)
  else if r.entryBytes < 128 + bodyBytes c h then some (stInvalidArgument, dtEntrySpace)
  else if xLayers c ≤ aeLayer h then some (stInvalidArgument, dtLayerRange)
  else if (atnBufs c h).any (fun b => b.1 % 64 != 0) then some (stInvalidArgument, dtAtnAlign)
  else if atnAccess s c r.bind h = false then some (stNotPermitted, dtAtnBuffer)
  else if aeSig h ∧ recCounters x.record ≤ aeCounter h then some (stNotPermitted, dtAtnCounter)
  else none

/-- R234: the batch signal of an entry, where its counter and increment can take it. -/
def atnSig (x : Petal) (h : Nat) : Option (Nat × Nat) :=
  if aeSig h ∧ aeCounter h < recCounters x.record ∧ aeInc h ≠ 0 ∧ aeInc h < 2 ^ 31 then some (aeCounter h, aeInc h) else none

/-- An entry that is refused completes at once. -/
def refuseAtn (s : State) (p n k ord tag status detail : Nat) : State :=
  ringDone (atnCount (ringRecord s p n k tag status 0 detail true) p n status) p n k ord false

/-- R226, R169: takes the next entry of a ring and validates it. -/
def acceptAtn (s : State) (c : AtnCtx) (k : Nat) (r : AtnRing) (x : Petal) : State :=
  let s := fresh s
  let p := c.petal
  let at_ := r.ring.sqPda + r.entryBytes * r.ring.sqHead
  let h := memNat s p at_ 128
  let n := min (bodyBytes c h) (r.entryBytes - 128)
  let headBad := (poisonIn s p at_ 128).isSome
  let sig := if headBad then none else atnSig x h
  let s := modRing (touch s p at_ r.entryBytes) p c.num k (fun r =>
    { r with ring := ringTake r.ring, accepted := r.accepted + 1, track := r.track ++ [⟨r.accepted, false, sig⟩] })
  if headBad then refuseAtn s p c.num k r.accepted 0xFFFF stDeviceFault dtAtnDescriptor
  else
    match atnCheck s c r x h with
    | some e => refuseAtn s p c.num k r.accepted (aeTag h) e.1 e.2
    | none =>
      let e : AtnEntry := ⟨p, c.num, k, aeTag h, r.accepted, BitVec.ofNat 1024 h, memRead s p (at_ + 128) n,
        (poisonIn s p (at_ + 128) n).isSome && n != 0, none, 0, [], [], 0, none⟩
      { holdTag s p (aeTag h) .attention with atnEntries := s.atnEntries ++ [e] }

/-- ATN_ENTRY_ACCEPT (R226, R230). -/
def execAtnEntryAccept (p : PetalId) (n k : Fin 16) (s : State) : Host.Outcome State Fault Refusal :=
  .next (match getPetal s p.val, getCtx s p.val n.val with
    | some x, some c =>
      match look c.rings k.val with
      | some r =>
        if x.st = .active ∧ c.closing = false ∧ r.ring.closing = false ∧ 0 < ringOffered r.ring ∧ ringFree r.ring = true ∧
            keyPresent s p.val = true then acceptAtn s c k.val r x
        else s
      | none => s
    | _, _ => s)

/-- The effect of ATN_SQ_TAIL. -/
def atnSqTail (p : PetalId) (n k : Fin 16) (v : W32) (s : State) : State :=
  match (getCtx s p.val n.val).bind (fun c => look c.rings k.val) with
    | none => s
    | some r => match ringTail r.ring v.toNat with
      | some g => modRing s p.val n.val k.val (fun r => { r with ring := g })
      | none => doorbellIgnored s p.val
/-- ATN_SQ_TAIL (R226). -/
def execAtnSqTail (p : PetalId) (n k : Fin 16) (v : W32) (s : State) : Host.Outcome State Fault Refusal := .next (atnSqTail p n k v (awake s))

/-- The effect of ATN_CQ_HEAD. -/
def atnCqHead (p : PetalId) (n k : Fin 16) (v : W32) (s : State) : State :=
  match (getCtx s p.val n.val).bind (fun c => look c.rings k.val) with
    | none => s
    | some r => match ringHead r.ring v.toNat with
      | some g => modRing s p.val n.val k.val (fun r => { r with ring := g })
      | none => doorbellIgnored s p.val
/-- ATN_CQ_HEAD (R226). -/
def execAtnCqHead (p : PetalId) (n k : Fin 16) (v : W32) (s : State) : Host.Outcome State Fault Refusal := .next (atnCqHead p n k v (awake s))

/-! ### Read-back (R240) -/

/-- R447: the key under which pages of a context are spilled. -/
def spillKey (s : State) (c : AtnCtx) : List Byte :=
  match (getPetal s c.petal).bind (fun x => slotKey x (xSlot c) 1) with
  | some k => sha3 ([0x59, 0x31, 0x2D, 0x53, 0x50, 0x49, 0x4C, 0x4C] ++ leBytes 16 k.salt.toNat ++ keyBytes k 32)
  | none => []

/-- R240: the AAD of a page. -/
def spillAad (c : AtnCtx) (seq key : Nat) : List Byte := leBytes 4 c.num ++ leBytes 4 seq ++ leBytes 4 (key / 4096) ++ leBytes 4 (key % 4096)

/-- The first block of a spill slot in its volume, and its blocks. -/
def spillBlock (c : AtnCtx) (slot : Nat) : Nat := (xSpillBase c + slot * xSpillSlot c) / 4096
def spillBlocks (c : AtnCtx) : Nat := xSpillSlot c / 4096

/-- Does the volume serve a read of a spill slot? `ok` is what its targets answer where they are needed. -/
def spillServed (s : State) (c : AtnCtx) (slot : Nat) (ok : Bool) : Bool :=
  match getVol s c.petal (xVolume c) with
  | none => false
  | some v =>
    volReady v && !cacheBad s v (spillBlock c slot) (spillBlocks c) &&
      (!missing v (spillBlock c slot) (spillBlocks c) || (ok && backed s v))

/-- R240: reads a page back and verifies it: its plaintext, or the failure that it meets from now on. -/
def readBack (s : State) (c : AtnCtx) (seq key slot : Nat) (bad : Option (Nat × Nat)) (ok : Bool) : State × Except (Nat × Nat) (List Byte) :=
  match bad with
  | some f => (s, .error f)
  | none =>
    let mark (s : State) (f : Nat × Nat) : State :=
      modSeq s c.petal c.num seq (fun q => { q with pages := put q.pages key (.spilled slot (some f)) })
    if spillServed s c slot ok = false then (mark s (stDeviceFault, dtSpillIo), .error (stDeviceFault, dtSpillIo))
    else
      let r := readBlocks (spillBlocks c) s c.petal (xVolume c) (spillBlock c slot)
      let b := r.2
      let s := count r.1 kAtn (ctxKey c.petal c.num) 5 1
      match gcmDecrypt (spillKey s c) (b.take 12) (spillAad c seq key) ((b.drop 32).take (xPage c)) ((b.drop 16).take 16) with
      | some pt => (s, .ok pt)
      | none => (mark (count s kAtn (ctxKey c.petal c.num) 7 1) (stAuthFailed, dtSpillAuth), .error (stAuthFailed, dtSpillAuth))

/-- A page goes from the spill region to a slot of the arena. -/
def unspill (s : State) (c : AtnCtx) (seq key : Nat) (pt : List Byte) : State :=
  let t := takeSlot s c key
  memPut (modSeq t.1 c.petal c.num seq (fun q => { q with pages := put q.pages key (.arena t.2) })) c.petal (slotPda c t.2) pt

/-! ### Appending (R229) -/

/-- The keys and values of one token go to their places in a page slot (R220, R228). -/
def putToken (s : State) (c : AtnCtx) (slot t : Nat) (bytes : List Byte) : State :=
  let r := xRec c
  (List.range (xKvHeads c)).foldl (fun s h =>
    let s := memPut s c.petal (slotPda c slot + (h * 256 + t) * r) ((bytes.drop (h * r)).take r)
    memPut s c.petal (slotPda c slot + xPage c / 2 + (h * 256 + t) * r) ((bytes.drop ((xKvHeads c + h) * r)).take r)) s

/-- Appends tokens one by one to allocated pages. -/
def putTokens : Nat → State → AtnCtx → Nat → Nat → List Byte → State
  | 0, s, _, _, _, _ => s
  | k + 1, s, c, seq, layer, bytes =>
    match (getCtx s c.petal c.num).bind (fun c => look c.seqs seq) with
    | none => s
    | some q =>
      let len := lenOf q layer
      let s := match look q.pages (pageKey layer (len / 256)) with
        | some (.arena slot) => putToken s c slot (len % 256) bytes
        | _ => s
      putTokens k (modSeq s c.petal c.num seq (fun q => { q with lens := put q.lens layer (len + 1) })) c seq layer (bytes.drop (xToken c))

/-- R221: allocates map slots and pages. -/
def allocPages (s : State) (c : AtnCtx) (seq layer n : Nat) : State :=
  match (getCtx s c.petal c.num).bind (fun c => look c.seqs seq) with
  | none => s
  | some q =>
    let fresh_ := newPages q layer n
    let maps := mapSlots c (q.pages.length + fresh_.length) - q.maps.length
    let s := (List.range maps).foldl (fun s i =>
      let t := takeSlot s ((getCtx s c.petal c.num).getD c) (2 ^ 40 + i)
      modSeq t.1 c.petal c.num seq (fun q => { q with maps := q.maps ++ [t.2] })) s
    fresh_.foldl (fun s g =>
      let t := takeSlot s ((getCtx s c.petal c.num).getD c) (2 ^ 44 + g)
      modSeq t.1 c.petal c.num seq (fun q => { q with pages := put q.pages (pageKey layer g) (.arena t.2) })) s

/-- R229, R240: appends n tokens to a layer of a sequence, as one step: the failure that it meets, and the pages read back. -/
def appendTokens (s : State) (c : AtnCtx) (seq : Nat) (q : AtnSeq) (layer n : Nat) (bytes : List Byte) (ok : Bool) : State × Except (Nat × Nat) Nat :=
  if n = 0 then (s, .ok 0)
  else if q.maxTokens < lenOf q layer + n then (s, .error (stLengthError, dtSeqFull))
  else if freeSlotCount s c < slotsNeeded c q layer n then (s, .error (stNoResources, dtArenaFull))
  else
    let r : State × Except (Nat × Nat) Nat :=
      match tailSpilled q layer n with
      | none => (s, .ok 0)
      | some (page, k, bad) =>
        match readBack s c seq (pageKey layer page) k bad ok with
        | (s, .ok pt) => (unspill s ((getCtx s c.petal c.num).getD c) seq (pageKey layer page) pt, .ok 1)
        | (s, .error f) => (s, .error f)
    match r with
    | (s, .error f) => (s, .error f)
    | (s, .ok filled) =>
      let s := putTokens n (allocPages s ((getCtx s c.petal c.num).getD c) seq layer n) c seq layer bytes
      (count s kAtn (ctxKey c.petal c.num) 2 n, .ok filled)

/-! ### Spilling (R240) -/

/-- The keys of a sequence's pages that are being spilled. -/
def spillingOf (c : AtnCtx) (seq : Nat) : List Nat := (c.spilling.filter (fun w => w.seq == seq)).map (·.key)

/-- R240: the sequences that may give pages, in the order of choice. -/
def spillSeqs (s : State) (c : AtnCtx) : List (Nat × AtnSeq) :=
  sortBy (fun e => match e.2.attended with | some t => t.toNat + 1 | none => 0) (c.seqs.filter (fun e =>
    e.2.spillOk && !e.2.destroying && !e.2.excluded && !(ctxEntries s c.petal c.num).any (fun a => a.started.isSome && aeSeq (eh a) == e.1)))

/-- R240: the victims: sequence, page key and arena slot. A page that reads uncorrectable is passed over. -/
def spillVictims (s : State) (c : AtnCtx) : List (Nat × Nat × Nat) :=
  (spillSeqs s c).flatMap (fun e => e.2.pages.filterMap (fun g =>
    match g.2 with
    | .arena k =>
      if (spillingOf c e.1).contains g.1 ∨ (poisonIn s c.petal (slotPda c k) (xPage c)).isSome then none else some (e.1, g.1, k)
    | _ => none))

/-- The spill slots in use. -/
def usedSpill (c : AtnCtx) : List Nat :=
  c.seqs.flatMap (fun e => e.2.pages.filterMap (fun g => match g.2 with | .spilled k _ => some k | _ => none)) ++ c.spilling.map (·.spill)

/-- R240: one page is encrypted and its Scroll write begins; none where no spill slot is free. -/
def spillPage (s : State) (c : AtnCtx) (v : Nat × Nat × Nat) : Option State :=
  let used := usedSpill c
  if xSpillSlots c ≤ used.length then none
  else
    let slot := pickSlot used (xSpillSlots c) used.length (freeVal s (2 ^ 131 + v.2.1) % max 1 (xSpillSlots c))
    match (getPetal s c.petal).bind (fun x => slotKey x (xSlot c) 1), look c.seqs v.1 with
    | some k, some q =>
      let n := k.ivCounter + 1
      let iv := leBytes 8 n.toNat ++ leBytes 4 slot
      let tokens := min 256 (lenOf q (v.2.1 / 4096) - 256 * (v.2.1 % 4096))
      let ct := gcmEncrypt (spillKey s c) iv (spillAad c v.1 v.2.1) (memRead s c.petal (slotPda c v.2.2) (xPage c))
      let pad := (List.range (xSpillSlot c - xPage c - 32)).map (fun i => BitVec.ofNat 8 (freeVal s (2 ^ 132 + v.2.1 * 2 ^ 20 + i)))
      let s := modPetal (touch s c.petal (slotPda c v.2.2) (xPage c)) c.petal (fun x =>
        { x with keySlots := upd x.keySlots (xSlot c) (fun k => { k with ivCounter := n }) })
      some (modCtx s c.petal c.num (fun c =>
        { c with spilling := c.spilling ++ [⟨v.1, v.2.1, v.2.2, slot, iv ++ leBytes 4 tokens ++ ct.2 ++ ct.1 ++ pad⟩] }))
    | _, _ => none

/-- R240: spills victims until the free slots, with those about to be freed, reach high-water; a want of spill slots ends it. -/
def spillMany : List (Nat × Nat × Nat) → State → Nat → Nat → State
  | [], s, _, _ => s
  | v :: vs, s, p, n =>
    match getCtx s p n with
    | none => s
    | some c =>
      if xHigh c * xUsable c ≤ 100 * (freeSlotCount s c + c.spilling.length) then s
      else
        match spillPage s c v with
        | some s => spillMany vs s p n
        | none => count s kAtn (ctxKey p n) 6 1

/-- The tokens that an entry has to append. -/
def aeTokens (h : Nat) : Nat := if aeOp h = aAppend then aeInline h + aeCount h else aeInline h

/-- Does an entry of a context lack slots for its append? -/
def shortOf (s : State) (c : AtnCtx) (e : AtnEntry) : Bool :=
  match look c.seqs (aeSeq (eh e)) with
  | some q =>
    aeTokens (eh e) != 0 && decide (lenOf q (aeLayer (eh e)) + aeTokens (eh e) ≤ q.maxTokens) &&
      decide (freeSlotCount s c < slotsNeeded c q (aeLayer (eh e)) (aeTokens (eh e)))
  | none => false

/-- R240: does the context spill now: below low-water, or with an entry that lacks slots (R229)? -/
def spillDue (s : State) (c : AtnCtx) : Bool :=
  xLow c != 0 && (decide (100 * freeSlotCount s c < xLow c * xUsable c) || (ctxEntries s c.petal c.num).any (shortOf s c)) &&
    decide (100 * (freeSlotCount s c + c.spilling.length) < xHigh c * xUsable c)

/-- R229: may spilling still free slots for an entry that lacks them? -/
def spillHelps (s : State) (c : AtnCtx) : Bool :=
  !c.spilling.isEmpty || (spillDue s c && !(spillVictims s c).isEmpty && decide ((usedSpill c).length < xSpillSlots c))

/-- ATN_SPILL (R240). -/
def execAtnSpill (p : PetalId) (n : Fin 16) (s : State) : Host.Outcome State Fault Refusal :=
  .next (match getCtx s p.val n.val with
    | some c => if c.closing = false ∧ keyPresent s p.val = true ∧ spillDue s c = true then
        let s := fresh s
        spillMany (spillVictims s c) s p.val n.val
      else s
    | none => s)

/-- Can the volume take a spill write now? -/
def spillRoom (s : State) (c : AtnCtx) (w : SpillWrite) : Bool :=
  match getVol s c.petal (xVolume c) with
  | some v => roomFor v (spillBlock c w.spill) (spillBlocks c)
  | none => true

/-- R240: the oldest spill write of a context completes: its page leaves the arena; or it fails, and its sequence is excluded. -/
def spillWritten (s : State) (c : AtnCtx) (w : SpillWrite) (ok : Bool) : State :=
  let p := c.petal
  let s := modCtx (fresh s) p c.num (fun c => { c with spilling := c.spilling.drop 1 })
  let served := ((getVol s p (xVolume c)).map volReady).getD false
  let s :=
    if ok && served then
      let s := writeBlocks (spillBlocks c) s p (xVolume c) (spillBlock c w.spill) w.bytes
      let held := ((look c.seqs w.seq).bind (fun q => look q.pages w.key)) == some (.arena w.slot)
      if held then
        count (modSeq s p c.num w.seq (fun q => { q with pages := put q.pages w.key (.spilled w.spill none) })) kAtn (ctxKey p c.num) 4 1
      else s
    else modSeq s p c.num w.seq (fun q => { q with excluded := true })
  endCtx (endSeq s p c.num w.seq) p c.num

/-- ATN_SPILL_WRITE_DONE (R240). -/
def execAtnSpillWriteDone (p : PetalId) (n : Fin 16) (ok : Bool) (s : State) : Host.Outcome State Fault Refusal :=
  .next (match getCtx s p.val n.val with
    | some c => match c.spilling with
      | w :: _ => if spillRoom s c w then spillWritten s c w ok else s
      | [] => s
    | none => s)

/-! ### Attention (R238, R239) -/

/-- R238: the first and one past the last position that query token i attends, among `len`. -/
def attendedOf (h len i : Nat) : Nat × Nat :=
  let p := aePos h + i
  (if aeWindow h = 0 then 0 else p + 1 - aeWindow h, if aeCausal h then min len (p + 1) else len)

/-- The pages that an ATTEND reads: those that hold an attended position. -/
def neededPages (h len : Nat) : List Nat :=
  (List.range ((len + 255) / 256)).filter (fun g => (List.range (aeQ h)).any (fun i =>
    let a := attendedOf h len i
    decide (max a.1 (256 * g) < min a.2 (256 * g + 256))))

/-- Does an exact value stand for a NaN or an infinity? -/
def notFinite (x : XV) : Bool := match x with | .fin _ _ => false | _ => true

/-- R220: is an element of a stored record NaN or infinite? -/
def badRecord (c : AtnCtx) (bytes : List Byte) : Bool :=
  let d := xDim c
  match xKvFmt c with
  | 3 => (List.range d).any (fun j => notFinite (mxValue .e4m3 ((bytes[d + j / 32]?).getD 0).toNat ((bytes[j]?).getD 0).toNat))
  | 2 => (elems (leNat bytes) 16 d).any (fun x => notFinite (decodeX .bf16 x))
  | 1 => (bytes.take d).any (fun x => notFinite (decodeX .e5m2 x.toNat))
  | _ => (bytes.take d).any (fun x => notFinite (decodeX .e4m3 x.toNat))

/-- Is an element of the query of a row NaN or infinite? -/
def badQuery (c : AtnCtx) (body : List Byte) (i hd : Nat) : Bool :=
  let w := (xQFmt c).width / 8
  let at_ := (i * xQHeads c + hd) * xDim c * w
  (elems (leNat ((body.drop at_).take (xDim c * w))) (xQFmt c).width (xDim c)).any (fun x => notFinite (decodeX (xQFmt c) x))

/-- Is the key or value of a token in a page's bytes NaN or infinite, for KV head g? -/
def badToken (c : AtnCtx) (page : List Byte) (g t : Nat) : Bool :=
  let r := xRec c
  badRecord c ((page.drop ((g * 256 + t) * r)).take r) || badRecord c ((page.drop (xPage c / 2 + (g * 256 + t) * r)).take r)

/-- R238, R239: the kind of a row: 0 nothing attended, 1 NaN or infinity attended, 2 neither. -/
def rowKind (c : AtnCtx) (h len : Nat) (body : List Byte) (pages : Tbl (List Byte)) (i hd : Nat) : Nat :=
  let a := attendedOf h len i
  if a.2 ≤ a.1 then 0
  else if badQuery c body i hd ∨ (List.range' a.1 (a.2 - a.1)).any (fun t =>
      badToken c (lookD pages (t / 256) []) (hd * xKvHeads c / xQHeads c) (t % 256)) then 1
  else 2

def rowKinds (c : AtnCtx) (h len : Nat) (body : List Byte) (pages : Tbl (List Byte)) : List Nat :=
  (List.range (aeQ h)).flatMap (fun i => (List.range (xQHeads c)).map (rowKind c h len body pages i))

/-- What an ATTEND gathers: page contents, the arena slots it reads, the pages read back. -/
structure Gather where
  st : State
  pages : Tbl (List Byte)
  view : Tbl Nat
  filled : Nat
  fail : Option (Nat × Nat)

/-- R240: one needed page: from the arena, or read back; a page read back stays in the arena where a slot above low-water is
free. -/
def gatherPage (c : AtnCtx) (seq layer : Nat) (ok : Bool) (x : Gather) (g : Nat) : Gather :=
  if x.fail.isSome then x
  else
    let key := pageKey layer g
    match (getCtx x.st c.petal c.num).bind (fun c => (look c.seqs seq).bind (fun q => look q.pages key)) with
    | some (.arena k) =>
      if (poisonIn x.st c.petal (slotPda c k) (xPage c)).isSome then { x with st := touch x.st c.petal (slotPda c k) (xPage c), fail := some (stDeviceFault, dtAtnUncorrectable) }
      else
        { x with
          st := touch x.st c.petal (slotPda c k) (xPage c)
          pages := put x.pages g (memRead x.st c.petal (slotPda c k) (xPage c))
          view := put x.view key k }
    | some (.spilled k bad) =>
      match readBack x.st c seq key k bad ok with
      | (s, .ok pt) =>
        let c' := (getCtx s c.petal c.num).getD c
        let s := if xLow c * xUsable c < 100 * freeSlotCount s c' then unspill s c' seq key pt else s
        let view := match (getCtx s c.petal c.num).bind (fun c => (look c.seqs seq).bind (fun q => look q.pages key)) with
          | some (.arena k) => put x.view key k
          | _ => x.view
        { x with st := s, pages := put x.pages g pt, view := view, filled := x.filled + 1 }
      | (s, .error f) => { x with st := s, fail := some f }
    | none => x

/-- R239: the output elements of a row, and its log-sum-exp. What the rules bound and do not fix is free. -/
def rowOut (s : State) (c : AtnCtx) (row kind : Nat) : List Byte :=
  let f := xOutFmt c
  (List.range (xDim c)).flatMap (fun j => leBytes (f.width / 8)
    (if kind = 0 then 0 else if kind = 1 then f.nanBits else freeVal s (2 ^ 140 + row * 1024 + j)))
def rowLse (s : State) (row kind : Nat) : List Byte :=
  leBytes 4 (if kind = 0 then 0xFF800000 else if kind = 1 then 0x7FC00000 else freeVal s (2 ^ 141 + row))

/-- Writes the outputs of an ATTEND; why a bus write failed. -/
def writeOut (s : State) (e : AtnEntry) (bind : Nat) (out lse : List Byte) : State × Option Nat :=
  match bufWrite s e.petal bind (aeOut (eh e)) out with
  | (s, some st) => (s, some st)
  | (s, none) => if aeLse (eh e) then bufWrite s e.petal bind (aeLseAt (eh e)) lse else (s, none)

/-- R236: the output buffers hold unspecified data. -/
def spoilOut (s : State) (e : AtnEntry) (c : AtnCtx) (bind : Nat) : State :=
  let bytes (n base : Nat) : List Byte := (List.range n).map (fun i => BitVec.ofNat 8 (freeVal s (2 ^ base + i)))
  if eOp e = aAttend then (writeOut s e bind (bytes (outBytes c (eh e)) 142) (bytes (lseBytes c (eh e)) 143)).1 else s

/-! ### Start (R229, R231) -/

/-- R231: may an entry start? Spill writes of its sequence are over. -/
def atnStartable (s : State) (c : AtnCtx) (e : AtnEntry) : Bool :=
  let mine := ringEntries s e.petal e.ctx e.ring
  let before := mine.filter (fun x => decide (x.ord < e.ord))
  e.started.isNone && before.all (fun x => x.started.isSome) && decide ((mine.filter (fun x => x.started.isSome)).length < 64) &&
  before.all (fun x => aeSeq (eh x) != aeSeq (eh e)) && !c.spilling.any (fun w => w.seq == aeSeq (eh e)) &&
  !(aeOp (eh e) == aAttend && shortOf s c e && spillHelps s c)

/-- R229: an ATTEND starts: its inline tokens are appended, the length is taken, and its pages are gathered. -/
def startAttend (s : State) (c : AtnCtx) (e : AtnEntry) (q : AtnSeq) (ok : Bool) : State :=
  let h := eh e
  let p := e.petal
  let seq := aeSeq h
  let s := modSeq s p e.ctx seq (fun q => { q with attended := some s.elapsed, excluded := false })
  match appendTokens s c seq q (aeLayer h) (aeInline h) (e.body.drop (queryBytes c h)) ok with
  | (s, .error f) => modAtn s p e.tag (fun e => { e with fail := some f })
  | (s, .ok back) =>
    let len := lenOf (((getCtx s p e.ctx).bind (fun c => look c.seqs seq)).getD q) (aeLayer h)
    let need := neededPages h len
    let g := need.foldl (gatherPage c seq (aeLayer h) ok) ⟨s, [], [], back, none⟩
    let s := if g.fail.isSome then g.st else count g.st kAtn (ctxKey p e.ctx) 3 (need.length * xPage c)
    modAtn s p e.tag (fun e => { e with
      len := len, view := g.view, rows := rowKinds c h len e.body g.pages, filled := g.filled, fail := g.fail })

/-- R229, R230: an entry starts. -/
def startAtn (s : State) (c : AtnCtx) (r : AtnRing) (e : AtnEntry) (ok : Bool) : State :=
  let s := fresh s
  let h := eh e
  match look c.seqs (aeSeq h) with
  | none => finishAtn s e stNotFound dtSeqUnknown 0
  | some q =>
    if q.destroying then finishAtn s e stNotFound dtSeqUnknown 0
    else
      let s := modAtn s e.petal e.tag (fun e => { e with started := some s.elapsed })
      if e.badBody then modAtn s e.petal e.tag (fun e => { e with fail := some (stDeviceFault, dtAtnUncorrectable) })
      else if aeOp h = aAttend then startAttend s c e q ok
      else if aeOp h = aAppend ∧ 0 < aeCount h then dmaIssue s e.petal r.bind (aeSrc h) e.tag
      else s

/-- ATN_ENTRY_START (R231): `ok` is what the spill volume's targets answer where a page is read back. -/
def execAtnEntryStart (p : PetalId) (tag : BitVec 13) (ok : Bool) (s : State) : Host.Outcome State Fault Refusal :=
  .next (match findAtn s p.val tag.toNat with
    | some e =>
      match getCtx s p.val e.ctx, getPetal s p.val with
      | some c, some x =>
        match look c.rings e.ring with
        | some r => if x.st = .active ∧ atnStartable s c e = true ∧ keyPresent s p.val = true then startAtn s c r e ok else s
        | none => s
      | _, _ => s
    | none => s)

/-! ### The end of an entry -/

/-- An ATTEND ends: its outputs are written. Flags are those of the service's Nibs; invalid is set where R239 sets it. -/
def endAttend (s : State) (c : AtnCtx) (r : AtnRing) (e : AtnEntry) : State :=
  let kinds := e.rows
  let out := (kinds.mapIdx (fun i k => rowOut s c i k)).flatten
  let lse := (kinds.mapIdx (fun i k => rowLse s i k)).flatten
  let flags := if kinds.all (· == 0) then 0 else (freeVal s (2 ^ 144) % 256) ||| (if kinds.contains 1 then flInvalid else 0)
  match writeOut s e r.bind out lse with
  | (s, none) => finishAtn s e stOk 0 flags
  | (s, some st) => finishAtn s e st dtAtnAccelDma flags

/-- R229: an APPEND takes effect. -/
def endAppend (s : State) (c : AtnCtx) (r : AtnRing) (e : AtnEntry) (ok : Bool) : State :=
  let h := eh e
  let n := aeCount h * xToken c
  match (if aeCount h = 0 then none else bufWhy s e.petal r.bind (aeSrc h) false), look c.seqs (aeSeq h) with
  | some st, _ => finishAtn s e st dtAtnAccelDma 0
  | none, none => finishAtn s e stNotFound dtSeqUnknown 0
  | none, some q =>
    if dmaFailed s e.petal e.tag then finishAtn s e stDeviceFault dtAtnAccelDma 0
    else if aeCount h ≠ 0 ∧ bufPoison s e.petal (aeSrc h) n then
      finishAtn (bufTouch s e.petal (aeSrc h) n) e stDeviceFault dtAtnUncorrectable 0
    else
      let src := if aeCount h = 0 then [] else bufRead s e.petal r.bind (aeSrc h) n
      let s := if aeCount h = 0 then s else bufTouch s e.petal (aeSrc h) n
      match appendTokens s c (aeSeq h) q (aeLayer h) (aeInline h + aeCount h) (e.body ++ src) ok with
      | (s, .ok back) => finishAtn s { e with filled := back } stOk 0 0
      | (s, .error f) => finishAtn s e f.1 f.2 0

/-- R229: the lengths of every layer are cut, and pages that hold no token any more are freed. -/
def truncateSeq (n : Nat) (q : AtnSeq) : AtnSeq :=
  let lens := q.lens.map (fun e => (e.1, min e.2 n))
  { q with lens := lens, pages := q.pages.filter (fun e => decide (256 * (e.1 % 4096) < lookD lens (e.1 / 4096) 0)) }

/-- R229: a TRUNCATE takes effect. -/
def endTruncate (s : State) (c : AtnCtx) (e : AtnEntry) : State :=
  finishAtn (modSeq s c.petal c.num (aeSeq (eh e)) (truncateSeq (aeCount (eh e)))) e stOk 0 0

/-- The completion of a running entry. -/
def completeAtn (s : State) (c : AtnCtx) (r : AtnRing) (e : AtnEntry) (ok : Bool) : State :=
  let s := fresh s
  match e.fail with
  | some f => finishAtn (spoilOut s e c r.bind) e f.1 f.2 0
  | none =>
    if eOp e = aAttend then endAttend s c r e
    else if eOp e = aAppend then endAppend s c r e ok
    else endTruncate s c e

/-- Is a running entry able to complete: its bus read done, and its append not waiting for spilling (R229)? -/
def atnCanEnd (s : State) (c : AtnCtx) (e : AtnEntry) : Bool :=
  e.started.isSome && !dmaPending s e.petal e.tag && !(eOp e == aAppend && e.fail.isNone && shortOf s c e && spillHelps s c)

/-- ATN_ENTRY_COMPLETE (R232): `ok` is what the spill volume's targets answer where an APPEND reads a page back. -/
def execAtnEntryComplete (p : PetalId) (tag : BitVec 13) (ok : Bool) (s : State) : Host.Outcome State Fault Refusal :=
  .next (match findAtn s p.val tag.toNat with
    | some e =>
      match getCtx s p.val e.ctx with
      | some c =>
        match look c.rings e.ring with
        | some r => if atnCanEnd s c e then completeAtn s c r e ok else s
        | none => s
      | none => s
    | none => s)

/-- The bindings of an entry's ring. -/
def ringBind (s : State) (e : AtnEntry) : Nat := (((getCtx s e.petal e.ctx).bind (fun c => look c.rings e.ring)).map (·.bind)).getD 0xF

/-- A running ATTEND is stopped. -/
def stopAttend (s : State) (e : AtnEntry) (status detail : Nat) : State :=
  match getCtx s e.petal e.ctx with
  | some c => finishAtn (spoilOut s e c (ringBind s e)) e status detail (freeVal s (2 ^ 144))
  | none => s

/-- ATN_ENTRY_TIMEOUT (R230). -/
def execAtnEntryTimeout (p : PetalId) (tag : BitVec 13) (s : State) : Host.Outcome State Fault Refusal :=
  .next (match findAtn s p.val tag.toNat with
    | some e =>
      match e.started with
      | some t =>
        let ms := aeTimeout (eh e)
        if ms ≠ 0 ∧ elapsedAtLeast s t (ms * 1000000) then stopAttend (fresh s) e stTimeout dtEntryTimeout else s
      | none => s
    | none => s)

/-! ### Abort and destruction (R236, R237) -/

/-- R236: aborts an accepted entry. The answer is false where it runs on. -/
def abortAtn (s : State) (e : AtnEntry) : State × Bool :=
  if e.started.isNone then (finishAtn s e stAborted dtEntryAborted 0, true)
  else if eOp e = aAttend then (stopAttend s e stAborted dtEntryAborted, true)
  else (s, false)

def cmdAtnAbort : Cmd := ⟨0x0520, .own, true, 0x14, false, [(0x10, 0, 8), (0x12, 0, 13)], noObj⟩
def bodyAtnAbort (m : Mbx) (s : State) : State × Ans :=
  let p := m.page.val
  let tag := mf m 0x12 0 13
  match (ringEntries s p (mf m 0x10 0 4) (mf m 0x10 4 4)).find? (fun e => e.tag == tag) with
  | none => (s, ansErr stNotFound 0)
  | some e =>
    let r := abortAtn (fresh s) e
    (r.1, if r.2 then ansOk else .pend (.taskEnd p tag false))
/-- ATN_ABORT (R236). -/
def execAtnAbort (m : Mbx) (s : State) : Host.Outcome State Fault Refusal := .next (mailbox cmdAtnAbort bodyAtnAbort m s)

/-- R237: a ring stops accepting and its entries are aborted, oldest first. -/
def closeRing (s : State) (p n k : Nat) : State :=
  let s := modRing s p n k (fun r => { r with ring := { r.ring with closing := true } })
  endRing ((ringEntries s p n k).foldl (fun s e => (abortAtn s e).1) s) p n k

def ringObj (m : Mbx) : Option (Nat × Nat) := some (okRing, mf m 0x10 0 4 * 16 + mf m 0x10 4 4)

def cmdAtnRingDestroy : Cmd := ⟨0x0503, .own, true, 0x14, false, [(0x10, 0, 8)], ringObj⟩
def bodyAtnRingDestroy (m : Mbx) (s : State) : State × Ans :=
  let p := m.page.val
  let n := mf m 0x10 0 4
  let k := mf m 0x10 4 4
  if ((getCtx s p n).bind (fun c => look c.rings k)).isNone then (s, ansErr stNotFound 0)
  else
    let s := closeRing (fresh s) p n k
    (s, if ((getCtx s p n).bind (fun c => look c.rings k)).isSome then .pend (.objEnd p okRing (n * 16 + k)) else ansOk)
/-- ATN_RING_DESTROY (R237). -/
def execAtnRingDestroy (m : Mbx) (s : State) : Host.Outcome State Fault Refusal := .next (mailbox cmdAtnRingDestroy bodyAtnRingDestroy m s)

/-- R237: a context closes: its rings, then its sequences. -/
def closeCtx (s : State) (p n : Nat) (c : AtnCtx) : State :=
  let s := modCtx s p n (fun c => { c with closing := true })
  let s := c.rings.foldl (fun s e => closeRing s p n e.1) s
  let s := modCtx s p n (fun c => { c with seqs := mapT c.seqs (fun _ q => { q with destroying := true }) })
  endCtx (c.seqs.foldl (fun s e => endSeq s p n e.1) s) p n

def ctxObj (m : Mbx) : Option (Nat × Nat) := some (okCtx, mf m 0x10 0 4)

def cmdAtnCtxDestroy : Cmd := ⟨0x0501, .own, true, 0x14, false, [(0x10, 0, 4)], ctxObj⟩
def bodyAtnCtxDestroy (m : Mbx) (s : State) : State × Ans :=
  let p := m.page.val
  let n := mf m 0x10 0 4
  match getCtx s p n with
  | none => (s, ansErr stNotFound 0)
  | some c =>
    let s := closeCtx (fresh s) p n c
    (s, if (getCtx s p n).isSome then .pend (.objEnd p okCtx n) else ansOk)
/-- ATN_CTX_DESTROY (R237). -/
def execAtnCtxDestroy (m : Mbx) (s : State) : Host.Outcome State Fault Refusal := .next (mailbox cmdAtnCtxDestroy bodyAtnCtxDestroy m s)

/-! ### ATN_CTX_CREATE (R218, R219) -/

/-- R219: the ranges of the fields. -/
def ctxFields (c : AtnCtx) : Bool :=
  decide (xf c 0x10 8 2 ≤ 2) && decide (xKvFmt c ≤ 3) && decide (xf c 0x10 13 3 ≤ 3) && decide (xf c 0x10 16 2 ≤ 2) &&
  decide (1 ≤ xKvHeads c) && decide (xKvHeads c ≤ 64) && decide (1 ≤ xQHeads c) && decide (xQHeads c ≤ 128) && xQHeads c % xKvHeads c == 0 &&
  decide (1 ≤ xLayers c) && decide (xLayers c ≤ 256) && decide (1 ≤ xMaxSeqs c) && decide (xMaxSeqs c ≤ 16384) &&
  decide (1 ≤ xCores c) && decide (xCores c ≤ 512) && decide (xf c 0x18 0 32 < 0x7F800000) &&
  xArena c % 2 ^ 21 == 0 && xMib c % 2 == 0 && decide (xLow c ≤ 99) && decide (xLow c + 1 ≤ xHigh c) && decide (xHigh c ≤ 100) &&
  (xVolume c != 0xFFFFFFFF || xLow c == 0) && xSpillBase c % 4096 == 0 && xSpillBytes c % 4096 == 0

/-- R219: field ranges, the arena inside the slots, and its least number of page slots. -/
def ctxGeometry (c : AtnCtx) (x : Petal) : Bool :=
  ctxFields c && inSlots x (xArena c) (xMib c * 2 ^ 20) && decide (2 * xCores c + 2 ≤ xSlots c)

/-- R219: is the spill volume the petal's, with the spill region inside it? -/
def spillVolumeOk (s : State) (c : AtnCtx) : Bool :=
  xVolume c == 0xFFFFFFFF ||
    (match (if xVolume c < 256 then getVol s c.petal (xVolume c) else none) with
     | some v => volReady v && decide (xSpillBase c + xSpillBytes c ≤ 4096 * vCapacity v)
     | none => false)

/-- R219: the checks in order. -/
def ctxCheck (s : State) (c : AtnCtx) (x : Petal) : Option (Nat × Nat) :=
  if (getCtx s c.petal c.num).isSome then some (stInvalidArgument, dtCtxExists)
  else if ctxGeometry c x = false then some (stInvalidArgument, dtCtxGeometry)
  else if recCores x.record < xFirst c + xCores c then some (stNotPermitted, dtCtxCores)
  else if 16384 < (s.ctxs.map (fun e => xMaxSeqs e.2)).foldl (· + ·) (xMaxSeqs c) then some (stNoResources, dtSeqLimit)
  else if 16 ≤ (s.ctxs.filter (fun e => e.2.petal == c.petal)).length ∨ 256 ≤ s.ctxs.length then some (stNoResources, dtCtxLimit)
  else if xLow c ≠ 0 ∧ (slotKey x (xSlot c) 1).isNone then some (stNotPermitted, dtAtnKeySlot)
  else if spillVolumeOk s c = false then some (stNotPermitted, dtSpillVolume)
  else none

def cmdAtnCtxCreate : Cmd :=
  ⟨0x0500, .own, true, 0x60, false,
   [(0x10, 0, 4), (0x10, 8, 10), (0x14, 0, 25), (0x18, 0, 32), (0x1C, 0, 15), (0x20, 0, 32), (0x28, 0, 48), (0x30, 0, 32), (0x34, 0, 32),
    (0x38, 0, 32), (0x40, 0, 128)], ctxObj⟩
def bodyAtnCtxCreate (m : Mbx) (s : State) : State × Ans :=
  let c : AtnCtx := ⟨m.page.val, mf m 0x10 0 4, BitVec.ofNat 640 m.payload.toNat, [], [], [], false⟩
  match getPetal s m.page.val with
  | none => (s, ansErr stNotFound 0)
  | some x =>
    match ctxCheck s c x with
    | some e => (s, ansErr e.1 e.2)
    | none => (resetGroup (setCtx s c) kAtn (ctxKey c.petal c.num), ansOk)
/-- ATN_CTX_CREATE (R218, R219). -/
def execAtnCtxCreate (m : Mbx) (s : State) : Host.Outcome State Fault Refusal := .next (mailbox cmdAtnCtxCreate bodyAtnCtxCreate m s)

/-! ### ATN_RING_CREATE (R225) -/

/-- R225: the geometry of a ring. -/
def ringGeometry (c : AtnCtx) (x : Petal) (sq cq sqPda cqPda entry : Nat) : Bool :=
  decide (entry % 64 = 0) && decide (128 ≤ entry) && decide (entry ≤ 65536) && ringsFit 4 12 sq 16 sq cq sqPda cqPda entry &&
  inSlots x sqPda (entry * 2 ^ sq) && inSlots x cqPda (32 * 2 ^ cq) &&
  !overlaps sqPda (entry * 2 ^ sq) (xArena c) (xMib c * 2 ^ 20) && !overlaps cqPda (32 * 2 ^ cq) (xArena c) (xMib c * 2 ^ 20)

def cmdAtnRingCreate : Cmd :=
  ⟨0x0502, .own, true, 0x30, false,
   [(0x10, 0, 24), (0x14, 0, 20), (0x18, 0, 32), (0x1C, 0, 32), (0x20, 0, 48), (0x28, 0, 48)], ringObj⟩
def bodyAtnRingCreate (m : Mbx) (s : State) : State × Ans :=
  let p := m.page.val
  let n := mf m 0x10 0 4
  let k := mf m 0x10 4 4
  match getCtx s p n, getPetal s p with
  | some c, some x =>
    if (look c.rings k).isSome then (s, ansErr stInvalidArgument dtRingExists)
    else if bindField (mf m 0x14 16 4) = false then (s, ansErr stInvalidArgument 0)
    else if ringGeometry c x (mf m 0x10 8 8) (mf m 0x10 16 8) (mf m 0x20 0 48) (mf m 0x28 0 48) (mf m 0x18 0 32) = false then
      (s, ansErr stInvalidArgument dtAtnRing)
    else if vectorOf s p (mf m 0x14 0 16) = false ∨ recCounters x.record ≤ mf m 0x1C 0 32 then (s, ansErr stNotPermitted 0)
    else
      let r : AtnRing := ⟨Ring.new (mf m 0x10 8 8) (mf m 0x10 16 8) (mf m 0x20 0 48) (mf m 0x28 0 48) (mf m 0x14 0 16), mf m 0x14 16 4,
        mf m 0x18 0 32, mf m 0x1C 0 32, 0, []⟩
      (modCtx s p n (fun c => { c with rings := put c.rings k r }), ansOk)
  | _, _ => (s, ansErr stNotFound 0)
/-- ATN_RING_CREATE (R225). -/
def execAtnRingCreate (m : Mbx) (s : State) : Host.Outcome State Fault Refusal := .next (mailbox cmdAtnRingCreate bodyAtnRingCreate m s)

/-! ### Sequences (R223, R224) -/

def seqObj (m : Mbx) : Option (Nat × Nat) := some (okSeq, mf m 0x10 0 4 * 16384 + mf m 0x14 0 14)

def cmdAtnSeqCreate : Cmd := ⟨0x0510, .own, true, 0x1C, false, [(0x10, 0, 4), (0x14, 0, 14), (0x18, 0, 22)], seqObj⟩
def bodyAtnSeqCreate (m : Mbx) (s : State) : State × Ans :=
  let p := m.page.val
  let n := mf m 0x10 0 4
  let q := mf m 0x14 0 14
  let t := mf m 0x18 0 21
  match getCtx s p n with
  | none => (s, ansErr stNotFound 0)
  | some c =>
    if xMaxSeqs c ≤ q ∨ t = 0 ∨ 1048576 < t then (s, ansErr stInvalidArgument 0)
    else
      match look c.seqs q with
      | some x => if x.destroying then (s, .pend .again) else (s, ansErr stInvalidArgument dtSeqExists)
      | none =>
        if c.closing then (s, ansErr stNotFound 0)
        else
          (modCtx s p n (fun c => { c with seqs := put c.seqs q ⟨t, mf m 0x18 21 1 == 1, false, [], [], [], none, false⟩ }), ansOk)
/-- ATN_SEQ_CREATE (R224). -/
def execAtnSeqCreate (m : Mbx) (s : State) : Host.Outcome State Fault Refusal := .next (mailbox cmdAtnSeqCreate bodyAtnSeqCreate m s)

def cmdAtnSeqDestroy : Cmd := ⟨0x0511, .own, true, 0x18, false, [(0x10, 0, 4), (0x14, 0, 14)], seqObj⟩
def bodyAtnSeqDestroy (m : Mbx) (s : State) : State × Ans :=
  let p := m.page.val
  let n := mf m 0x10 0 4
  let q := mf m 0x14 0 14
  match (getCtx s p n).bind (fun c => look c.seqs q) with
  | none => (s, ansErr stNotFound dtSeqUnknown)
  | some _ =>
    let s := endSeq (modSeq s p n q (fun x => { x with destroying := true })) p n q
    (s, if ((getCtx s p n).bind (fun c => look c.seqs q)).isSome then .pend (.objEnd p okSeq (n * 16384 + q)) else ansOk)
/-- ATN_SEQ_DESTROY (R224). -/
def execAtnSeqDestroy (m : Mbx) (s : State) : Host.Outcome State Fault Refusal := .next (mailbox cmdAtnSeqDestroy bodyAtnSeqDestroy m s)

/-! ### The petal's part, and the gauges (R242, R276, R280) -/

def atnRunning (s : State) (p : Nat) : Bool := s.atnEntries.any (fun e => e.petal == p && e.started.isSome)

/-- R276: running entries are stopped as by their own abort. -/
def stopAtn (s : State) (p : Nat) : State :=
  (s.atnEntries.filter (fun e => e.petal == p && e.started.isSome)).foldl (fun s e => (abortAtn s e).1) (fresh s)

/-- R280, R281: contexts of a petal go: accepted entries complete with ABORTED and add to no counter, or are discarded. -/
def removeAtn (s : State) (p : Nat) (discard : Bool) : State :=
  let mine := s.atnEntries.filter (fun e => e.petal == p)
  let s := if discard then s
    else mine.foldl (fun s e => atnCount (ringRecord s p e.ctx e.ring e.tag stAborted (atnResult s e) dtEntryAborted true) p e.ctx stAborted) s
  { s with
    atnEntries := s.atnEntries.filter (fun e => e.petal != p)
    ctxs := s.ctxs.filter (fun e => e.2.petal != p) }

/-- R242: the gauges of a context: sequences, free slots, pages in the spill region. -/
def atnGauges (s : State) (c : AtnCtx) : List Nat :=
  [c.seqs.length, freeSlotCount s c,
   (c.seqs.map (fun e => (e.2.pages.filter (fun g => match g.2 with | .spilled _ _ => true | _ => false)).length)).foldl (· + ·) 0]

end Sys2Proof.Machine
end

