-- ==== Sys2Proof/Machine/Cipher.lean ====
section
/-!
DEFINITION. The cipher engine: request queues, validation, execution and completion of requests (R457 to R465).
-/

namespace Sys2Proof.Machine

/-! ### Detail codes (R471) -/
def dtCphReserved : Nat := 0x80
def dtCphTagRange : Nat := 0x81
def dtCphTagInUse : Nat := 0x82
def dtCphOpForm : Nat := 0x83
def dtKeySlot : Nat := 0x84
def dtCphLength : Nat := 0x85
def dtCphBuffer : Nat := 0x86
def dtCphOverlap : Nat := 0x87
def dtCphCounter : Nat := 0x88
def dtTagMismatch : Nat := 0x89
def dtKeyDestroyed : Nat := 0x8A
def dtPetalKeyAbsent : Nat := 0x8B
def dtCphUncorrectable : Nat := 0x8C
def dtCphAccelDma : Nat := 0x8D
def dtCphDescriptor : Nat := 0x8E
def dtReqAborted : Nat := 0x8F
def dtCphQueueExists : Nat := 0x90
def dtCphGeometry : Nat := 0x91

def kCph : Nat := 0x10
def okCphQueue : Nat := 5
def okKeySlot : Nat := 6

def cphKey (p q : Nat) : Nat := p * 64 + q
def getCph (s : State) (p q : Nat) : Option CphQueue := look s.cphQs (cphKey p q)
def setCph (s : State) (p q : Nat) (r : CphQueue) : State := { s with cphQs := put s.cphQs (cphKey p q) r }

/-! ### Queues (R457, R458) -/

def cmdCphQueueCreate : Cmd :=
  ⟨0x0810, .own, true, 0x28, false,
   [(0x10, 0, 6), (0x10, 8, 20), (0x14, 0, 16), (0x18, 0, 64), (0x20, 0, 64)], fun m => some (okCphQueue, mf m 0x10 0 6)⟩
def bodyCphQueueCreate (m : Mbx) (s : State) : State × Ans :=
  let p := m.page.val
  let q := mf m 0x10 0 6
  let sq := mf m 0x10 8 8
  let cq := mf m 0x10 16 8
  let b := mf m 0x10 24 4
  let v := mf m 0x14 0 16
  let sqa := mf m 0x18 0 64
  let cqa := mf m 0x20 0 64
  if (getCph s p q).isSome then (s, ansErr stInvalidArgument dtCphQueueExists)
  else if bindField b = false then (s, ansErr stInvalidArgument 0)
  else if ringsFit 4 12 sq 16 sq cq sqa cqa 128 = false then (s, ansErr stInvalidArgument dtCphGeometry)
  else if ringOk s p b sqa (128 * 2 ^ sq) = false ∨ ringOk s p b cqa (32 * 2 ^ cq) = false ∨ vectorOf s p v = false then
    (s, ansErr stNotPermitted 0)
  else (setCph s p q ⟨Ring.new sq cq sqa cqa v, b⟩, ansOk)
/-- CPH_QUEUE_CREATE (R457). -/
def execCphQueueCreate (m : Mbx) (s : State) : Host.Outcome State Fault Refusal :=
  .next (mailbox cmdCphQueueCreate bodyCphQueueCreate m s)

/-- The effect of the doorbell. -/
def cphSqTail (p : PetalId) (q : Fin 64) (v : W32) (s : State) : State :=
  match getCph s p.val q.val with
    | none => s
    | some c => match ringTail c.ring v.toNat with
      | some r => setCph s p.val q.val { c with ring := r }
      | none => doorbellIgnored s p.val
/-- CPH_SQ_TAIL (R458). -/
def execCphSqTail (p : PetalId) (q : Fin 64) (v : W32) (s : State) : Host.Outcome State Fault Refusal := .next (cphSqTail p q v (awake s))

/-- The effect of the doorbell. -/
def cphCqHead (p : PetalId) (q : Fin 64) (v : W32) (s : State) : State :=
  match getCph s p.val q.val with
    | none => s
    | some c => match ringHead c.ring v.toNat with
      | some r => setCph s p.val q.val { c with ring := r }
      | none => doorbellIgnored s p.val
/-- CPH_CQ_HEAD (R458). -/
def execCphCqHead (p : PetalId) (q : Fin 64) (v : W32) (s : State) : Host.Outcome State Fault Refusal := .next (cphCqHead p q v (awake s))

/-! ### The request entry (R459, R460) -/

def ceTag (e : Nat) : Nat := fld e 0 0 13
def ceRec (e : Nat) : Bool := fld e 0 16 1 == 1
def ceSig (e : Nat) : Bool := fld e 0 17 1 == 1
def ceFence (e : Nat) : Bool := fld e 0 18 1 == 1
def ceAlg (e : Nat) : Nat := fld e 4 0 4
def ceSlot (e : Nat) : Nat := fld e 4 16 16
def ceLen (e : Nat) : Nat := fld e 8 0 25
def ceAadLen (e : Nat) : Nat := fld e 0xC 0 17
def ceSrc (e : Nat) : Nat := fld e 0x10 0 64
def ceDst (e : Nat) : Nat := fld e 0x18 0 64
def ceAad (e : Nat) : Nat := fld e 0x20 0 64
def ceTagAddr (e : Nat) : Nat := fld e 0x28 0 64
def ceIv (e : Nat) : Nat := fld e 0x30 0 128
def ceTagIn (e : Nat) : Nat := fld e 0x40 0 128
def ceUnit (e : Nat) : Nat := fld e 0x50 0 25
def ceCounter (e : Nat) : Nat := fld e 0x54 0 32
def ceInc (e : Nat) : Nat := fld e 0x58 0 32

def isGcm (a : Nat) : Bool := a == 1 || a == 2
def isXts (a : Nat) : Bool := a == 3 || a == 4
/-- R197: no address is given. -/
def isNone64 (x : Nat) : Bool := x == 2 ^ 64 - 1

/-- R461, row 1, and the "zero otherwise" fields of R459. -/
def ceReserved (e : Nat) : Bool :=
  let a := ceAlg e
  fld e 0 13 3 == 0 && fld e 0 19 13 == 0 && fld e 4 4 12 == 0 && fld e 8 25 7 == 0 && fld e 0xC 17 15 == 0 &&
  fld e 0x50 25 7 == 0 && fld e 0x5C 0 288 == 0 &&
  (if isGcm a then fld e 0x3C 0 32 == 0 else isXts a || ceIv e == 0) &&
  (a == 2 || a == 6 || ceTagIn e == 0) && (isXts a || ceUnit e == 0)

/-- R460: the fields that an algorithm makes none. -/
def ceForm (e : Nat) : Bool :=
  let a := ceAlg e
  decide (1 ≤ a) && decide (a ≤ 7) &&
  (isGcm a || (isNone64 (ceAad e) && ceAadLen e == 0)) &&
  (!isGcm a || isNone64 (ceAad e) == (ceAadLen e == 0)) &&
  (a == 1 || a == 5 || isNone64 (ceTagAddr e)) &&
  ((a != 5 && a != 6) || isNone64 (ceDst e)) &&
  (a != 7 || ceSlot e == 0xFFFF)

/-- The key kind of an algorithm; SHA3-256 takes none. -/
def ceKind (a : Nat) : Nat := if isGcm a then 1 else if isXts a then 2 else 3

/-- R460: the limits. -/
def ceLimits (e : Nat) : Bool :=
  let n := ceLen e
  if isXts (ceAlg e) then
    let u := ceUnit e
    u % 16 == 0 && decide (16 ≤ u) && decide (u ≤ 2 ^ 24) && n % u == 0 && decide (u ≤ n) && decide (n ≤ 2 ^ 24)
  else decide (n ≤ 2 ^ 24) && decide (ceAadLen e ≤ 65536)

/-- The buffers that a request reads, with their lengths, and those that it writes. -/
def ceReads (e : Nat) : List (Nat × Nat) := (ceSrc e, ceLen e) :: (if isGcm (ceAlg e) then [(ceAad e, ceAadLen e)] else [])
def ceWrites (e : Nat) : List (Nat × Nat) :=
  (if ceAlg e ≤ 4 then [(ceDst e, ceLen e)] else if ceAlg e = 7 then [(ceDst e, 32)] else []) ++
    (if ceAlg e = 1 ∨ ceAlg e = 5 then [(ceTagAddr e, 16)] else [])

/-- Buffers that hold bytes. -/
def heldBufs (l : List (Nat × Nat)) : List (Nat × Nat) := l.filter (fun b => b.2 != 0)

/-- R197: do two buffers share a byte? Buffers of different forms do not. -/
def bufMeet (a b : Nat × Nat) : Bool :=
  match bufAddr a.1, bufAddr b.1 with
  | .pda x, .pda y => overlaps x a.2 y b.2
  | .bus x, .bus y => overlaps x a.2 y b.2
  | _, _ => false

/-- R460: the overlaps that are not permitted. -/
def ceOverlap (c : CphQueue) (e : Nat) : Bool :=
  let rings := [(c.ring.sqPda, 128 * 2 ^ c.ring.sqLog), (c.ring.cqPda, 32 * 2 ^ c.ring.cqLog)]
  let inPlace := decide (ceAlg e ≤ 4) && ceSrc e == ceDst e
  let rest := (if inPlace then (ceReads e).drop 1 else ceReads e)
  let all := ceWrites e ++ rest
  all.any (fun b => rings.any (bufMeet b)) ||
    (List.range all.length).any (fun i => (all.drop (i + 1)).any (fun b => match all[i]? with | some a => bufMeet a b | none => false))

/-- R461: the checks of a request in order. -/
def ceCheck (s : State) (c : CphQueue) (p : Nat) (x : Petal) (e : Nat) : Option (Nat × Nat) :=
  let bufs := heldBufs (ceReads e ++ ceWrites e)
  let key := slotKey x (ceSlot e) (ceKind (ceAlg e))
  let inside (b : Nat × Nat) : Bool :=
    match bufAddr b.1 with
    | .pda a => pdaInside x a b.2
    | .bus _ => decide (c.bind < 4)
    | _ => false
  let isPda (b : Nat × Nat) : Bool := match bufAddr b.1 with | .pda _ => true | _ => false
  if ceReserved e = false then some (stInvalidArgument, dtCphReserved)
  else if recTags x.record ≤ ceTag e then some (stInvalidArgument, dtCphTagRange)
  else if tagHeld x (ceTag e) then some (stInvalidArgument, dtCphTagInUse)
  else if ceForm e = false then some (stInvalidArgument, dtCphOpForm)
  else if ceAlg e ≠ 7 ∧ (key.isNone ∨ ((key.map (·.destroying)).getD false)) then some (stNotPermitted, dtKeySlot)
  else if ceLimits e = false then some (stLengthError, dtCphLength)
  else if bufs.all inside = false then some (stNotPermitted, dtCphBuffer)
  else if bufs.any isPda ∧ keyPresent s p = false then some (stNotPermitted, dtPetalKeyAbsent)
  else if ceOverlap c e then some (stInvalidArgument, dtCphOverlap)
  else if ceSig e ∧ (recCounters x.record ≤ ceCounter e ∨ ceInc e = 0 ∨ 2 ^ 31 ≤ ceInc e) then some (stNotPermitted, dtCphCounter)
  else none

/-! ### Completion (R464) -/

/-- Writes a record into a queue's completion ring. -/
def cphPost (s : State) (p q tag status result detail : Nat) : State :=
  match getCph s p q with
  | none => s
  | some c =>
    let r := ringPostBus s p c.bind c.ring q tag status result detail
    setCph r.1 p q { c with ring := r.2.1 }

def cphRelease (s : State) (p q : Nat) : State :=
  match getCph s p q with
  | some c => setCph s p q { c with ring := { c.ring with reserved := c.ring.reserved - 1 } }
  | none => s

/-- R472: a completion is counted. -/
def cphCount (s : State) (p status detail : Nat) : State :=
  let s := if status = stOk then count s kCph p 0 1 else count s kCph p 1 1
  if status = stAuthFailed ∧ detail = dtTagMismatch then count s kCph p 3 1 else s

/-- R455: a slot whose key is being destroyed is empty once no started request uses it. -/
def endKeySlots (s : State) (p : Nat) : State :=
  match getPetal s p with
  | none => s
  | some x =>
    (x.keySlots.filter (fun e => e.2.destroying)).foldl (fun s e =>
      if s.cphReqs.any (fun r => r.petal == p && r.started && ceSlot r.raw.toNat == e.1 && ceAlg r.raw.toNat != 7) then s
      else
        resolve (count (modPetal s p (fun x => { x with keySlots := del x.keySlots e.1 })) kCph p 7 1)
          (.objEnd p okKeySlot e.1) replyOk) s

/-- R457: a queue whose destruction has begun goes with its last request. -/
def endCph (s : State) (p q : Nat) : State :=
  match getCph s p q with
  | some c =>
    if c.ring.closing && !s.cphReqs.any (fun r => r.petal == p && r.queue == q) then
      resolve { s with cphQs := del s.cphQs (cphKey p q) } (.objEnd p okCphQueue q) replyOk
    else s
  | none => s

/-- R464: a request completes: record, counter add, tag release. -/
def finishCph (s : State) (r : CphReq) (status detail : Nat) : State :=
  let e := r.raw.toNat
  let p := r.petal
  let s := if ceRec e ∨ status ≠ stOk then cphPost s p r.queue r.tag status (if status = stOk then ceLen e else 0) detail
    else cphRelease s p r.queue
  let s := if status = stOk ∧ ceSig e then signal s p (ceCounter e) (ceInc e) else s
  let s := cphCount s p status detail
  let s := { dmaForget (freeTag s p r.tag) p r.tag with
    cphReqs := s.cphReqs.filter (fun x => !(x.petal == p && x.tag == r.tag)) }
  endCph (endKeySlots (resolveTask s p r.tag) p) p r.queue

/-! ### Acceptance (R458, R461) -/

/-- R461: takes the next entry of a queue and validates it. -/
def acceptCph (s : State) (p q : Nat) (c : CphQueue) (x : Petal) : State :=
  let s := fresh s
  let at_ := c.ring.sqPda + 128 * c.ring.sqHead
  let e := leNat (bufRead s p c.bind at_ 128)
  let s := bufTouch (setCph s p q { c with ring := ringTake c.ring }) p at_ 128
  let refuse (s : State) (tag st dt : Nat) : State := cphCount (cphPost s p q tag st 0 dt) p st dt
  if bufPoison s p at_ 128 then refuse s 0xFFFF stDeviceFault dtCphDescriptor
  else
    match bufWhy s p c.bind at_ false with
    | some st => refuse s 0xFFFF st dtCphAccelDma
    | none =>
      match ceCheck s c p x e with
      | some f => refuse s (ceTag e) f.1 f.2
      | none => { holdTag s p (ceTag e) .cipher with cphReqs := s.cphReqs ++ [⟨p, q, ceTag e, BitVec.ofNat 1024 e, false, []⟩] }

/-- CPH_REQUEST_ACCEPT (R458, R461): the next request of a queue of an ACTIVE petal, once a completion entry is free. -/
def execCphRequestAccept (p : PetalId) (q : Fin 64) (s : State) : Host.Outcome State Fault Refusal :=
  .next (match getPetal s p.val, getCph s p.val q.val with
    | some x, some c =>
      if x.st = .active ∧ c.ring.closing = false ∧ 0 < ringOffered c.ring ∧ ringFree c.ring = true then
        acceptCph s p.val q.val c x
      else s
    | _, _ => s)

/-! ### Start (R463) -/

def findCph (s : State) (p t : Nat) : Option CphReq := s.cphReqs.find? (fun r => r.petal == p && r.tag == t)

/-- The requests of a queue accepted before a request. -/
def cphBefore (s : State) (r : CphReq) : List CphReq :=
  (s.cphReqs.filter (fun x => x.petal == r.petal && x.queue == r.queue)).takeWhile (fun x => x.tag != r.tag)

/-- R463: may a request start: acceptance order, fence, the buffers of earlier running requests, a free lane (R467)? -/
def cphStartable (s : State) (r : CphReq) : Bool :=
  let e := r.raw.toNat
  let before := cphBefore s r
  before.all (·.started) && (!ceFence e || before.isEmpty) &&
  before.all (fun b =>
    let w := heldBufs (ceWrites b.raw.toNat)
    let d := heldBufs (ceReads b.raw.toNat)
    !(heldBufs (ceReads e ++ ceWrites e)).any (fun a => w.any (bufMeet a)) &&
      !(heldBufs (ceWrites e)).any (fun a => d.any (bufMeet a))) &&
  decide ((s.cphReqs.filter (·.started)).length < 16)

/-- R455, R463: a request starts; its key is taken now, and a key that is gone or going ends it with KEY_DESTROYED. -/
def startCph (s : State) (r : CphReq) : State :=
  let e := r.raw.toNat
  match (getPetal s r.petal).bind (fun x => slotKey x (ceSlot e) (ceKind (ceAlg e))), getCph s r.petal r.queue with
  | key, some c =>
    if ceAlg e ≠ 7 ∧ (key.map (·.destroying)).getD true = true then finishCph s r stRevoked dtKeyDestroyed
    else
      let k := (key.map (fun k => keyBytes k (if isXts (ceAlg e) then 64 else 32))).getD []
      let s := { s with cphReqs := s.cphReqs.map (fun x =>
        if x.petal = r.petal ∧ x.tag = r.tag then { x with started := true, key := if ceAlg e = 7 then [] else k } else x) }
      (heldBufs (ceReads e)).foldl (fun s b => dmaIssue s r.petal c.bind b.1 r.tag) s
  | _, none => s

/-- CPH_REQUEST_START (R463). -/
def execCphRequestStart (p : PetalId) (tag : BitVec 13) (s : State) : Host.Outcome State Fault Refusal :=
  .next (match findCph s p.val tag.toNat with
    | some r =>
      if r.started = false ∧ cphStartable s r = true ∧ ((getPetal s p.val).map (·.st)) = some .active then startCph s r else s
    | none => s)

/-! ### Execution (R460, R462) -/

/-- XTS over the data units of a payload (R460). -/
def xtsUnits (dec : Bool) (k1 k2 : List Byte) (unit : Nat) : Nat → Nat → List Byte → List Byte
  | 0, _, _ => []
  | n + 1, tweak, data =>
    xts dec k1 k2 tweak (data.take unit) ++ xtsUnits dec k1 k2 unit n ((tweak + 1) % 2 ^ 128) (data.drop unit)

/-- R460: what a request writes: buffer and bytes; or a tag mismatch. -/
def cphResult (key : List Byte) (e : Nat) (src aad : List Byte) : Except (Nat × Nat) (List (Nat × List Byte)) :=
  let iv := (leBytes 16 (ceIv e)).take 12
  let tagIn := leBytes 16 (ceTagIn e)
  match ceAlg e with
  | 1 => let r := gcmEncrypt key iv aad src; .ok [(ceDst e, r.1), (ceTagAddr e, r.2)]
  | 2 =>
    match gcmDecrypt key iv aad src tagIn with
    | some pt => .ok [(ceDst e, pt)]
    | none => .error (stAuthFailed, dtTagMismatch)
  | 5 => .ok [(ceTagAddr e, cmac key src)]
  | 6 => if cmac key src = tagIn then .ok [] else .error (stAuthFailed, dtTagMismatch)
  | 7 => .ok [(ceDst e, sha3 src)]
  | a => .ok [(ceDst e, xtsUnits (a == 4) (key.take 32) (key.drop 32) (ceUnit e) (ceLen e / ceUnit e) (ceIv e) src)]

/-- R462: after an error the output buffer holds unspecified data, except that GCM_DECRYPT writes nothing. -/
def cphSpoil (s : State) (r : CphReq) (bind : Nat) : State :=
  let e := r.raw.toNat
  if ceAlg e = 2 then s
  else (heldBufs (ceWrites e)).foldl (fun s b =>
    (bufWrite s r.petal bind b.1 ((List.range b.2).map (fun i => BitVec.ofNat 8 (freeVal s (i + 1))))).1) s

/-- Writes the results; why a bus write failed. -/
def cphWrite (s : State) (p bind : Nat) : List (Nat × List Byte) → State × Option Nat
  | [] => (s, none)
  | b :: bs =>
    if b.2.isEmpty then cphWrite s p bind bs
    else
      match bufWrite s p bind b.1 b.2 with
      | (s, none) => cphWrite s p bind bs
      | (s, some st) => (s, some st)

/-- R460, R462, R466: a started request runs to its end. -/
def runCph (s : State) (r : CphReq) (bind : Nat) : State :=
  let s := fresh s
  let e := r.raw.toNat
  let p := r.petal
  let reads := heldBufs (ceReads e)
  let passes := if ceAlg e = 2 then 2 else 1
  let s := reads.foldl (fun s b => bufTouch s p b.1 b.2) s
  let bad := reads.any (fun b => bufPoison s p b.1 b.2)
  let why := if dmaFailed s p r.tag then some stDeviceFault else reads.findSome? (fun b => bufWhy s p bind b.1 false)
  if bad then finishCph (cphSpoil s r bind) r stDeviceFault dtCphUncorrectable
  else
    match why with
    | some st => finishCph (cphSpoil s r bind) r st dtCphAccelDma
    | none =>
      let n := passes * (ceLen e + ceAadLen e)
      let s := count (count s kCph p 2 n) kPtl p 4 n
      let src := bufRead s p bind (ceSrc e) (ceLen e)
      let aad := if isGcm (ceAlg e) ∧ ceAadLen e ≠ 0 then bufRead s p bind (ceAad e) (ceAadLen e) else []
      match cphResult r.key e src aad with
      | .error f => finishCph s r f.1 f.2
      | .ok l =>
        match cphWrite s p bind l with
        | (s, none) => finishCph s r stOk 0
        | (s, some st) => finishCph (cphSpoil s r bind) r st dtCphAccelDma

/-- CPH_REQUEST_COMPLETE (R462, R464). -/
def execCphRequestComplete (p : PetalId) (tag : BitVec 13) (s : State) : Host.Outcome State Fault Refusal :=
  .next (match findCph s p.val tag.toNat with
    | some r =>
      match getCph s p.val r.queue with
      | some c => if r.started = true ∧ dmaPending s p.val r.tag = false then runCph s r c.bind else s
      | none => s
    | none => s)

/-! ### Abort and destruction (R465, R457) -/

def cmdCphAbort : Cmd := ⟨0x0812, .own, true, 0x14, false, [(0x10, 0, 6), (0x12, 0, 13)], noObj⟩
def bodyCphAbort (m : Mbx) (s : State) : State × Ans :=
  let p := m.page.val
  match findCph s p (mf m 0x12 0 13) with
  | none => (s, ansErr stNotFound 0)
  | some r =>
    if r.queue ≠ mf m 0x10 0 6 then (s, ansErr stNotFound 0)
    else if r.started then (s, .pend (.taskEnd p r.tag false))
    else (finishCph s r stAborted dtReqAborted, ansOk)
/-- CPH_ABORT (R465). -/
def execCphAbort (m : Mbx) (s : State) : Host.Outcome State Fault Refusal := .next (mailbox cmdCphAbort bodyCphAbort m s)

/-- A queue accepts nothing more, and its requests that have not started are aborted. -/
def closeCph (s : State) (p q : Nat) (c : CphQueue) : State :=
  let s := setCph s p q { c with ring := { c.ring with closing := true } }
  let s := (s.cphReqs.filter (fun r => r.petal == p && r.queue == q && !r.started)).foldl (fun s r => finishCph s r stAborted dtReqAborted) s
  endCph s p q

def cmdCphQueueDestroy : Cmd :=
  ⟨0x0811, .own, true, 0x14, false, [(0x10, 0, 6)], fun m => some (okCphQueue, mf m 0x10 0 6)⟩
def bodyCphQueueDestroy (m : Mbx) (s : State) : State × Ans :=
  let p := m.page.val
  let q := mf m 0x10 0 6
  match getCph s p q with
  | none => (s, ansErr stNotFound 0)
  | some c =>
    let s := closeCph s p q c
    (s, if (getCph s p q).isSome then .pend (.objEnd p okCphQueue q) else ansOk)
/-- CPH_QUEUE_DESTROY (R457). -/
def execCphQueueDestroy (m : Mbx) (s : State) : Host.Outcome State Fault Refusal :=
  .next (mailbox cmdCphQueueDestroy bodyCphQueueDestroy m s)

/-! ### The petal's part (R276, R280) -/

def cphRunning (s : State) (p : Nat) : Bool := s.cphReqs.any (fun r => r.petal == p && r.started)

/-- The queues of a petal go: accepted requests complete with ABORTED, or are discarded. -/
def removeCph (s : State) (p : Nat) (discard : Bool) : State :=
  let mine := s.cphReqs.filter (fun r => r.petal == p)
  let s := if discard then { s with cphReqs := s.cphReqs.filter (fun r => r.petal != p) }
    else mine.foldl (fun s r => finishCph s { r with raw := BitVec.ofNat 1024 (setBits r.raw.toNat 17 1 0) } stAborted dtReqAborted) s
  { s with cphQs := s.cphQs.filter (fun e => e.1 / 64 != p), keySess := del s.keySess p }

end Sys2Proof.Machine
end

