-- ==== Sys2Proof/Machine/ColData.lean ====
section
/-!
DEFINITION. The descriptors of collective operations and what the operations compute (R187, R196 to R199, R203 to R209).
What a remote node contributes is no part of this module: bytes that come from one are free values.
-/

namespace Sys2Proof.Machine

/-! ### Communicator parameters (R187) -/

/-- A field of the creation request, by its byte in the mailbox area. -/
def cF (c : Comm) (byte bit w : Nat) : Nat := fld c.req.toNat (byte - 16) bit w
def cLocal (c : Comm) : Nat := cF c 0x10 8 4
def cFmt (c : Comm) : Nat := cF c 0x10 16 3
def cMode (c : Comm) : Nat := cF c 0x10 19 2
def cRm (c : Comm) : Nat := cF c 0x10 21 3
def cSat (c : Comm) : Bool := cF c 0x10 24 1 == 1
def cNodes (c : Comm) : Nat := cF c 0x14 0 17
def cMe (c : Comm) : Nat := cF c 0x18 0 17
def cFirst (c : Comm) : Nat := cF c 0x1C 0 16
def cCores (c : Comm) : Nat := cF c 0x1C 16 16
def cTablePda (c : Comm) : Nat := cF c 0x20 0 48
def cJoinSlot (c : Comm) : Nat := cF c 0x28 0 16
def cWireSlot (c : Comm) : Nat := cF c 0x28 16 16
def cJoinMs (c : Comm) : Nat := cF c 0x2C 0 32
def cOpMs (c : Comm) : Nat := cF c 0x30 0 32
def cSeed (c : Comm) : Nat := cF c 0x48 0 64
/-- The binding of local rank l; 0xFF none. -/
def cBind (c : Comm) (l : Nat) : Nat := cF c (0x50 + l) 0 8
def cStage (c : Comm) : Nat := cF c 0x58 0 48
def cStageBytes (c : Comm) : Nat := cF c 0x60 0 16 * 2 ^ 20
/-- N = M × L (R185). -/
def cRanks (c : Comm) : Nat := cNodes c * cLocal c

/-- The element format by its code; MXFP8 has E4M3 elements. -/
def colFmt : Nat → Fmt
  | 0 => .fp32 | 1 => .bf16 | 2 => .fp16 | 3 => .e4m3 | 4 => .e5m2 | 5 => .e4m3 | _ => .int32

def cMx (c : Comm) : Bool := cFmt c == 5

/-- R197: the bytes of a buffer of n elements. -/
def cBytes (c : Comm) (n : Nat) : Nat := if cMx c then n + n / 32 else n * ((colFmt (cFmt c)).width / 8)

/-- R203: D, with one byte an element for MXFP8. -/
def cSize (c : Comm) (n : Nat) : Nat := n * ((colFmt (cFmt c)).width / 8)

/-! ### The descriptor (R196) -/

def oTag (d : Nat) : Nat := fld d 0 0 13
def oRec (d : Nat) : Bool := fld d 0 16 1 == 1
def oSig (d : Nat) : Bool := fld d 0 17 1 == 1
def oFence (d : Nat) : Bool := fld d 0 18 1 == 1
def oWait (d : Nat) : Bool := fld d 0 19 1 == 1
def oNotify (d : Nat) : Bool := fld d 0 20 1 == 1
def oOp (d : Nat) : Nat := fld d 4 0 4
def oRed (d : Nat) : Nat := fld d 4 4 4
def oAlgo (d : Nat) : Nat := fld d 4 8 2
def oAg (d : Nat) : Bool := fld d 4 10 1 == 1
def oCount (d : Nat) : Nat := fld d 8 0 40
def oRoot (d : Nat) : Nat := fld d 0x10 0 16
def oNotifyRank (d : Nat) : Nat := fld d 0x10 16 3
def oTimeout (d : Nat) : Nat := fld d 0x14 0 32
def oWaitCtr (d : Nat) : Nat := fld d 0x18 0 32
def oWaitVal (d : Nat) : Nat := fld d 0x20 0 64
def oCounter (d : Nat) : Nat := fld d 0x28 0 32
def oInc (d : Nat) : Nat := fld d 0x2C 0 32
def oNotifyAddr (d : Nat) : Nat := fld d 0x30 0 64
def oNotifyVal (d : Nat) : Nat := fld d 0x38 0 64
def oSend (d l : Nat) : Nat := fld d (0x40 + 16 * l) 0 64
def oRecv (d l : Nat) : Nat := fld d (0x48 + 16 * l) 0 64
def oOpt (d : Nat) : Nat := fld d 0xC0 0 48

def opAllReduce : Nat := 0
def opReduceScatter : Nat := 1
def opAllGather : Nat := 2
def opBroadcast : Nat := 3
def opAllToAll : Nat := 4
def opRsUpdate : Nat := 5

/-- Does the operation reduce? -/
def opReduces (o : Nat) : Bool := o == 0 || o == 1 || o == 5

/-- No address. -/
def noAddr : Nat := 2 ^ 64 - 1

/-- R198: the elements of local rank l's send buffer; none where it has none. -/
def sendCount (c : Comm) (d l : Nat) : Option Nat :=
  if cLocal c ≤ l then none
  else if oOp d = opBroadcast then (if oRoot d = cMe c * cLocal c + l then some (oCount d) else none)
  else if oOp d = opAllToAll then some (cRanks c * oCount d)
  else some (oCount d)

/-- R198: the pieces of local rank l's receive buffer: how many, and the elements of each. -/
def recvPieces (c : Comm) (d l : Nat) : Option (Nat × Nat) :=
  if cLocal c ≤ l then none
  else if oOp d = opReduceScatter then some (1, oCount d / cRanks c)
  else if oOp d = opAllGather ∨ oOp d = opAllToAll then some (cRanks c, oCount d)
  else if oOp d = opRsUpdate then (if oAg d then some (1, oCount d) else none)
  else some (1, oCount d)

/-- The bytes of a send and of a receive buffer. For ALL_TO_ALL each of the N pieces is laid out by itself (R197). -/
def sendBytes (c : Comm) (d l : Nat) : Option Nat :=
  if oOp d = opAllToAll then (sendCount c d l).map (fun _ => cRanks c * cBytes c (oCount d)) else (sendCount c d l).map (cBytes c)
def recvBytes (c : Comm) (d l : Nat) : Option Nat := (recvPieces c d l).map (fun r => r.1 * cBytes c r.2)

/-- The send and receive buffers of the descriptor that hold bytes, with the local rank and length. -/
def sendBufs (c : Comm) (d : Nat) : List (Nat × Nat × Nat) :=
  (List.range 8).filterMap (fun l => (sendBytes c d l).map (fun n => (l, oSend d l, n)))
def recvBufs (c : Comm) (d : Nat) : List (Nat × Nat × Nat) :=
  (List.range 8).filterMap (fun l => (recvBytes c d l).map (fun n => (l, oRecv d l, n)))

/-- R203: the algorithm in use: 1 ring, 2 tree, 3 recursive halving-doubling. -/
def colAlgo (c : Comm) (d : Nat) : Nat :=
  if oAlgo d ≠ 0 ∧ cNodes c ≠ 1 then oAlgo d
  else
    let size := cSize c (oCount d)
    if oOp d = opAllReduce then (if size ≤ 2 ^ 18 then 3 else if size ≤ 2 ^ 25 then 2 else 1)
    else if oOp d = opBroadcast then (if size ≤ 2 ^ 25 then 2 else 1)
    else if size ≤ 2 ^ 18 then 3 else 1

/-- R203: may the algorithm be forced? With one node a forced algorithm is ignored. -/
def algoOk (c : Comm) (d : Nat) : Bool :=
  oAlgo d == 0 || cNodes c == 1 ||
    (if oOp d = opAllReduce then true
     else if oOp d = opBroadcast then oAlgo d == 1 || oAlgo d == 2
     else if oOp d = opAllToAll then false
     else oAlgo d == 1 || oAlgo d == 3)

/-! ### Values (R204 to R206) -/

/-- Free bytes of the present draw, from an index on. -/
def freeBytes (s : State) (base n : Nat) : List Byte := (List.range n).map (fun i => BitVec.ofNat 8 (freeVal s (base + i)))

/-- The element bits of a buffer of n elements. -/
def elemBits (c : Comm) (n : Nat) (bs : List Byte) : List Nat :=
  if cMx c then (bs.take n).map (·.toNat) else elems (leNat bs) (colFmt (cFmt c)).width n

/-- The exact values of a buffer of n elements. -/
def elemVals (c : Comm) (n : Nat) (bs : List Byte) : List XV :=
  if cMx c then
    ((bs.take n).map (·.toNat)).mapIdx (fun i b => mxValue .e4m3 ((bs[n + i / 32]?).getD 0).toNat b)
  else (elemBits c n bs).map (decodeX (colFmt (cFmt c)))

/-- R205: one lane accumulates the contributions to an element exactly; the value its readout takes, and flags. -/
def laneSum (l : List XV) : XV × Flags :=
  let r := l.foldl (fun acc x => let z := acc.1.acc x; (z.1, acc.2 ||| z.2 ||| snanFlag x)) (LaLane.zero, 0)
  let t := r.1.taken
  (t.1, r.2 ||| t.2)

/-- The values at one index of several lists. -/
def column (ls : List (List XV)) (i : Nat) : List XV := ls.map (fun l => (l[i]?).getD (.fin 0 0))

/-- The sums of n elements over the ranks. -/
def laneSums (ls : List (List XV)) (n : Nat) : List (XV × Flags) := (List.range n).map (fun i => laneSum (column ls i))

def orFlags (l : List Flags) : Flags := l.foldl (· ||| ·) 0

/-- R205: the final readout of values into the element format, as bytes, with flags. Stochastic draws are free (R83). -/
def readBytes (s : State) (c : Comm) (xs : List XV) : List Byte × Flags :=
  let m := RMode.ofCode (cRm c)
  if cMx c then
    let n := xs.length
    let scales := (List.range (n / 32)).map (fun b => mxScaleX .e4m3 ((xs.drop (32 * b)).take 32))
    let r := xs.mapIdx (fun i x => mxQuantX .e4m3 m (freeVal s (i + 1) % 2 ^ 32) ((scales[i / 32]?).getD 0) x)
    ((r.map (fun z => BitVec.ofNat 8 z.1)) ++ scales.map (BitVec.ofNat 8), orFlags (r.map (·.2)))
  else
    let f := colFmt (cFmt c)
    let r := xs.mapIdx (fun i x => roundTo f m (cSat c) (freeVal s (i + 1) % 2 ^ 32) x)
    (r.flatMap (fun z => leBytes (f.width / 8) z.1), orFlags (r.map (·.2)))

/-- R121, R205: MAX or MIN over the ranks, element by element, exact. -/
def pickBits (c : Comm) (max : Bool) (ls : List (List Nat)) (n : Nat) : List Nat × Flags :=
  let f := colFmt (cFmt c)
  let one (i : Nat) : Nat × Flags :=
    match ls.map (fun l => (l[i]?).getD 0) with
    | [] => (0, 0)
    | [x] => pickMin max f x x
    | x :: xs => xs.foldl (fun acc y => let z := pickMin max f acc.1 y; (z.1, acc.2 ||| z.2)) (x, 0)
  let r := (List.range n).map one
  (r.map (·.1), orFlags (r.map (·.2)))

/-- R198, R205: the bytes that each local rank of a reduction receives, where every rank is local. `ins` are the send buffers. -/
def reduceLocal (s : State) (c : Comm) (d : Nat) (ins : List (List Byte)) : List (Nat × List Byte) × Flags :=
  let n := oCount d
  let part (l : Nat) : Nat × Nat := if oOp d = opReduceScatter then (l * (n / cRanks c), n / cRanks c) else (0, n)
  if oRed d = 0 then
    let sums := laneSums (ins.map (elemVals c n)) n
    let outs := (List.range (cLocal c)).map (fun l => readBytes s c (((sums.drop (part l).1).take (part l).2).map (·.1)))
    (outs.mapIdx (fun l r => (l, r.1)), orFlags (sums.map (·.2)) ||| orFlags (outs.map (·.2)))
  else
    let r := pickBits c (oRed d == 1) (ins.map (elemBits c n)) n
    let w := (colFmt (cFmt c)).width / 8
    ((List.range (cLocal c)).map (fun l => (l, ((r.1.drop (part l).1).take (part l).2).flatMap (leBytes w))), r.2)

/-- R198: the bytes that each local rank of ALL_GATHER, BROADCAST or ALL_TO_ALL receives. A piece that comes from a rank of another
node is free. `ins l` is local rank l's send buffer. -/
def moveData (s : State) (c : Comm) (d : Nat) (ins : Nat → List Byte) : List (Nat × List Byte) :=
  let n := cBytes c (oCount d)
  let lo := cMe c * cLocal c
  let mine (r : Nat) : Bool := decide (lo ≤ r) && decide (r < lo + cLocal c)
  let piece (l r : Nat) : List Byte :=
    if mine r then
      (if oOp d = opAllToAll then ((ins (r - lo)).drop ((lo + l) * n)).take n else ins (r - lo))
    else freeBytes s (1 + (l * 65536 + r) * 2 ^ 48) n
  (List.range (cLocal c)).map (fun l =>
    (l, if oOp d = opBroadcast then piece 0 (oRoot d) else (List.range (cRanks c)).flatMap (piece l)))

/-! ### RS_UPDATE (R207 to R209) -/

def pKind (o : Nat) : Nat := fld o 0 0 4
def pBit (o i : Nat) : Bool := fld o 0 i 1 == 1
def pStep (o : Nat) : Nat := fld o 0x20 0 64
def pParam (o : Nat) : Nat := fld o 0x28 0 48
def pM (o : Nat) : Nat := fld o 0x30 0 48
def pV (o : Nat) : Nat := fld o 0x38 0 48
/-- An FP32 constant of the optimizer descriptor. -/
def pF (o byte : Nat) : XV := decodeX .fp32 (fld o byte 0 32)

/-- The state arrays of an optimizer. -/
def pArrays (o : Nat) : List Nat := if pKind o = 1 then [pParam o, pM o, pV o] else [pParam o, pM o]

/-- R207: do the fields and arrays of the descriptor pass? `n` is the shard's elements, `bufs` the ranges it must not meet. -/
def optOk (slots n : Nat) (bufs : List (Nat × Nat)) (o : Nat) : Bool :=
  let a := pArrays o
  let clip := fld o 0x1C 0 32
  decide (1 ≤ pKind o) && decide (pKind o ≤ 3) && fld o 0 10 22 == 0 && fld o 0x28 48 16 == 0 && fld o 0x30 48 16 == 0 &&
  fld o 0x38 48 16 == 0 && (pKind o == 1 || pV o == 0) &&
  (!pBit o 7 || (decide (0 < clip) && decide (clip ≤ 0x7F800000))) && (!pBit o 5 || pStep o != 0) &&
  a.all (fun x => x % 64 == 0 && decide (x + 4 * n ≤ slots * 2 ^ 30) && !bufs.any (fun b => overlaps x (4 * n) b.1 b.2)) &&
  (List.range a.length).all (fun i => (a.drop (i + 1)).all (fun y => !overlaps ((a[i]?).getD 0) (4 * n) y (4 * n)))

/-- Rounds to FP32, nearest-even (R208). -/
def r32 (x : XV) : XV := decodeX .fp32 (roundTo .fp32 .nearestEven false 0 x).1
def fMul (x y : XV) : XV := r32 (mulX x y).1
def fAdd (x y : XV) : XV := r32 (addX x y).1
def fSub (x y : XV) : XV := r32 (addX x (negX y)).1
def fOne : XV := .fin 1 0

/-- R208: a result within 1 ulp of an exact non-negative value that lies between FP32 neighbours: `lo` are the bits of the
largest FP32 value not above it, `exact` says that it is that value; the choice is free. -/
def nearUlp (lo : Nat) (exact : Bool) (pick : Nat) : Nat :=
  if exact then (if pick % 3 = 0 then lo else if pick % 3 = 1 then lo - 1 else min (lo + 1) 0x7F800000)
  else if pick % 2 = 0 then lo else min (lo + 1) 0x7F800000

/-- The bits of the largest FP32 value not above num/den × 2^e, and whether it is that value: found from 60 further bits. -/
def quotBits (num den : Nat) (e : Int) : Nat × Bool :=
  let k := Nat.log2 den + 60
  let q := num * 2 ^ k / den
  let r := roundTo .fp32 .towardZero false 0 (.fin q (e - k))
  (r.1, decide (num * 2 ^ k % den = 0) && decide (r.2 &&& flInexact = 0))

/-- R208: division within 1 ulp. -/
def fDiv (x y : XV) (pick : Nat) : XV :=
  match x, y with
  | .nan _, _ => .nan false
  | _, .nan _ => .nan false
  | .inf _, .inf _ => .nan false
  | .inf a, .fin n _ => .inf (a != decide (n < 0))
  | .fin _ _, .inf _ => .fin 0 0
  | .fin n e, .fin m h =>
    if m = 0 then (if n = 0 then .nan false else .inf (decide (n < 0)))
    else if n = 0 then .fin 0 0
    else
      let r := quotBits n.natAbs m.natAbs (e - h)
      let v := decodeX .fp32 (nearUlp r.1 r.2 pick)
      if decide (n < 0) != decide (m < 0) then negX v else v

/-- The integer square root by bisection over the bits of the result. -/
def isqrt (x : Nat) : Nat := (List.range (Nat.log2 x / 2 + 1)).reverse.foldl (fun r i => if (r + 2 ^ i) * (r + 2 ^ i) ≤ x then r + 2 ^ i else r) 0

/-- R208: square root within 1 ulp. -/
def fSqrt (x : XV) (pick : Nat) : XV :=
  match x with
  | .nan _ => .nan false
  | .inf neg => if neg then .nan false else .inf false
  | .fin n e =>
    if n = 0 then .fin 0 0
    else if n < 0 then .nan false
    else
      let odd := e % 2 = 1
      let a := (if odd then n.natAbs * 2 else n.natAbs) * 2 ^ 120
      let h : Int := (if odd then e - 1 else e) / 2 - 60
      let q := isqrt a
      let r := roundTo .fp32 .towardZero false 0 (.fin q h)
      decodeX .fp32 (nearUlp r.1 (decide (q * q = a) && decide (r.2 &&& flInexact = 0)) pick)

/-- sign(x), with sign(0) = 0 (R208). -/
def fSign : XV → XV
  | .nan _ => .nan false
  | .inf neg => .fin (if neg then -1 else 1) 0
  | .fin n _ => .fin (if n < 0 then -1 else if n = 0 then 0 else 1) 0

/-- One element's parameter and moments. -/
structure OptElem where
  p : XV
  m : XV
  v : XV
  deriving DecidableEq, Repr

/-- R208: the update of one element. `g0` is fp32(S), `c` the clip factor, `k1` and `k2` are 1 − b1^t and 1 − b2^t, and `pick` gives the
free choices. -/
def optStep (o : Nat) (g0 c k1 k2 : XV) (pick : Nat → Nat) (x : OptElem) : OptElem :=
  let lr := pF o 0x04
  let b1 := pF o 0x08
  let b2 := pF o 0x0C
  let wd := pF o 0x14
  let g := fMul (fMul g0 (pF o 0x18)) c
  let mix (b m y : XV) : XV := fAdd (fMul b m) (fMul (fSub fOne b) y)
  if pKind o = 1 then
    let g := if pBit o 4 then g else fAdd g (fMul wd x.p)
    let m := mix b1 x.m g
    let v := fAdd (fMul b2 x.v) (fMul (fMul (fSub fOne b2) g) g)
    let mh := if pBit o 5 then fDiv m k1 (pick 0) else m
    let vh := if pBit o 5 then fDiv v k2 (pick 1) else v
    let u := fDiv mh (fAdd (fSqrt vh (pick 2)) (pF o 0x10)) (pick 3)
    let u := if pBit o 4 then fAdd u (fMul wd x.p) else u
    ⟨fSub x.p (fMul lr u), m, v⟩
  else if pKind o = 2 then
    let g := fAdd g (fMul wd x.p)
    let m := fAdd (fMul b1 x.m) g
    ⟨fSub x.p (fMul lr (if pBit o 6 then fAdd g (fMul b1 m) else m)), m, x.v⟩
  else
    ⟨fSub x.p (fMul lr (fAdd (fSign (mix b1 x.m g)) (fMul wd x.p))), mix b2 x.m g, x.v⟩

/-- FP32 bits of a value that is one. -/
def bits32 (x : XV) : Nat := (roundTo .fp32 .nearestEven false 0 x).1

/-- A value that the manual leaves open, as an FP32 number. -/
def freeF (s : State) (i : Nat) : XV := decodeX .fp32 (freeVal s i % 2 ^ 32)

/-- R208: the clip factor: with one node in EXACT mode from the exact sum of squares, otherwise from a norm that R206 only bounds. -/
def clipFactor (s : State) (c : Comm) (o : Nat) (gs : List XV) : XV :=
  if !pBit o 7 then fOne
  else
    let n :=
      if cNodes c = 1 ∧ cMode c = 2 then
        fSqrt (r32 (laneSum (gs.map (fun g => let y := fMul g (pF o 0x18); (mulX y y).1))).1) (freeVal s 11)
      else freeF s 12
    if ltX (pF o 0x1C) n then fDiv (pF o 0x1C) n (freeVal s 13) else fOne

/-- R208: is the whole update skipped? -/
def skipsUpdate (s : State) (c : Comm) (o : Nat) (sums : List XV) : Bool :=
  pBit o 8 && (sums.any (fun x => match x with | .fin _ _ => false | _ => true) || (cNodes c != 1 && freeVal s 14 % 2 == 1))

/-- R208: the updated elements of a shard, from its reduced gradients and its old elements. -/
def updateShard (s : State) (c : Comm) (o : Nat) (sums : List XV) (olds : List OptElem) : List OptElem :=
  let gs := sums.map r32
  let cf := clipFactor s c o gs
  let k1 := freeF s 15
  let k2 := freeF s 16
  (gs.zip olds).mapIdx (fun i x => optStep o x.1 cf k1 k2 (fun j => freeVal s (32 + 4 * i + j)) x.2)

end Sys2Proof.Machine
end

