-- ==== Sys2Proof/Machine/Collective.lean ====
section
/-!
DEFINITION. The collective service: communicators, their messages, and operations (R185 to R215).
-/

namespace Sys2Proof.Machine

/-! ### Detail codes (R200, R214) -/
def dtColReserved : Nat := 0xC0
def dtColTagRange : Nat := 0xC1
def dtColTagInUse : Nat := 0xC2
def dtColForm : Nat := 0xC3
def dtCountShape : Nat := 0xC4
def dtBufferAlign : Nat := 0xC5
def dtColAccess : Nat := 0xC6
def dtColOverlap : Nat := 0xC7
def dtOptimizer : Nat := 0xC8
def dtColDescriptor : Nat := 0xC9
def dtColCounter : Nat := 0xCA
def dtCommExists : Nat := 0xD0
def dtCommTable : Nat := 0xD1
def dtExactSpan : Nat := 0xD2
def dtCommCores : Nat := 0xD3
def dtCommLimit : Nat := 0xD4
def dtColQpState : Nat := 0xD5
def dtJoinTimeout : Nat := 0xD6
def dtJoinRefused : Nat := 0xD7
def dtJoinMismatch : Nat := 0xD8
def dtOpMismatch : Nat := 0xD9
def dtPeerLink : Nat := 0xDA
def dtOpTimeout : Nat := 0xDB
def dtCommBroken : Nat := 0xDC
def dtOpAborted : Nat := 0xDD
def dtColUncorrectable : Nat := 0xDE
def dtColAccelDma : Nat := 0xDF
def dtPeerRevoked : Nat := 0xE0
def dtColKeySlot : Nat := 0xE1
def dtColGeometry : Nat := 0xE2
def dtWireAuth : Nat := 0xE3

def okComm : Nat := 7

def commKey (p n : Nat) : Nat := p * 64 + n
def getComm (s : State) (p n : Nat) : Option Comm := look s.comms (commKey p n)
def setComm (s : State) (c : Comm) : State := { s with comms := put s.comms (commKey c.petal c.num) c }
def modComm (s : State) (p n : Nat) (f : Comm → Comm) : State := { s with comms := upd s.comms (commKey p n) f }
def opsOf (s : State) (p n : Nat) : List ColOp := s.colOps.filter (fun o => o.petal == p && o.comm == n)
def findOp (s : State) (p tag : Nat) : Option ColOp := s.colOps.find? (fun o => o.petal == p && o.tag == tag)
def modOp (s : State) (p tag : Nat) (f : ColOp → ColOp) : State :=
  { s with colOps := s.colOps.map (fun o => if o.petal = p ∧ o.tag = tag then f o else o) }

/-! ### Node table (R187) -/

def tData (e : BitVec 128) : Nat := fld e.toNat 0 0 20
def tCtrl (e : BitVec 128) : Nat := fld e.toNat 4 0 20
def tComm (e : BitVec 128) : Nat := fld e.toNat 8 0 6
/-- R187: an entry with its reserved bits zero. -/
def entryFormed (e : BitVec 128) : Bool := fld e.toNat 0 20 12 == 0 && fld e.toNat 4 20 12 == 0 && fld e.toNat 8 6 58 == 0

/-- The peers of a communicator: node and entry. -/
def peersOf (c : Comm) : List (Nat × BitVec 128) := ((List.range c.table.length).zip c.table).filter (fun e => e.1 != cMe c)

/-- The petal QPs that a communicator names. -/
def namedQps (c : Comm) : List Nat := ((peersOf c).flatMap (fun e => [tData e.2, tCtrl e.2])).eraseDups

/-- R409: how many communicators name each QP. -/
def nameQps (s : State) (c : Comm) (add : Bool) : State :=
  (namedQps c).foldl (fun s n =>
    let k := qpKey c.petal n
    let v := lookD s.rdma.named k 0
    { s with rdma := { s.rdma with named := if add then put s.rdma.named k (v + 1) else if v ≤ 1 then del s.rdma.named k else put s.rdma.named k (v - 1) } }) s

/-! ### Messages (R193) -/

def magicCol : Nat := 0x4F433159

/-- The key in a CMAC slot of the petal. -/
def joinKey (s : State) (c : Comm) : List Byte :=
  (((getPetal s c.petal).bind (fun x => slotKey x (cJoinSlot c) 3)).map (fun k => keyBytes k 32)).getD []

/-- The 32-byte header. -/
def colHeader (c : Comm) (type len dst seq : Nat) : List Byte :=
  leBytes 4 magicCol ++ leBytes 1 type ++ leBytes 1 1 ++ leBytes 2 len ++
    leBytes 4 (cMe c + c.num * 2 ^ 17 + dst * 2 ^ 23) ++ zeros 4 ++ leBytes 8 seq ++ zeros 8
where
  zeros (n : Nat) : List Byte := List.replicate n 0

/-- The parameters of R185, as a JOIN carries them at 0x20. -/
def joinParams (c : Comm) : Nat :=
  cLocal c + cFmt c * 2 ^ 4 + cMode c * 2 ^ 7 + cRm c * 2 ^ 9 + b2n (cSat c) * 2 ^ 12 + b2n (cWireSlot c != 0xFFFF) * 2 ^ 13

/-- R409: the petal's whole-space key. -/
def wholeKey (s : State) (p : Nat) : Nat := 0xFFFFFF * 256 + lookD s.rdma.whole p 0

/-- The salt of the wire key slot; zero without one (R193). -/
def wireSalt (s : State) (c : Comm) : Nat :=
  (((getPetal s c.petal).bind (fun x => slotKey x (cWireSlot c) 1)).map (fun k => k.salt.toNat)).getD 0

def joinMsg (s : State) (c : Comm) (e : BitVec 128) : List Byte :=
  let b := colHeader c 1 0x58 (tComm e) 0 ++ leBytes 4 (joinParams c) ++ leBytes 4 (cNodes c) ++ leBytes 8 (cStage c) ++
    leBytes 4 (cF c 0x60 0 16) ++ leBytes 4 (wholeKey s c.petal) ++ leBytes 16 (wireSalt s c)
  b ++ cmac (joinKey s c) b

def brokenMsg (s : State) (c : Comm) (e : BitVec 128) (seq status detail : Nat) : List Byte :=
  let b := colHeader c 2 0x38 (tComm e) seq ++ leBytes 1 status ++ leBytes 3 detail ++ leBytes 4 0
  b ++ cmac (joinKey s c) b

def sendControl (s : State) (c : Comm) (e : BitVec 128) (m : List Byte) : State :=
  { s with sent := s.sent ++ [.control c.petal (tCtrl e) m] }

/-- R190: a node sends BROKEN to every peer that it can reach. -/
def sendBroken (s : State) (c : Comm) (but : Option Nat) (seq status detail : Nat) : State :=
  ((peersOf c).filter (fun e => but != some e.1 && ((getQp s c.petal (tCtrl e.2)).map (·.st)) == some .ready)).foldl
    (fun s e => sendControl s c e.2 (brokenMsg s c e.2 seq status detail)) s

/-- R193: the field of a message that came as a number. -/
def mgF (m byte bit w : Nat) : Nat := fld m byte bit w

/-- R193: header rules: magic, type, version, length, reserved bits. -/
def colHeaderOk (m type len : Nat) : Bool :=
  mgF m 0 0 32 == magicCol && mgF m 4 0 8 == type && mgF m 4 8 8 == 1 && mgF m 4 16 16 == len && mgF m 8 29 35 == 0 && mgF m 0x18 0 64 == 0
def mgNode (m : Nat) : Nat := mgF m 8 0 17
def mgComm (m : Nat) : Nat := mgF m 8 23 6
def mgSeq (m : Nat) : Nat := mgF m 0x10 0 64

/-- R193: the sender's entry names the QP on which the message arrived. -/
def fromPeer (c : Comm) (m qp : Nat) : Bool :=
  mgNode m != cMe c && ((c.table[mgNode m]?).map tCtrl) == some qp

/-! ### The end of operations (R210, R211, R190) -/

/-- The reducing operations of a communicator that run, by tag. -/
def reducing (s : State) (p n : Nat) : List ColOp := (opsOf s p n).filter (fun o => o.started.isSome && opReduces (oOp o.desc.toNat))

/-- R189: the global cores of a communicator. -/
def commCores (s : State) (c : Comm) : List Nat :=
  (List.range' (cFirst c) (cCores c)).map (fun i => (((getPetal s c.petal).bind (fun x => x.cores[i]?)).getD 0))

/-- R175, R189: does a running launch of the petal, or a running reduction of another of its communicators, hold a core? -/
def coreTaken (s : State) (c : Comm) (k : Nat) : Bool :=
  s.launches.any (fun l => l.petal == c.petal && l.started.isSome && l.cores.contains k) ||
  s.colOps.any (fun o => o.petal == c.petal && o.comm != c.num && o.started.isSome && opReduces (oOp o.desc.toNat) &&
    ((getComm s c.petal o.comm).map (fun x => (commCores s x).contains k)).getD false)

/-- R189: the cores that nothing else holds belong to the oldest running reduction of the communicator, and go back without one. -/
def holdCores (s : State) (c : Comm) : State :=
  let t := ((reducing s c.petal c.num).head?).map (·.tag)
  ((commCores s c).filter (fun k => !coreTaken s c k)).foldl (fun s k => setCore s k { getCore s k with launch := t }) s

/-- Writes a record into a communicator's ring, or releases the entry. -/
def colPost (s : State) (p n tag status result detail : Nat) : State :=
  match getComm s p n with
  | none => s
  | some c => let r := ringPost s p c.ring n tag status result detail true; setComm r.1 { c with ring := r.2 }
def colRelease (s : State) (p n : Nat) : State := modComm s p n (fun c => { c with ring := { c.ring with reserved := c.ring.reserved - 1 } })

/-- R409: without a communicator of the petal its whole-space key is withdrawn. -/
def withdrawWhole (s : State) (p : Nat) : State :=
  if s.comms.any (fun e => e.2.petal == p) then s
  else { s with rdma := { s.rdma with whole := put s.rdma.whole p ((lookD s.rdma.whole p 0 + 1) % 256) } }

/-- R192: a communicator goes. -/
def dropComm (s : State) (c : Comm) : State :=
  withdrawWhole (nameQps (holdCores { s with comms := del s.comms (commKey c.petal c.num) } c) c false) c.petal

/-- R192: a communicator whose destruction has begun goes with its last operation. -/
def endComm (s : State) (p n : Nat) : State :=
  match getComm s p n with
  | some c => if c.ring.closing && (opsOf s p n).isEmpty then resolve (dropComm s c) (.objEnd p okComm n) replyOk else s
  | none => s

/-- R188: the contents of the staging region are unspecified: bytes that the model does not list are free. -/
def looseStage (s : State) (c : Comm) : State := { s with mem := dropCells s.mem (memKey c.petal (cStage c)) (cStageBytes c) }

/-- R210: the notify write. -/
def colNotify (s : State) (c : Comm) (d : Nat) : State :=
  if oNotify d then (bufWrite s c.petal (cBind c (oNotifyRank d)) (oNotifyAddr d) (leBytes 8 (oNotifyVal d))).1 else s

/-- R210, R211: the completion actions of an operation, in their order. -/
def closeOp (s : State) (c : Comm) (o : ColOp) (status result detail : Nat) : State :=
  let d := o.desc.toNat
  let p := c.petal
  let s := if cNodes c = 1 then looseStage s c else s
  let s := if status = stOk then colNotify s c d else s
  let s := if oRec d ∨ status ≠ stOk then colPost s p c.num o.tag status result detail else colRelease s p c.num
  let s := if status = stOk ∧ oSig d then signal s p (oCounter d) (oInc d) else s
  let s := count s kCol (commKey p c.num) (if status = stOk then 0 else 1) 1
  let s := { dmaForget (freeTag s p o.tag) p o.tag with colOps := s.colOps.filter (fun x => !(x.petal == p && x.tag == o.tag)) }
  endComm (holdCores (resolveTask s p o.tag) c) p c.num

/-- R190: completes every operation that has not started. -/
def flushOps (s : State) (c : Comm) (status detail : Nat) : State :=
  ((opsOf s c.petal c.num).filter (fun o => o.started.isNone)).foldl (fun s o => closeOp s c o status 0 detail) s

/-- R212, R192: running operations stop at their next exchange step. -/
def stopOps (s : State) (c : Comm) (status detail : Nat) : State :=
  { s with colOps := s.colOps.map (fun o =>
      if o.petal = c.petal ∧ o.comm = c.num ∧ o.started.isSome ∧ o.stop = none then { o with stop := some (status, detail) } else o) }

/-- R190: a READY communicator enters BROKEN: its peers are told, waiting operations complete and running ones stop. -/
def breakComm (s : State) (p n seq status detail : Nat) : State :=
  match getComm s p n with
  | some c =>
    if c.st = .ready ∧ c.ring.closing = false then
      let s := sendBroken (modComm s p n (fun c => { c with st := .broken })) c none seq status detail
      stopOps (flushOps s c stAborted dtCommBroken) c stAborted dtCommBroken
    else s
  | none => s

/-- R210, R190: an operation completes; any status but OK breaks the communicator. -/
def finishOp (s : State) (c : Comm) (o : ColOp) (status result detail : Nat) : State :=
  let s := closeOp s c o status result detail
  if status = stOk then s else breakComm s c.petal c.num o.seq status (detail % 256)

/-- R190: a JOINING communicator is removed: its operations complete, and COL_COMM_CREATE with an outcome of its own. -/
def removeJoining (s : State) (c : Comm) (opDetail status detail : Nat) : State :=
  resolve (dropComm (flushOps s c stAborted opDetail) c) (.join c.petal c.num) (replyErr status detail)

/-! ### COL_COMM_CREATE (R187, R190, R191) -/

def cmdCommCreate : Cmd :=
  ⟨0x0400, .own, true, 0x70, false,
   [(0x10, 0, 6), (0x10, 8, 4), (0x10, 16, 9), (0x14, 0, 17), (0x18, 0, 17), (0x1C, 0, 32), (0x20, 0, 48), (0x28, 0, 64),
    (0x30, 0, 64), (0x38, 0, 48), (0x40, 0, 48), (0x48, 0, 64), (0x50, 0, 64), (0x58, 0, 48), (0x60, 0, 16)],
   fun m => some (okComm, mf m 0x10 0 6)⟩

/-- The communicator that a request describes. -/
def commOf (s : State) (m : Mbx) : Comm :=
  let c : Comm := ⟨m.page.val, mf m 0x10 0 6, BitVec.ofNat 768 m.payload.toNat, [], .joining, s.elapsed,
    Ring.new (mf m 0x34 0 8) (mf m 0x34 8 8) (mf m 0x38 0 48) (mf m 0x40 0 48) (mf m 0x34 16 16), 0, [], []⟩
  { c with table := (List.range (cNodes c)).map (fun j => BitVec.ofNat 128 (memNat s c.petal (cTablePda c + 16 * j) 16)) }

/-- R191: the ranges of the fields. -/
def commRanges (c : Comm) : Bool :=
  decide (1 ≤ cLocal c) && decide (cLocal c ≤ 8) && decide (cFmt c < 7) && decide (cMode c < 3) && decide (cRm c < 5) &&
  decide (1 ≤ cNodes c) && decide (cNodes c ≤ 65536) && decide (cRanks c ≤ 65536) && decide (cMe c < cNodes c) &&
  decide (1 ≤ cCores c) && decide (cCores c ≤ 64) && decide (1 ≤ cJoinMs c) && decide (cJoinMs c ≤ 600000) &&
  decide (1 ≤ cOpMs c) && decide (cOpMs c ≤ 600000) && cTablePda c % 64 == 0 && cStage c % 2 ^ 21 == 0 &&
  decide (64 * 2 ^ 20 ≤ cStageBytes c) && decide (cStageBytes c ≤ 4096 * 2 ^ 20) && cStageBytes c % 2 ^ 21 == 0 &&
  (List.range 8).all (fun l => cBind c l == 0xFF || (decide (l < cLocal c) && decide (cBind c l < 4)))

/-- R191: the entries of the node table. -/
def tableOk (c : Comm) : Bool :=
  ((List.range c.table.length).zip c.table).all (fun e => if e.1 = cMe c then e.2 == 0 else entryFormed e.2)

/-- The rings, node table and staging region. -/
def commParts (c : Comm) : List (Nat × Nat) :=
  [(c.ring.sqPda, 256 * 2 ^ c.ring.sqLog), (c.ring.cqPda, 32 * 2 ^ c.ring.cqLog), (cTablePda c, 16 * cNodes c), (cStage c, cStageBytes c)]

def partsApart (l : List (Nat × Nat)) : Bool :=
  (List.range l.length).all (fun i => (l.drop (i + 1)).all (fun b => match l[i]? with | some a => !overlaps a.1 a.2 b.1 b.2 | none => true))

/-- R191: the checks, in the order of the table. -/
def commCheck (s : State) (x : Petal) (c : Comm) : Option (Nat × Nat) :=
  let p := c.petal
  let inside := (commParts c).all (fun r => inSlots x r.1 r.2)
  if (getComm s p c.num).isSome then some (stInvalidArgument, dtCommExists)
  else if commRanges c = false ∨ ringsFit 4 12 c.ring.sqLog 16 c.ring.sqLog c.ring.cqLog 0 (2 ^ 40) 256 = false then
    some (stInvalidArgument, dtCommTable)
  else if inside ∧ tableOk c = false then some (stInvalidArgument, dtCommTable)
  else if cMode c = 2 ∧ cNodes c ≠ 1 then some (stInvalidArgument, dtExactSpan)
  else if recCores x.record < cFirst c + cCores c then some (stNotPermitted, dtCommCores)
  else if inside = false ∨ partsApart (commParts c) = false ∨ c.ring.sqPda % 64 ≠ 0 ∨ c.ring.cqPda % 64 ≠ 0 then
    some (stInvalidArgument, dtColGeometry)
  else if keyPresent s p = false then some (stNotPermitted, dtColGeometry)
  else if (namedQps c).any (fun n => ((getQp s p n).map (·.st)) != some .ready) then some (stInvalidArgument, dtColQpState)
  else if (slotKey x (cJoinSlot c) 3).isNone ∨ (cWireSlot c ≠ 0xFFFF ∧ (slotKey x (cWireSlot c) 1).isNone) then
    some (stNotPermitted, dtColKeySlot)
  else if 256 ≤ s.comms.length then some (stNoResources, dtCommLimit)
  else if vectorOf s p c.ring.msix = false then some (stNotPermitted, 0)
  else if (poisonIn s p (cTablePda c) (16 * cNodes c)).isSome then some (stDeviceFault, dtColUncorrectable)
  else none

def bodyCommCreate (m : Mbx) (s : State) : State × Ans :=
  let s := fresh s
  match getPetal s m.page.val with
  | none => (s, ansErr stNotFound 0)
  | some x =>
    let c := commOf s m
    match commCheck s x c with
    | some e => (if e.2 = dtColUncorrectable then touch s c.petal (cTablePda c) (16 * cNodes c) else s, ansErr e.1 e.2)
    | none =>
      let s := looseStage (resetGroup (touch s c.petal (cTablePda c) (16 * cNodes c)) kCol (commKey c.petal c.num)) c
      if cNodes c = 1 then (setComm s { c with st := .ready }, ansOk)
      else
        let s := nameQps (setComm s c) c true
        ((peersOf c).foldl (fun s e => sendControl s c e.2 (joinMsg s c e.2)) s, .pend (.join c.petal c.num))
/-- COL_COMM_CREATE (R187, R190, R191). -/
def execColCommCreate (m : Mbx) (s : State) : Host.Outcome State Fault Refusal := .next (mailbox cmdCommCreate bodyCommCreate m s)

/-- COL_JOIN_TIMEOUT (R190). -/
def execColJoinTimeout (p : PetalId) (n : Fin 64) (s : State) : Host.Outcome State Fault Refusal :=
  .next (match getComm s p.val n.val with
    | some c =>
      if c.st = .joining ∧ elapsedAtLeast s c.since (cJoinMs c * 1000000) then removeJoining s c dtCommBroken stTimeout dtJoinTimeout else s
    | none => s)

/-! ### COL_COMM_DESTROY and COL_ABORT (R192, R213) -/

def cmdCommDestroy : Cmd := ⟨0x0401, .own, true, 0x14, false, [(0x10, 0, 6)], fun m => some (okComm, mf m 0x10 0 6)⟩

/-- R192, steps 1 to 4. -/
def closeComm (s : State) (c : Comm) : State :=
  let s := setComm s { c with ring := { c.ring with closing := true } }
  let s := stopOps (flushOps s c stAborted dtOpAborted) c stAborted dtOpAborted
  let s := sendBroken s c none (2 ^ 64 - 1) stAborted dtOpAborted
  endComm (modComm s c.petal c.num (fun c => { c with joins := [] })) c.petal c.num

def bodyCommDestroy (m : Mbx) (s : State) : State × Ans :=
  let p := m.page.val
  let n := mf m 0x10 0 6
  match getComm s p n with
  | none => (s, ansErr stNotFound 0)
  | some c =>
    if c.st = .joining then
      (removeJoining (sendBroken s c none (2 ^ 64 - 1) stAborted dtOpAborted) c dtOpAborted stAborted dtOpAborted, ansOk)
    else
      let s := closeComm s c
      (s, if (getComm s p n).isSome then .pend (.objEnd p okComm n) else ansOk)
/-- COL_COMM_DESTROY (R190, R192). -/
def execColCommDestroy (m : Mbx) (s : State) : Host.Outcome State Fault Refusal := .next (mailbox cmdCommDestroy bodyCommDestroy m s)

def cmdColAbort : Cmd :=
  ⟨0x0402, .own, true, 0x14, false, [(0x10, 0, 6), (0x12, 0, 13)], fun m => some (okComm, mf m 0x10 0 6)⟩
/-- R213, R264. -/
def bodyColAbort (m : Mbx) (s : State) : State × Ans :=
  let p := m.page.val
  match (findOp s p (mf m 0x12 0 13)), getComm s p (mf m 0x10 0 6) with
  | some o, some c =>
    if o.comm ≠ c.num then (s, ansErr stNotFound 0)
    else if o.started.isNone then (finishOp s c o stAborted 0 dtOpAborted, ansOk)
    else if o.stop.isSome then (s, .pend (.taskEnd p o.tag false))
    else (modOp s p o.tag (fun o => { o with stop := some (stAborted, dtOpAborted) }), .pend (.taskEnd p o.tag true))
  | _, _ => (s, ansErr stNotFound 0)
/-- COL_ABORT (R213). -/
def execColAbort (m : Mbx) (s : State) : Host.Outcome State Fault Refusal := .next (mailbox cmdColAbort bodyColAbort m s)

/-! ### Doorbells (R195) -/

/-- The effect of the doorbell. -/
def colSqTail (p : PetalId) (n : Fin 64) (v : W32) (s : State) : State :=
  match getComm s p.val n.val with
    | none => s
    | some c => match ringTail c.ring v.toNat with
      | some r => setComm s { c with ring := r }
      | none => doorbellIgnored s p.val
/-- COL_SQ_TAIL (R195). -/
def execColSqTail (p : PetalId) (n : Fin 64) (v : W32) (s : State) : Host.Outcome State Fault Refusal := .next (colSqTail p n v (awake s))

/-- The effect of the doorbell. -/
def colCqHead (p : PetalId) (n : Fin 64) (v : W32) (s : State) : State :=
  match getComm s p.val n.val with
    | none => s
    | some c => match ringHead c.ring v.toNat with
      | some r => setComm s { c with ring := r }
      | none => doorbellIgnored s p.val
/-- COL_CQ_HEAD (R195). -/
def execColCqHead (p : PetalId) (n : Fin 64) (v : W32) (s : State) : Host.Outcome State Fault Refusal := .next (colCqHead p n v (awake s))

/-! ### Acceptance (R198 to R200) -/

/-- R200, check 1. -/
def colReserved (d : Nat) : Bool :=
  fld d 0 13 3 == 0 && fld d 0 21 11 == 0 && fld d 4 11 21 == 0 && fld d 8 40 24 == 0 && fld d 0x10 19 13 == 0 && fld d 0x1C 0 32 == 0 &&
  fld d 0xC0 48 16 == 0 && fld d 0xC8 0 448 == 0

/-- R200, check 4; R199. -/
def colForm (c : Comm) (d : Nat) : Bool :=
  let op := oOp d
  let red := oRed d
  decide (op < 6) && decide (red < 3) && algoOk c d && (op == opRsUpdate || !oAg d) &&
  (if op = opAllReduce ∨ op = opReduceScatter then red == 0 || !cMx c
   else if op = opRsUpdate then red == 0 && decide (cFmt c < 3)
   else red == 0)

/-- R200, check 5; R198. -/
def colShape (c : Comm) (d : Nat) : Bool :=
  let n := oCount d
  let op := oOp d
  decide (1 ≤ n) && ((op != opReduceScatter && op != opRsUpdate) || n % cRanks c == 0) && (op != opBroadcast || decide (oRoot d < cRanks c)) &&
  (!cMx c || (n % 32 == 0 && (op != opReduceScatter || (n / cRanks c) % 32 == 0))) &&
  (List.range 8).all (fun l => (sendCount c d l).isSome == (oSend d l != noAddr) && (recvPieces c d l).isSome == (oRecv d l != noAddr))

/-- The buffers of a descriptor with the rank whose binding they use; the notify word last. -/
def colBufs (c : Comm) (d : Nat) : List (Nat × Nat × Nat) :=
  sendBufs c d ++ recvBufs c d ++ (if oNotify d ∧ oNotifyAddr d ≠ noAddr then [(oNotifyRank d, oNotifyAddr d, 8)] else [])

/-- R200, check 6. -/
def colAligned (c : Comm) (d : Nat) : Bool :=
  (sendBufs c d ++ recvBufs c d).all (fun b => b.2.1 % 64 == 0) && (!oNotify d || oNotifyAddr d == noAddr || oNotifyAddr d % 8 == 0) &&
  (oOp d != opRsUpdate || oOpt d % 64 == 0)

/-- R200, check 7. -/
def colAccess (s : State) (c : Comm) (x : Petal) (d : Nat) : Bool :=
  (colBufs c d).all (fun b => bufOk s c.petal (cBind c b.1) b.2.1 b.2.2) && (oOp d != opRsUpdate || inSlots x (oOpt d) 64)

/-- R197: do two buffers share a byte? -/
def meet2 (a b : Nat × Nat) : Bool :=
  match bufAddr a.1, bufAddr b.1 with
  | .pda x, .pda y => overlaps x a.2 y b.2
  | .bus x, .bus y => overlaps x a.2 y b.2
  | _, _ => false

/-- R200, check 8: overlaps but for the in-place forms of R198. -/
def colApart (c : Comm) (d : Nat) : Bool :=
  let inPlace (l : Nat) : Bool := (oOp d == opAllReduce || oOp d == opBroadcast) && oSend d l == oRecv d l
  let bufs := (sendBufs c d).map (fun b => (b.2.1, b.2.2)) ++ ((recvBufs c d).filter (fun b => !inPlace b.1)).map (fun b => (b.2.1, b.2.2)) ++
    (if oNotify d ∧ oNotifyAddr d ≠ noAddr then [(oNotifyAddr d, 8)] else [])
  bufs.all (fun b => !(commParts c).any (meet2 b)) &&
    (List.range bufs.length).all (fun i => (bufs.drop (i + 1)).all (fun b => match bufs[i]? with | some a => !meet2 a b | none => true))

/-- R200: the checks of a descriptor in order. -/
def colCheck (s : State) (c : Comm) (x : Petal) (d : Nat) : Option (Nat × Nat) :=
  if colReserved d = false then some (stInvalidArgument, dtColReserved)
  else if recTags x.record ≤ oTag d then some (stInvalidArgument, dtColTagRange)
  else if tagHeld x (oTag d) then some (stInvalidArgument, dtColTagInUse)
  else if colForm c d = false then some (stInvalidArgument, dtColForm)
  else if colShape c d = false then some (stInvalidArgument, dtCountShape)
  else if colAligned c d = false then some (stInvalidArgument, dtBufferAlign)
  else if colAccess s c x d = false then some (stNotPermitted, dtColAccess)
  else if colApart c d = false then some (stInvalidArgument, dtColOverlap)
  else if (oSig d ∧ (recCounters x.record ≤ oCounter d ∨ oInc d = 0 ∨ 2 ^ 31 ≤ oInc d)) ∨
      (oWait d ∧ recCounters x.record ≤ oWaitCtr d) then some (stNotPermitted, dtColCounter)
  else none

/-- R169, R200: takes the next descriptor of a communicator and validates it. -/
def acceptOp (s : State) (c : Comm) (x : Petal) : State :=
  let s := fresh s
  let p := c.petal
  let at_ := c.ring.sqPda + 256 * c.ring.sqHead
  let d := memNat s p at_ 256
  let c := { c with ring := ringTake c.ring, opSeq := c.opSeq + 1 }
  let s := touch (setComm s c) p at_ 256
  let refuse (tag st dt : Nat) : State :=
    breakComm (count (colPost s p c.num tag st 0 dt) kCol (commKey p c.num) 1 1) p c.num (c.opSeq - 1) st dt
  if (poisonIn s p at_ 256).isSome then refuse 0xFFFF stDeviceFault dtColDescriptor
  else if c.st = .broken then refuse (oTag d) stAborted dtCommBroken
  else
    match colCheck s c x d with
    | some e => refuse (oTag d) e.1 e.2
    | none => { holdTag s p (oTag d) .collective with colOps := s.colOps ++ [⟨p, c.num, oTag d, c.opSeq - 1, BitVec.ofNat 2048 d, none, 0, none⟩] }

/-- COL_OP_ACCEPT (R169, R195, R200). -/
def execColOpAccept (p : PetalId) (n : Fin 64) (s : State) : Host.Outcome State Fault Refusal :=
  .next (match getPetal s p.val, getComm s p.val n.val with
    | some x, some c =>
      if x.st = .active ∧ c.ring.closing = false ∧ 0 < ringOffered c.ring ∧ ringFree c.ring = true ∧ keyPresent s p.val = true then
        acceptOp s c x
      else s
    | _, _ => s)

/-! ### Start (R202, R207) -/

/-- The ranges that an operation reads and writes, with the optimizer's. -/
def opReads (c : Comm) (d : Nat) : List (Nat × Nat) :=
  (sendBufs c d).map (fun b => (b.2.1, b.2.2)) ++ (if oOp d = opRsUpdate then [(oOpt d, 64)] else [])
def opWrites (c : Comm) (d opt : Nat) : List (Nat × Nat) :=
  (recvBufs c d).map (fun b => (b.2.1, b.2.2)) ++
    (if oOp d = opRsUpdate then (oOpt d, 64) :: (pArrays opt).map (fun a => (a, 4 * (oCount d / cNodes c))) else [])

/-- The optimizer descriptor as it stands in memory. -/
def optNow (s : State) (c : Comm) (d : Nat) : Nat := if oOp d = opRsUpdate then memNat s c.petal (oOpt d) 64 else 0

/-- R202: may an operation start? -/
def opStartable (s : State) (c : Comm) (o : ColOp) : Bool :=
  let d := o.desc.toNat
  let mine := opsOf s c.petal c.num
  let before := mine.filter (fun x => decide (x.seq < o.seq))
  let running := mine.filter (fun x => x.started.isSome)
  let w := opWrites c d (optNow s c d)
  let r := opReads c d
  c.st == .ready && before.all (fun x => x.started.isSome) && decide (running.length < 4) && (!oFence d || before.isEmpty) &&
  (!oWait d || ((getPetal s c.petal).map (fun x => decide (sInt 64 (oWaitVal d) ≤ (counterVal x (oWaitCtr d)).toInt))).getD false) &&
  running.all (fun x =>
    let xw := opWrites c x.desc.toNat x.opt.toNat
    !(r ++ w).any (fun a => xw.any (meet2 a)) && !w.any (fun a => (opReads c x.desc.toNat).any (meet2 a))) &&
  (!opReduces (oOp d) || (commCores s c).all (fun k =>
    match (getCore s k).launch with | none => true | some t => (reducing s c.petal c.num).any (fun x => x.tag == t)))

/-- R201: does a STEP agree with an operation? The manual names no algorithm code for the pairwise exchange, so an ALL_TO_ALL's is
not compared. -/
def stepAgrees (c : Comm) (d m : Nat) : Bool :=
  mgF m 0x20 0 4 == oOp d && mgF m 0x20 4 4 == oRed d && (oOp d == opAllToAll || mgF m 0x20 8 2 == colAlgo c d) &&
  (mgF m 0x20 10 1 == 1) == oAg d && mgF m 0x24 0 16 == oRoot d && mgF m 0x28 0 40 == oCount d

/-- The staged steps of an operation that disagree with it. -/
def badSteps (c : Comm) (o : ColOp) : Bool := c.steps.any (fun e => mgSeq e.2.toNat == o.seq && !stepAgrees c o.desc.toNat e.2.toNat)

/-- R202, R207: an operation starts; RS_UPDATE reads and checks its optimizer descriptor. -/
def startOp (s : State) (c : Comm) (o : ColOp) (x : Petal) : State :=
  let s := fresh s
  let d := o.desc.toNat
  let p := c.petal
  let opt := optNow s c d
  let o' := { o with started := some s.elapsed, opt := BitVec.ofNat 512 opt }
  let s := modOp s p o.tag (fun _ => o')
  let s := modComm s p c.num (fun c => { c with steps := c.steps.filter (fun e => mgSeq e.2.toNat != o.seq) })
  let s := if oOp d = opRsUpdate then touch s p (oOpt d) 64 else s
  let bufs := (sendBufs c d ++ recvBufs c d).filterMap (fun b => match bufAddr b.2.1 with | .pda a => some (a, b.2.2) | _ => none)
  if badSteps c o then finishOp s c o' stInvalidArgument 0 dtOpMismatch
  else if oOp d = opRsUpdate ∧ (poisonIn s p (oOpt d) 64).isSome then finishOp s c o' stDeviceFault 0 dtColDescriptor
  else if oOp d = opRsUpdate ∧ optOk (slotsOf x) (oCount d / cNodes c) ((cStage c, cStageBytes c) :: bufs) opt = false then
    finishOp s c o' stInvalidArgument 0 dtOptimizer
  else holdCores ((sendBufs c d).foldl (fun s b => dmaIssue s p (cBind c b.1) b.2.1 o.tag) s) c

/-- COL_OP_START (R202). -/
def execColOpStart (p : PetalId) (tag : BitVec 13) (s : State) : Host.Outcome State Fault Refusal :=
  .next (match findOp s p.val tag.toNat, getPetal s p.val with
    | some o, some x =>
      match getComm s p.val o.comm with
      | some c =>
        if o.started.isNone ∧ x.st = .active ∧ keyPresent s p.val = true ∧ opStartable s c o = true then startOp s c o x else s
      | none => s
    | _, _ => s)

/-! ### Completion (R205 to R212) -/

/-- Writes the receive buffers of the local ranks; why a bus write failed. -/
def writeRanks (s : State) (c : Comm) (d : Nat) : List (Nat × List Byte) → State × Option Nat
  | [] => (s, none)
  | e :: es =>
    match bufWrite s c.petal (cBind c e.1) (oRecv d e.1) e.2 with
    | (s, none) => writeRanks s c d es
    | (s, some st) => (s, some st)

/-- R212: the receive buffers of a failed operation hold unspecified data. -/
def spoilRecv (s : State) (c : Comm) (d : Nat) : State :=
  (recvBufs c d).foldl (fun s b => (bufWrite s c.petal (cBind c b.1) b.2.1 (freeBytes s (2 ^ 200 + b.1 * 2 ^ 60) b.2.2)).1) s

/-- FP32 values of an array in petal memory. -/
def f32Array (s : State) (p a n : Nat) : List XV := (elems (memNat s p a (4 * n)) 32 n).map (decodeX .fp32)
def putF32 (s : State) (p a : Nat) (l : List XV) : State := memPut s p a (l.flatMap (fun x => leBytes 4 (bits32 x)))

/-- The old elements of a shard. -/
def shardOld (s : State) (p o n : Nat) : List OptElem :=
  let v := if pKind o = 1 then f32Array s p (pV o) n else List.replicate n (.fin 0 0)
  ((f32Array s p (pParam o) n).zip ((f32Array s p (pM o) n).zip v)).map (fun e => ⟨e.1, e.2.1, e.2.2⟩)

/-- Writes the first `n` updated elements. -/
def putShard (s : State) (p o n : Nat) (l : List OptElem) : State :=
  let l := l.take n
  let s := putF32 (putF32 s p (pParam o) (l.map (·.p))) p (pM o) (l.map (·.m))
  if pKind o = 1 then putF32 s p (pV o) (l.map (·.v)) else s

/-- R205: the reduced gradients of the shard: exact where every rank is local, otherwise free. -/
def shardSums (s : State) (c : Comm) (d : Nat) (ins : List (List Byte)) : List XV :=
  let n := oCount d
  if cNodes c = 1 then (laneSums (ins.map (elemVals c n)) n).map (·.1)
  else (List.range (n / cNodes c)).map (fun i => freeF s (2 ^ 210 + i))

/-- R209: units of 65,536 elements. -/
def unitsOf (n : Nat) : Nat := (n + 65535) / 65536

/-- R209: what the ranks receive of the updated parameters; those of other nodes are free. -/
def gatherParams (s : State) (c : Comm) (d : Nat) (l : List OptElem) : List (Nat × List Byte) :=
  let own := (readBytes s c (l.map (·.p))).1
  let w := own.length
  let all := (List.range (cNodes c)).flatMap (fun j => if j = cMe c then own else freeBytes s (2 ^ 220 + j * 2 ^ 60) w)
  if oAg d then (List.range (cLocal c)).map (fun r => (r, all)) else []

/-- R208, R209: RS_UPDATE runs to its end: the state, what the ranks receive, and the result. -/
def runUpdate (s : State) (c : Comm) (o : ColOp) (ins : List (List Byte)) : State × List (Nat × List Byte) × Nat :=
  let d := o.desc.toNat
  let opt := o.opt.toNat
  let p := c.petal
  let n := oCount d / cNodes c
  let sums := shardSums s c d ins
  let old := shardOld s p opt n
  if skipsUpdate s c opt sums then (s, gatherParams s c d old, 2 ^ 63)
  else
    let new := updateShard s c opt sums old
    let s := count (putShard s p opt n new) kCol (commKey p c.num) 7 (unitsOf n)
    let s := if pBit opt 9 then memPut s p (oOpt d + 0x20) (leBytes 8 ((pStep opt + 1) % 2 ^ 64)) else s
    (s, gatherParams s c d new, n)

/-- R209, R212: an operation fails after its start. Of an RS_UPDATE's units a free number has been applied. -/
def failOp (s : State) (c : Comm) (o : ColOp) (status detail : Nat) : State :=
  let s := fresh s
  let d := o.desc.toNat
  let s := spoilRecv s c d
  let flags := freeVal s 3 % 256
  if oOp d = opRsUpdate then
    let n := oCount d / cNodes c
    let k := min n (freeVal s 4 % (unitsOf n + 1) * 65536)
    let ins := (sendBufs c d).map (fun b => bufRead s c.petal (cBind c b.1) b.2.1 b.2.2)
    let sums := shardSums s c d ins
    let opt := o.opt.toNat
    let k := if skipsUpdate s c opt sums then 0 else k
    let s := putShard s c.petal opt k (updateShard s c opt sums (shardOld s c.petal opt n))
    finishOp (count s kCol (commKey c.petal c.num) 7 (unitsOf k)) c o status k (detail + flags * 2 ^ 8)
  else finishOp s c o status (s.elapsed - o.started.getD 0).toNat (detail + flags * 2 ^ 8)

/-- R212: what has failed, if anything, in the order in which the model looks: a stop that is decided, a QP in error, a failed
request of a local rank, an uncorrectable line. -/
def opTrouble (s : State) (c : Comm) (o : ColOp) : Option (Nat × Nat) :=
  let d := o.desc.toNat
  let p := c.petal
  match o.stop with
  | some f => some f
  | none =>
    if (namedQps c).any (fun n => ((getQp s p n).map (·.st)) != some .ready) then some (stDeviceFault, dtPeerLink)
    else if dmaFailed s p o.tag then some (stDeviceFault, dtColAccelDma)
    else
      match (sendBufs c d).findSome? (fun b => bufWhy s p (cBind c b.1) b.2.1 false) with
      | some st => some (st, dtColAccelDma)
      | none =>
        let state := if oOp d = opRsUpdate then (pArrays o.opt.toNat).map (fun a => (a, 4 * (oCount d / cNodes c))) else []
        if (sendBufs c d).any (fun b => bufPoison s p b.2.1 b.2.2) ∨ state.any (fun r => (poisonIn s p r.1 r.2).isSome) then
          some (stDeviceFault, dtColUncorrectable)
        else none

/-- R205, R215: the operation's data are gathered, combined and written back. -/
def runOp (s : State) (c : Comm) (o : ColOp) : State :=
  let s := fresh s
  let d := o.desc.toNat
  let p := c.petal
  let k := commKey p c.num
  let s := (sendBufs c d).foldl (fun s b => bufTouch s p b.2.1 b.2.2) s
  let ins := (sendBufs c d).map (fun b => bufRead s p (cBind c b.1) b.2.1 b.2.2)
  let inOf (l : Nat) : List Byte := (((sendBufs c d).zip ins).find? (fun e => e.1.1 == l) |>.map (·.2)).getD []
  let s := count s kCol k 4 ((ins.map (·.length)).foldl (· + ·) 0)
  let s := if opReduces (oOp d) then count s kCol k 6 (cLocal c * oCount d + (if cNodes c = 1 then 0 else freeVal s 5)) else s
  let s := if cNodes c = 1 then s else count s kCol k 2 (freeVal s 6)
  let steps := (s.elapsed - o.started.getD 0).toNat
  let done : State × List (Nat × List Byte) × Nat × Nat :=
    if oOp d = opRsUpdate then
      let r := runUpdate s c o ins
      (r.1, r.2.1, r.2.2, freeVal s 7 % 256)
    else if opReduces (oOp d) = false then (s, moveData s c d inOf, steps, 0)
    else if cNodes c = 1 then
      let r := reduceLocal s c d ins
      (s, r.1, steps, r.2)
    else (s, (recvBufs c d).map (fun b => (b.1, freeBytes s (2 ^ 230 + b.1 * 2 ^ 60) b.2.2)), steps, freeVal s 8 % 256)
  match writeRanks done.1 c d done.2.1 with
  | (s, none) =>
    finishOp (count s kCol k 5 (((done.2.1.map (fun e => e.2.length)).foldl (· + ·) 0))) c o stOk done.2.2.1 (done.2.2.2 % 256 * 2 ^ 8)
  | (s, some st) => finishOp (spoilRecv s c d) c o st (if oOp d = opRsUpdate then done.2.2.1 % 2 ^ 40 else steps) dtColAccelDma

/-- COL_OP_COMPLETE (R210, R212): a started operation completes; `revoked` says that a peer has answered one of its requests with a
remote-access NAK. -/
def execColOpComplete (p : PetalId) (tag : BitVec 13) (revoked : Bool) (s : State) : Host.Outcome State Fault Refusal :=
  .next (match findOp s p.val tag.toNat with
    | some o =>
      match getComm s p.val o.comm with
      | some c =>
        if o.started.isNone then s
        else
          match opTrouble s c o with
          | some f =>
            let read (s : State) : State := (sendBufs c o.desc.toNat).foldl (fun s b => bufTouch s c.petal b.2.1 b.2.2) s
            failOp (if f.2 = dtColUncorrectable then read s else s) c o f.1 f.2
          | none =>
            if revoked && cNodes c != 1 then failOp s c o stRevoked dtPeerRevoked
            else if dmaPending s p.val o.tag then s
            else runOp s c o
      | none => s
    | none => s)

/-- COL_OP_TIMEOUT (R212): counted from the operation's start. -/
def execColOpTimeout (p : PetalId) (tag : BitVec 13) (s : State) : Host.Outcome State Fault Refusal :=
  .next (match findOp s p.val tag.toNat with
    | some o =>
      match getComm s p.val o.comm, o.started with
      | some c, some t =>
        let ms := if oTimeout o.desc.toNat = 0 then cOpMs c else oTimeout o.desc.toNat
        if o.stop = none ∧ elapsedAtLeast s t (ms * 1000000) then failOp s c o stTimeout dtOpTimeout else s
      | _, _ => s
    | none => s)

/-! ### Messages that arrive (R193, R194) -/

/-- The bytes of a message without its last 16. -/
def macBytes (m n : Nat) : List Byte := leBytes (n - 16) m
def msgMac (m n : Nat) : List Byte := leBytes 16 (m / 2 ^ (8 * (n - 16)))

/-- JOIN (R193): a JOIN that arrived on a petal's QP. -/
def receiveJoin (s : State) (c : Comm) (m : BitVec 704) : State :=
  let x := m.toNat
  if cmac (joinKey s c) (macBytes x 0x58) ≠ msgMac x 0x58 then removeJoining s c dtCommBroken stAuthFailed dtJoinRefused
  else if mgF x 0x20 0 32 ≠ joinParams c ∨ mgF x 0x24 0 17 ≠ cNodes c then removeJoining s c dtCommBroken stInvalidArgument dtJoinMismatch
  else
    let c := { c with joins := put c.joins (mgNode x) m }
    if c.joins.length + 1 = cNodes c then resolve (setComm s { c with st := .ready }) (.join c.petal c.num) replyOk else setComm s c
def execJoin (p : PetalId) (qp : BitVec 20) (m : BitVec 704) (s : State) : Host.Outcome State Fault Refusal :=
  .next (match getComm s p.val (mgComm m.toNat) with
    | some c =>
      let x := m.toNat
      if colHeaderOk x 1 0x58 ∧ mgF x 0x20 14 18 = 0 ∧ mgF x 0x24 17 15 = 0 ∧ mgF x 0x28 48 16 = 0 ∧ fromPeer c x qp.toNat ∧ c.st = .joining then
        receiveJoin s c m
      else s
    | none => s)

/-- BROKEN (R190, R193). -/
def execBroken (p : PetalId) (qp : BitVec 20) (m : BitVec 448) (s : State) : Host.Outcome State Fault Refusal :=
  .next (match getComm s p.val (mgComm m.toNat) with
    | some c =>
      let x := m.toNat
      if colHeaderOk x 2 0x38 ∧ mgF x 0x24 0 32 = 0 ∧ fromPeer c x qp.toNat ∧ cmac (joinKey s c) (macBytes x 0x38) = msgMac x 0x38 then
        (if c.st = .joining then
          removeJoining (sendBroken s c (some (mgNode x)) (2 ^ 64 - 1) stAborted dtCommBroken) c dtCommBroken stAborted dtCommBroken
         else breakComm s c.petal c.num (mgSeq x) stAborted dtCommBroken)
      else s
    | none => s)

/-- R447: the key under which a peer encrypts its pieces. -/
def peerWireKey (s : State) (c : Comm) (node : Nat) : List Byte :=
  let salt := ((look c.joins node).map (fun j => fld j.toNat 0x38 0 128)).getD 0
  let key := (((getPetal s c.petal).bind (fun x => slotKey x (cWireSlot c) 1)).map (fun k => keyBytes k 32)).getD []
  sha3 ([0x59, 0x31, 0x2D, 0x57, 0x49, 0x52, 0x45] ++ leBytes 16 salt ++ key)

/-- R194: the piece that a STEP announces, decrypted and checked; none where its tag fails. -/
def openPiece (s : State) (c : Comm) (m : Nat) : Option (List Byte) :=
  gcmDecrypt (peerWireKey s c (mgNode m)) (leBytes 12 (mgF m 0x48 0 96)) (leBytes 0x48 m)
    (memRead s c.petal (cStage c + mgF m 0x38 0 64) (mgF m 0x40 0 32)) (leBytes 16 (mgF m 0x58 0 128))

/-- R194: the form of a STEP's body. -/
def stepFormed (c : Comm) (m : Nat) : Bool :=
  mgF m 0x20 11 21 == 0 && mgF m 0x24 16 16 == 0 && mgF m 0x28 40 24 == 0 && mgF m 0x34 19 13 == 0 && mgF m 0x44 0 32 == 0 && mgF m 0x54 0 32 == 0 &&
  decide (mgF m 0x34 16 3 < 5) && decide (mgF m 0x38 0 64 + mgF m 0x40 0 32 ≤ cStageBytes c) &&
  (cWireSlot c != 0xFFFF || (mgF m 0x48 0 96 == 0 && mgF m 0x58 0 128 == 0))

/-- R194: a STEP that an operation of this node is running for. -/
def stepForOp (s : State) (c : Comm) (o : ColOp) (m : Nat) : State :=
  if stepAgrees c o.desc.toNat m = false then failOp s c o stInvalidArgument dtOpMismatch
  else
    let s := count (fresh s) kCol (commKey c.petal c.num) 3 (mgF m 0x40 0 32)
    if cWireSlot c = 0xFFFF then s
    else
      match openPiece s c m with
      | none => failOp s c o stAuthFailed dtWireAuth
      | some pt => memPut s c.petal (cStage c + mgF m 0x38 0 64) pt

/-- STEP (R194, R201): a STEP of a running operation is checked against it; one of a later operation waits for its start; one that
breaks the rules fails the operation that runs. -/
def execStep (p : PetalId) (qp : BitVec 20) (m : BitVec 832) (s : State) : Host.Outcome State Fault Refusal :=
  .next (match getComm s p.val (mgComm m.toNat) with
    | some c =>
      let x := m.toNat
      let running := (opsOf s p.val c.num).filter (fun o => o.started.isSome && o.stop.isNone)
      if c.st ≠ .ready then s
      else if colHeaderOk x 3 0x68 ∧ stepFormed c x ∧ fromPeer c x qp.toNat then
        match running.find? (fun o => o.seq == mgSeq x) with
        | some o => stepForOp s c o x
        | none => if c.opSeq ≤ mgSeq x ∨ (opsOf s p.val c.num).any (fun o => o.seq == mgSeq x) then
            setComm s { c with steps := c.steps ++ [(mgNode x, m)] } else s
      else
        match (running.find? (fun o => o.seq == mgSeq x)).or running.head? with
        | some o => failOp s c o stInvalidArgument dtOpMismatch
        | none => s
    | none => s)

/-! ### The petal's part (R276 to R281) -/

def colRunning (s : State) (p : Nat) : Bool := s.colOps.any (fun o => o.petal == p && o.started.isSome)

/-- R276: running operations are stopped as by their own abort. -/
def stopCol (s : State) (p : Nat) : State :=
  { s with colOps := s.colOps.map (fun o => if o.petal = p ∧ o.started.isSome ∧ o.stop = none then { o with stop := some (stAborted, dtOpAborted) } else o) }

/-- R280, R281: the communicators of a petal go; with `discard` nothing is written for them. -/
def removeCol (s : State) (p : Nat) (discard : Bool) : State :=
  let cs := (s.comms.filter (fun e => e.2.petal == p)).map (·.2)
  let s := if discard then s else cs.foldl (fun s c => flushOps s c stAborted dtOpAborted) s
  let s := { s with colOps := s.colOps.filter (fun o => o.petal != p) }
  cs.foldl (fun s c => resolve (dropComm s c) (.join p c.num) (replyErr stAborted dtOpAborted)) s

end Sys2Proof.Machine
end

