-- ==== Sys2Proof/Machine/Services.lean ====
section
/-!
DEFINITION. What every service gives a petal: its running work, how it is stopped, its objects and the resources they name
(R277, R278, R280, R281, R481).
-/

namespace Sys2Proof.Machine

/-- The kind of MGT_ENERGY (R517). -/
def kEnergy : Nat := 0x12

/-! ### Running work (R276, R277, R481) -/

/-- R277: has a petal work that runs, or a device-issued request in flight? -/
def petalRunning (s : State) (p : Nat) : Bool :=
  s.launches.any (fun l => l.petal == p && l.started.isSome) || cphRunning s p || colRunning s p || sclRunning s p ||
    atnRunning s p || rdmaRunning s p || s.pcie.reqs.any (fun r => r.petal == p)

/-- R276: the running launches of a petal are stopped as by their own abort. -/
def stopLaunches (s : State) (p : Nat) : State :=
  (s.launches.filter (fun l => l.petal == p && l.started.isSome)).foldl (fun s l => (decideStop s l stAborted dtLaunchAborted).1) s

/-- R276: the running work of a petal is stopped as by its own abort; a cipher request that runs completes by itself (R465). -/
def stopRunning (s : State) (p : Nat) : State :=
  stopRdma (stopAtn (stopScl (stopCol (stopLaunches s p) p) p) p) p

/-- R481: the accepted work of a petal that has not started completes as its own abort makes it complete. -/
def abortWaiting (s : State) (p : Nat) : State :=
  let s := (s.launches.filter (fun l => l.petal == p && l.started.isNone)).foldl (fun s l => (abortLaunch s l).1) s
  let s := (s.cphReqs.filter (fun r => r.petal == p && !r.started)).foldl (fun s r => finishCph s r stAborted dtReqAborted) s
  let s := (s.colOps.filter (fun o => o.petal == p && o.started.isNone)).foldl (fun s o =>
    match getComm s p o.comm with | some c => finishOp s c o stAborted 0 dtOpAborted | none => s) s
  let s := (s.sclCmds.filter (fun c => c.petal == p && c.begun.isNone)).foldl (fun s c =>
    match getScl s p c.qp with | some q => (abortScl s c q).1 | none => s) s
  (s.atnEntries.filter (fun e => e.petal == p && e.started.isNone)).foldl (fun s e => (abortAtn s e).1) s

/-! ### Removal (R280, R281) -/

/-- The launch queues of a petal go: accepted launches complete with ABORTED, or are discarded. -/
def removeLaunches (s : State) (p : Nat) (discard : Bool) : State :=
  let mine := s.launches.filter (fun l => l.petal == p)
  let s := if discard then { s with launches := s.launches.filter (fun l => l.petal != p) }
    else mine.foldl (fun s l => finishLaunch s l stAborted dtLaunchAborted) s
  modPetal s p (fun x => { x with queues := [] })

/-- R280, R281: the service objects of a petal go. -/
def removeObjects (s : State) (p : Nat) (discard : Bool) : State :=
  let s := removeLaunches s p discard
  let s := removeCol (removeCph s p discard) p discard
  let s := removeRdma (removeScl (removeAtn s p discard) p discard) p discard
  { s with
    waiters := s.waiters.filter (fun q => q.petal != p)
    pcie := { s.pcie with failed := s.pcie.failed.filter (fun e => e.1 != p) } }

/-! ### What a petal's objects name (R278, R306, R455) -/

/-- The watches of a petal. -/
def watchesOf (s : State) (p : Nat) : List Watch := ((getPetal s p).map (fun x => x.watches.map (·.2))).getD []

/-- R278: the PDA ranges that a petal's objects use. -/
def usedRanges (s : State) (p : Nat) : List (Nat × Nat) :=
  (s.rdma.regions.filter (fun e => e.1 / 65536 == p)).map (fun e => (e.2.base, e.2.len)) ++
  (match getPetal s p with
   | some x => x.images.map (fun e => (e.1, fld e.2.header.toNat 8 0 32))
   | none => []) ++
  ringRanges s p ++
  (s.comms.filter (fun e => e.2.petal == p)).flatMap (fun e => commParts e.2) ++
  (s.ctxs.filter (fun e => e.2.petal == p)).map (fun e => arenaRange e.2) ++
  (s.vols.filter (fun e => e.2.petal == p)).flatMap (fun e => volRanges e.2) ++
  (watchesOf s p).flatMap (fun w => match bufAddr w.notifyAddr.toNat with | .pda a => [(a, 8)] | _ => [])

/-- R278: does a communicator or an attention context name a petal core index? -/
def coreNamed (s : State) (p i : Nat) : Bool :=
  s.comms.any (fun e => e.2.petal == p && decide (cFirst e.2 ≤ i) && decide (i < cFirst e.2 + cCores e.2)) ||
  s.ctxs.any (fun e => e.2.petal == p && decide (xFirst e.2 ≤ i) && decide (i < xFirst e.2 + xCores e.2))

/-- R278: does a Scroll queue pair with a number of n or above exist? -/
def scrollAbove (s : State) (p n : Nat) : Bool := s.sclQps.any (fun e => e.2.petal == p && decide (n ≤ e.2.num))

/-- R278: does a QP with a number of n or above exist? -/
def qpAbove (s : State) (p n : Nat) : Bool := s.rdma.qps.any (fun e => e.2.petal == p && decide (n ≤ e.2.num))

/-- R278: does a watch or an attention ring name a counter? -/
def counterNamed (s : State) (p i : Nat) : Bool :=
  (watchesOf s p).any (fun w => w.counter == i) ||
  s.ctxs.any (fun e => e.2.petal == p && e.2.rings.any (fun r => r.2.errCounter == i))

/-- R306: does an object of a petal name a vector? -/
def vectorNamed (s : State) (p v : Nat) : Bool :=
  ((getPetal s p).map (fun x => x.queues.any (fun e => e.2.msix == v))).getD false ||
  s.cphQs.any (fun e => e.1 / 64 == p && e.2.ring.msix == v) ||
  s.comms.any (fun e => e.2.petal == p && e.2.ring.msix == v) ||
  s.sclQps.any (fun e => e.2.petal == p && e.2.ring.msix == v) ||
  s.ctxs.any (fun e => e.2.petal == p && e.2.rings.any (fun r => r.2.ring.msix == v)) ||
  s.rdma.cqs.any (fun e => e.1 / 4096 == p && cqMsix e.2 == v) ||
  (watchesOf s p).any (fun w => w.irq && w.msix == v)

/-- R455: does an object of a petal name a key slot? -/
def keyNamed (s : State) (p slot : Nat) : Bool :=
  s.vols.any (fun e => e.2.petal == p && vSlot e.2 == slot) ||
  s.comms.any (fun e => e.2.petal == p && (cJoinSlot e.2 == slot || cWireSlot e.2 == slot)) ||
  s.ctxs.any (fun e => e.2.petal == p && xLow e.2 != 0 && xSlot e.2 == slot)

/-- R278: a petal with fewer context slots evicts what it can. -/
def fitQps (s : State) (p n : Nat) : State := fitResident (residents s p).length s p n

/-! ### The opening of a D2 session (R481) -/

/-- R487: units of a new session that are at W2 or deeper come to W1. -/
def raiseUnits (s : State) : State :=
  { s with pwr := { s.pwr with levels := s.pwr.levels.map (fun e =>
      if 2 ≤ e.2 ∧ unitInSession s (e.1 / 4096) (e.1 % 4096) = true then (e.1, 1) else e) } }

/-- R475, R477: a session opens on a page. -/
def openDebug (s : State) (g level seconds : Nat) : State :=
  let s := { s with sec := { s.sec with sessions := put s.sec.sessions g ⟨level, s.elapsed, seconds⟩ } }
  raiseUnits (logDebug s "debug session opened" level g)

/-- R481, steps 4 and 5: once the petals that the opening quiesces are QUIESCED, their keys are withdrawn and the level is D2. -/
def drainD2 (s : State) : State :=
  match s.sec.d2 with
  | some d =>
    if s.petals.any (fun e => e.2.causeDebug && e.2.st == .quiescing) then s
    else
      resolve (openDebug { s with keysWithdrawn := true, sec := { s.sec with d2 := none } } 512 2 d.seconds) .debugDrain replyOk
  | none => s

end Sys2Proof.Machine
end

