-- ==== Sys2Proof/Machine/Petals.lean ====
section
/-!
DEFINITION. Petals (11_petals): the pool, the resource record and its checks, bindings, the states of a petal and the commands
that change them.
-/

namespace Sys2Proof.Machine

/-! ### Detail codes (R272); PETAL_UNKNOWN stands with the memory commands -/
def dtPetalExists : Nat := 0x80
def dtRecordRange : Nat := 0x82
def dtPoolShort : Nat := 0x83
def dtShareExceeded : Nat := 0x84
def dtResourceInUse : Nat := 0x85
def dtControlExists : Nat := 0x86
def dtCoreMap : Nat := 0x87
def dtBindAuth : Nat := 0x88
def dtBindConflict : Nat := 0x89
def dtDrainForced : Nat := 0x8A
def dtBindNotStaged : Nat := 0x8B

/-- R272: a detail that names a field by its word's byte offset and the bit position within the word. -/
def fieldDetail (code : Nat) (f : Nat × Nat) : Nat := code + f.1 * 2 ^ 8 + f.2 * 2 ^ 16

/-- R297: a petal number as the object of a command. -/
def okPetal : Nat := 9
def petalObj (m : Mbx) : Option (Nat × Nat) := some (okPetal, mPetal m)

/-! ### The resource record (R266, R268, R269) -/

/-- The counts of the record: byte, bit, width, least and greatest value; qp_total's least value is qp_resident. -/
def recCounts (r : BitVec 1024) : List (Nat × Nat × Nat × Nat × Nat) :=
  [(0x00, 0, 10, 0, 512), (0x00, 16, 14, 1, 8192), (0x04, 0, 10, 0, 608), (0x04, 16, 10, 0, 1008), (0x08, 0, 15, 0, 16384),
   (0x08, 16, 13, 0, 4096), (0x0C, 0, 13, 0, 4096), (0x0C, 16, 7, 0, 64), (0x10, 0, 17, 0, 65536),
   (0x14, 0, 21, recQpResident r, 1048576)]

/-- The share fields of the record. -/
def recShares : List (Nat × Nat) :=
  [(0x20, 0), (0x20, 16), (0x24, 0)] ++ (List.range 9).map (fun i => (0x28 + 2 * i, 0)) ++
    (List.range 32).map (fun j => (0x40 + 2 * j, 0))

def shareOf (r : BitVec 1024) (f : Nat × Nat) : Nat := fld r.toNat f.1 f.2 16

/-- R268, R266: the first field outside its range. -/
def rangeFail (r : BitVec 1024) : Option (Nat × Nat) :=
  ((recCounts r).find? (fun f =>
      let v := fld r.toNat f.1 f.2.1 f.2.2.1
      decide (v < f.2.2.2.1) || decide (f.2.2.2.2 < v) ||
      (f.1 == 4 && f.2.1 == 0 && recHbm r + recLpddr r == 0))).map (fun f => (f.1, f.2.1)) |>.or
    (recShares.find? (fun f => decide (32768 < shareOf r f)))

/-- R266: what the pool holds of a count, by its byte and bit; launch queues are not drawn from the pool. -/
def poolOf (s : State) (f : Nat × Nat) : Option Nat :=
  match f with
  | (0x00, 0) => some 512
  | (0x00, 16) => some 8192
  | (0x04, 0) => some ((hbmUnits.map (unitCapacity s)).foldl (· + ·) 0)
  | (0x04, 16) => some ((lpddrUnits.map (unitCapacity s)).foldl (· + ·) 0)
  | (0x08, 0) => some 16384
  | (0x08, 16) => some 4096
  | (0x0C, 0) => some 4096
  | (0x10, 0) => some 65536
  | (0x14, 0) => some 1048576
  | _ => none

/-- The records of the petals other than p. -/
def otherRecords (s : State) (p : Nat) : List (BitVec 1024) := (s.petals.filter (fun e => e.1 != p)).map (fun e => e.2.record)

/-- R266, R278: the first count that the pool, freed of the petal's own grant, cannot cover. -/
def poolFail (s : State) (p : Nat) (r : BitVec 1024) : Option (Nat × Nat) :=
  ((recCounts r).find? (fun f =>
    match poolOf s (f.1, f.2.1) with
    | none => false
    | some n => decide (n < fld r.toNat f.1 f.2.1 f.2.2.1 +
        ((otherRecords s p).map (fun o => fld o.toNat f.1 f.2.1 f.2.2.1)).foldl (· + ·) 0))).map (fun f => (f.1, f.2.1))

/-- R269: the sum of a share over a list of records. -/
def shareSum (l : List (BitVec 1024)) (f : Nat × Nat) : Nat := (l.map (fun r => shareOf r f)).foldl (· + ·) 0

/-- R269: the first share field whose sum would exceed 32,768. -/
def shareFail (s : State) (p : Nat) (r : BitVec 1024) : Option (Nat × Nat) :=
  recShares.find? (fun f => decide (32768 < shareSum (r :: otherRecords s p) f))

/-! ### Cores (R172, R267, R279) -/

/-- The cores of the free pool. -/
def freeCores (s : State) : List Nat := (List.range 512).filter (fun k => (getCore s k).petal.isNone)

/-- R279: the lowest free core of the cluster with most free cores on a die, ties to the lowest cluster. -/
def pickOnDie (free : List Nat) (die : Nat) : Option Nat :=
  let here := free.filter (fun k => k / 128 == die)
  leastBy (fun k => (8 - (here.filter (fun j => j / 8 == k / 8)).length) * 512 + k) here

/-- R279: the next die in rotation that has a free core, from a die on. -/
def pickCore (free : List Nat) (die : Nat) : Option (Nat × Nat) :=
  ((List.range 4).map (fun k => (die + k) % 4)).findSome? (fun d => (pickOnDie free d).map (fun c => (c, d)))

/-- R279: n cores, in rotation over the compute dies. -/
def pickCores : Nat → List Nat → Nat → List Nat
  | 0, _, _ => []
  | n + 1, free, die =>
    match pickCore free die with
    | none => []
    | some (c, d) => c :: pickCores n (free.filter (· != c)) ((d + 1) % 4)

/-- R267, R272: the cores that a bitmap in the control petal's memory names, where it names n free cores. -/
def mapCores (s : State) (pda n : Nat) : Option (List Nat) :=
  match controlPetal s with
  | none => none
  | some c =>
    let l := onesOf 512 (memNat s c pda 64)
    if pda % 64 = 0 ∧ memOpen s c pda 64 = true ∧ l.length = n ∧ l.all (fun k => (freeCores s).contains k) = true then some l
    else none

/-- R271: the cores that a command adds. -/
def addedCores (s : State) (m : Mbx) (n : Nat) : Option (List Nat) :=
  if mf m 0x10 10 1 = 1 then mapCores s (mf m 0x18 0 48) n else some (pickCores n (freeCores s) 0)

/-- R40, R41: cores join a petal; the scratch generation of each advances. -/
def joinCores (s : State) (p : Nat) (l : List Nat) : State :=
  l.foldl (fun s k => setCore s k { advanceGen (getCore s k) with petal := some p, launch := none }) s

/-- Cores return to the pool; nothing is cleared (R158). -/
def leaveCores (s : State) (l : List Nat) : State :=
  l.foldl (fun s k => setCore s k { getCore s k with petal := none, launch := none }) s

/-! ### Bindings (R273, R274) -/

def bindValid (b : Nat) : Bool := bitAt b 37
/-- R274: requester_id, pasid_valid, pasid. -/
def bindTriple (b : Nat) : Nat := if bitAt b 36 then b % 2 ^ 37 else b % 2 ^ 16

/-- The bindings that a request or staged payload of CREATE_PETAL names. -/
def createBindings (m : Mbx) : List Nat := (List.range 4).map (fun b => mf m (0x20 + 8 * b) 0 64)

/-- R274: the triples in force or staged for petals other than p. -/
def othersTriples (s : State) (p : Nat) : List Nat :=
  let inForce := (s.petals.filter (fun e => e.1 != p)).flatMap (fun e => e.2.bindings.map (·.toNat))
  let staged := (s.devArea.stage ++ s.devArea.commits.flatMap (·.items)).filter
    (fun i => i.opcode == 0x0110 && sf i.payload 0x10 0 9 != p)
  ((inForce ++ staged.map (fun i => sf i.payload 0x18 0 64)).filter bindValid).map bindTriple

/-- R274: does one of the entries conflict? -/
def bindConflict (s : State) (p : Nat) (l : List Nat) : Bool :=
  (l.filter bindValid).any (fun b => (othersTriples s p).contains (bindTriple b))

/-! ### CREATE_PETAL (R276) -/

/-- The record that a request carries. -/
def recordIn (m : Mbx) : BitVec 1024 := BitVec.ofNat 1024 (mf m 0x40 0 1024)

/-- R272: the checks of a record that CREATE_PETAL and RESIZE_PETAL share, up to SHARE_EXCEEDED. -/
def recordCheck (s : State) (p : Nat) (r : BitVec 1024) : Option (Nat × Nat) :=
  match rangeFail r with
  | some f => some (stInvalidArgument, fieldDetail dtRecordRange f)
  | none =>
    match poolFail s p r with
    | some f => some (stNoResources, fieldDetail dtPoolShort f)
    | none =>
      match shareFail s p r with
      | some f => some (stNoResources, fieldDetail dtShareExceeded f)
      | none => none

/-- R489. -/
def dtLifecycle : Nat := 0x80

/-- R272, R473: the checks of CREATE_PETAL in order. -/
def createCheck (s : State) (m : Mbx) : Option (Nat × Nat) :=
  let p := mPetal m
  if s.sec.lifecycle ≠ .deployed then some (stNotPermitted, dtLifecycle)
  else if (getPetal s p).isSome then some (stInvalidArgument, dtPetalExists)
  else if mf m 0x10 9 1 = 1 ∧ (controlPetal s).isSome then some (stInvalidArgument, dtControlExists)
  else
    match recordCheck s p (recordIn m) with
    | some e => some e
    | none =>
      if (addedCores s m (recCores (recordIn m))).isNone then some (stInvalidArgument, dtCoreMap)
      else if bindConflict s p (createBindings m) then some (stInvalidArgument, dtBindConflict)
      else none

/-- R138: have the memories that a grant draws on been written? -/
def filledFor (s : State) (h l : Nat) : Bool := (h == 0 || s.hbmFilled) && (l == 0 || s.lpddrFilled)

/-- A petal at its creation (R133, R139, R146, R251, R276). -/
def newPetal (s : State) (r : BitVec 1024) (control : Bool) (bindings : List W64) (cores : List Nat)
    (hbm lpddr : List (Nat × Nat)) : Petal where
  st := .active
  control := control
  record := r
  causeCmd := false
  causeLease := false
  causeFlr := false
  causeDebug := false
  bindings := bindings
  area := Area.new
  cores := cores
  hbm := hbm
  lpddr := lpddr
  loc := []
  pins := []
  heat := []
  heatCount := []
  heatAt := s.elapsed
  policy := policyNew (recHbm r)
  images := []
  queues := []
  tags := []
  drainAt := none
  drainForced := false
  upstreamHeld := false
  counters := []
  watches := []
  watchEnds := []
  lastBlocked := 0
  msixHeld := false
  xts := none
  keySlots := []

/-- R159: whatever the model held of a petal number's memory belongs to an earlier petal. -/
def dropMemory (s : State) (p : Nat) : State :=
  { s with
    mem := s.mem.filter (fun c => c.1 / 2 ^ 48 != p)
    poison := s.poison.filter (fun e => e.1 / 2 ^ 42 != p) }

/-- The counter groups that take their reset values at petal creation (R160, R184, R285, R435). -/
def petalGroups : List Nat := [kMemPetal, kLch, kPtl, kSyn, kRdm, kCph, kEnergy]

/-- The commit of CREATE_PETAL: resources and bindings are granted (R136, R142, R275, R279); the answer says whether HBM was
reclaimed. -/
def createPetal (s : State) (m : Mbx) : State × Bool :=
  let p := mPetal m
  let r := recordIn m
  let cores := sortBy id ((addedCores s m (recCores r)).getD [])
  let s := dropMemory s p
  let t := reclaimFor s (recHbm r)
  let h := takePlots (recHbm r) t.1 p hbmUnits
  let l := takePlots (recLpddr r) h.1 p lpddrUnits
  let s := joinCores l.1 p cores
  let x := newPetal s r (mf m 0x10 9 1 == 1) ((createBindings m).map (BitVec.ofNat 64)) cores h.2 l.2
  let s := setPage (setPetal s p x) p MPage.new
  let s := petalGroups.foldl (fun s k => resetGroup s k p) s
  let s := { s with ink := { s.ink with
    used := s.ink.used.filter (fun e => e.1 / 64 != p)
    dieSteps := s.ink.dieSteps.filter (fun e => e.1 / 4 != p) } }
  ({ s with devArea := { s.devArea with epoch := s.devArea.epoch + 1 } }, t.2)

/-- R271: the response carries the device area's epoch. -/
def epochReply (s : State) : Reply := replyData s.devArea.epoch 8

def recordFields : List (Nat × Nat × Nat) :=
  [(0x40, 0, 10), (0x40, 16, 14), (0x44, 0, 10), (0x44, 16, 10), (0x48, 0, 15), (0x48, 16, 13), (0x4C, 0, 13), (0x4C, 16, 7),
   (0x50, 0, 17), (0x54, 0, 21), (0x60, 0, 32), (0x64, 0, 20), (0x68, 0, 144), (0x80, 0, 512)]

def bindingFields : List (Nat × Nat × Nat) := [(0x20, 0, 38), (0x28, 0, 38), (0x30, 0, 38), (0x38, 0, 38)]

def cmdCreatePetal : Cmd :=
  ⟨0x0100, .device, true, 0xC0, true, [(0x10, 0, 11), (0x18, 0, 48)] ++ bindingFields ++ recordFields, petalObj⟩
def bodyCreatePetal (m : Mbx) (s : State) : State × Ans :=
  match createCheck s m with
  | some e => (s, ansErr e.1 e.2)
  | none =>
    if filledFor s (recHbm (recordIn m)) (recLpddr (recordIn m)) then
      let r := createPetal (fresh s) m
      (r.1, if r.2 then .late .work (epochReply r.1) else .reply (epochReply r.1))
    else (s, .pend .fill)
/-- CREATE_PETAL (R276). -/
def execCreatePetal (m : Mbx) (s : State) : Host.Outcome State Fault Refusal :=
  .next (mailbox cmdCreatePetal bodyCreatePetal m s)

/-! ### RESIZE_PETAL (R278, R561) -/

/-- R278: does an object, a pin or a valid window map use a byte of the slots from n on? -/
def slotsUsed (s : State) (p n : Nat) : Bool :=
  let above (r : Nat × Nat) : Bool := decide (n * 2 ^ 30 < r.1 + r.2) && decide (r.1 < 2 ^ 40)
  match getPetal s p with
  | none => false
  | some x =>
    let maps := (s.windows.filter (fun e => e.2.owner == p)).map (fun e => e.2.entry.toNat) ++
      (x.area.stage.filter (fun i => i.opcode == 0x0201)).map (fun i => sf i.payload 0x18 0 64)
    (usedRanges s p).any above ||
    x.pins.any (fun e => decide (e.2.tier ≠ 0) && decide (512 * n ≤ e.1)) ||
    maps.any (fun e => bitAt e 18 && above (bitsOf e 0 16 * 2 ^ 32, 2 ^ 32))

/-- R278: the first field whose removal fails. -/
def useFail (s : State) (p : Nat) (x : Petal) (r : BitVec 1024) : Option (Nat × Nat) :=
  let o := x.record
  let removed := slotsUsed s p (recHbm r + recLpddr r)
  if (List.range' (recCores r) (recCores o - recCores r)).any (fun i => coreNamed s p i) then some (0x00, 0)
  else if x.tags.any (fun e => decide (recTags r ≤ e.1)) then some (0x00, 16)
  else if (removed && decide (recHbm r < recHbm o)) || decide (512 * recHbm r < pinnedIn x true) then some (0x04, 0)
  else if removed || decide (512 * recLpddr r < pinnedIn x false) then some (0x04, 16)
  else if scrollAbove s p (recScroll r) then some (0x08, 16)
  else if x.keySlots.any (fun e => decide (recKeySlots r ≤ e.1)) then some (0x0C, 0)
  else if x.queues.any (fun e => decide (recQueues r ≤ e.1)) then some (0x0C, 16)
  else if (List.range' (recCounters r) (recCounters o - recCounters r)).any (fun i => counterNamed s p i) then some (0x10, 0)
  else if qpAbove s p (recQpTotal r) then some (0x14, 0)
  else none

/-- R276, R272: the checks of RESIZE_PETAL in order. -/
def resizeCheck (s : State) (m : Mbx) (x : Petal) : Option (Nat × Nat) :=
  let p := mPetal m
  if x.st ≠ .quiesced then some (stNotQuiesced, 0)
  else
    match recordCheck s p (recordIn m) with
    | some e => some e
    | none =>
      match useFail s p x (recordIn m) with
      | some f => some (stBusy, fieldDetail dtResourceInUse f)
      | none =>
        if (addedCores s m (recCores (recordIn m) - recCores x.record)).isNone then some (stInvalidArgument, dtCoreMap) else none

/-- The commit of RESIZE_PETAL (R278, R561). The answer says whether pages moved or were reclaimed. -/
def resizePetal (s : State) (m : Mbx) (x : Petal) : State × Bool :=
  let p := mPetal m
  let r := recordIn m
  let added := (addedCores s m (recCores r - recCores x.record)).getD []
  let gone := x.cores.drop (recCores r)
  let s := settlePetal s p
  let t := reclaimFor s (recHbm r - recHbm x.record)
  let s := dropSlots t.1 p (recHbm r + recLpddr r) (slotsOf x)
  let z := resizePages s p (recHbm r) (recLpddr r)
  let s := joinCores (leaveCores z.1 gone) p added
  let s := modPetal s p (fun x =>
    { x with
      record := r
      cores := sortBy id (x.cores.take (recCores r) ++ added)
      counters := x.counters.filter (fun e => decide (e.1 < recCounters r)) })
  let s := fitQps s p (recQpResident r)
  ({ s with devArea := { s.devArea with epoch := s.devArea.epoch + 1 } }, t.2 || z.2)

def cmdResizePetal : Cmd :=
  ⟨0x0101, .device, true, 0xC0, true, [(0x10, 0, 9), (0x10, 10, 1), (0x18, 0, 48)] ++ recordFields, petalObj⟩
def bodyResizePetal (m : Mbx) (s : State) : State × Ans :=
  match getPetal s (mPetal m) with
  | none => (s, ansErr stNotFound dtPetalUnknown)
  | some x =>
    match resizeCheck s m x with
    | some e => (s, ansErr e.1 e.2)
    | none =>
      if filledFor s (recHbm (recordIn m) - recHbm x.record) (recLpddr (recordIn m) - recLpddr x.record) then
        let r := resizePetal (fresh s) m x
        (r.1, if r.2 then .late .work (epochReply r.1) else .reply (epochReply r.1))
      else (s, .pend .fill)
/-- RESIZE_PETAL (R278). -/
def execResizePetal (m : Mbx) (s : State) : Host.Outcome State Fault Refusal :=
  .next (mailbox cmdResizePetal bodyResizePetal m s)

/-! ### Quiesce and enable (R276, R277) -/

/-- R276, R304: may ENABLE_PETAL act while the causes held are lease expiry or a reset? -/
def leaseHeld (s : State) (p : Nat) (x : Petal) : Bool :=
  !(x.causeLease || x.causeFlr) || (getPage s p).session == 1

/-- R276: ENABLE_PETAL on a QUIESCED petal: it becomes ACTIVE unless firmware debug holds it quiesced. -/
def enablePetal (s : State) (p : Nat) : State :=
  modPetal s p (fun x =>
    let x := { x with causeCmd := false, causeLease := false, causeFlr := false }
    if x.causeDebug then x else { x with st := .active, upstreamHeld := false })

/-- R276: what ENABLE_PETAL answers and does on a QUIESCED petal. -/
def actEnable (s : State) (p : Nat) (x : Petal) : State × Option Reply :=
  if leaseHeld s p x then
    (enablePetal s p, if x.causeDebug then none else some replyOk)
  else (s, some (replyErr stLeaseExpired 0))

/-- R276: the commands that wait for QUIESCED return; a waiting ENABLE_PETAL acts now. -/
def reachQuiesced (s : State) (p : Nat) : State :=
  match getPetal s p with
  | none => s
  | some x =>
    let s := modPetal s p (fun x => { x with st := .quiesced, drainAt := none, drainForced := false })
    let s := resolve s (.quiesce p) ⟨stOk, if x.drainForced then dtDrainForced else 0, 0, 0⟩
    if s.pages.any (fun e => e.2.pends.any (fun q => q.why == .enable p && q.outcome.isNone)) then
      match actEnable s p x with
      | (s, some r) => resolve s (.enable p) r
      | (s, none) => s
    else s

/-- PETAL_QUIESCED (R277): no running work of a QUIESCING petal remains. -/
def execPetalQuiesced (p : PetalId) (s : State) : Host.Outcome State Fault Refusal :=
  .next (match getPetal s p.val with
    | some x => if x.st = .quiescing ∧ petalRunning s p.val = false then drainD2 (reachQuiesced s p.val) else s
    | none => s)

/-- R276: has the earliest drain limit of a QUIESCING petal passed? -/
def drainDue (s : State) (x : Petal) : Bool :=
  match x.drainAt with
  | some t => decide (x.st = .quiescing) && decide (t.toNat ≤ s.elapsed.toNat)
  | none => false

/-- QUIESCE_DRAIN_EXPIRY (R276): running work is stopped as by its own abort. -/
def execQuiesceDrainExpiry (p : PetalId) (s : State) : Host.Outcome State Fault Refusal :=
  .next (match getPetal s p.val with
    | some x =>
      if drainDue s x then stopRunning (modPetal s p.val (fun x => { x with drainAt := none, drainForced := true })) p.val else s
    | none => s)

def cmdQuiescePetal : Cmd := ⟨0x0102, .any, true, 0x18, true, [(0x10, 0, 9), (0x14, 0, 32)], petalObj⟩
def bodyQuiescePetal (m : Mbx) (s : State) : State × Ans :=
  let p := mPetal m
  let ms := mf m 0x14 0 32
  match getPetal s p with
  | none => (s, ansErr stNotFound dtPetalUnknown)
  | some x =>
    if 600000 < ms then (s, ansErr stInvalidArgument 0)
    else
      let s := enterQuiesce s p .cmd
      if x.st = .quiesced then (s, ansOk)
      else
        let due := s.elapsed.toNat + ms * 100000
        let s := if ms = 0 then s else
          modPetal s p (fun x => { x with drainAt := some (BitVec.ofNat 64 (match x.drainAt with | some t => min t.toNat due | none => due)) })
        (s, .pend (.quiesce p))
/-- QUIESCE_PETAL (R276, R277). -/
def execQuiescePetal (m : Mbx) (s : State) : Host.Outcome State Fault Refusal :=
  .next (mailbox cmdQuiescePetal bodyQuiescePetal m s)

def cmdEnablePetal : Cmd := ⟨0x0103, .any, true, 0x14, true, [(0x10, 0, 9)], petalObj⟩
def bodyEnablePetal (m : Mbx) (s : State) : State × Ans :=
  let p := mPetal m
  match getPetal s p with
  | none => (s, ansErr stNotFound dtPetalUnknown)
  | some x =>
    match x.st with
    | .active => (s, ansOk)
    | .quiesced =>
      match actEnable s p x with
      | (s, some r) => (s, .reply r)
      | (s, none) => (s, .pend (.enable p))
    | _ => (s, .pend (.enable p))
/-- ENABLE_PETAL (R276). -/
def execEnablePetal (m : Mbx) (s : State) : Host.Outcome State Fault Refusal :=
  .next (mailbox cmdEnablePetal bodyEnablePetal m s)

/-! ### RESET_PETAL and DESTROY_PETAL (R280, R281) -/

/-- R280: service objects, counters and tags of a petal; `discard` leaves out every completion (R281, step 4). -/
def clearPetal (s : State) (p : Nat) (discard : Bool) : State :=
  let s := removeObjects s p discard
  modPetal s p (fun x => { x with counters := [], tags := [], watches := [], watchEnds := [], images := [] })

def cmdResetPetal : Cmd := ⟨0x0104, .any, true, 0x14, true, [(0x10, 0, 9)], petalObj⟩
def bodyResetPetal (m : Mbx) (s : State) : State × Ans :=
  let p := mPetal m
  match getPetal s p with
  | none => (s, ansErr stNotFound dtPetalUnknown)
  | some x => if x.st = .quiesced then (clearPetal (closeSession s p) p false, ansOk) else (s, ansErr stNotQuiesced 0)
/-- RESET_PETAL (R280). -/
def execResetPetal (m : Mbx) (s : State) : Host.Outcome State Fault Refusal :=
  .next (mailbox cmdResetPetal bodyResetPetal m s)

/-- R281: the steps of DESTROY_PETAL. -/
def destroyPetal (s : State) (p : Nat) (x : Petal) : State :=
  let s := { s with windows := s.windows.filter (fun e => e.2.owner != p) }
  let s := modPetal s p (fun x => { x with bindings := [], xts := none, keySlots := [] })
  let s := clearPetal (closeSession (settlePetal s p) p) p true
  let s := leaveCores (dropPlots s (x.hbm ++ x.lpddr)) x.cores
  let s := dropMemory s p
  { s with
    petals := del s.petals p
    pages := del s.pages p
    moves := s.moves.filter (fun q => q.petal != p)
    msixTable := s.msixTable.filter (fun e => look s.msixOwner e.1 != some p)
    msixPend := s.msixPend.filter (fun e => look s.msixOwner e.1 != some p)
    msixOwner := s.msixOwner.filter (fun e => e.2 != p)
    devArea := { s.devArea with epoch := s.devArea.epoch + 1 } }

def cmdDestroyPetal : Cmd := ⟨0x0105, .device, true, 0x14, true, [(0x10, 0, 9)], petalObj⟩
def bodyDestroyPetal (m : Mbx) (s : State) : State × Ans :=
  let p := mPetal m
  match getPetal s p with
  | none => (s, ansErr stNotFound dtPetalUnknown)
  | some x => if x.st = .quiesced then (destroyPetal s p x, ansOk) else (s, ansErr stNotQuiesced 0)
/-- DESTROY_PETAL (R281). -/
def execDestroyPetal (m : Mbx) (s : State) : Host.Outcome State Fault Refusal :=
  .next (mailbox cmdDestroyPetal bodyDestroyPetal m s)

/-! ### QUERY_PETAL (R271) -/

/-- R271: the highest-numbered quiesce cause. -/
def causeCode (x : Petal) : Nat :=
  if x.causeDebug then 4 else if x.causeFlr then 3 else if x.causeLease then 2 else if x.causeCmd then 1 else 0

def queryReply (x : Petal) : Reply :=
  replyData (x.st.code + causeCode x * 2 ^ 4 + x.area.epoch % 2 ^ 64 * 2 ^ 64 +
    ofElems 64 (x.bindings.map (·.toNat)) * 2 ^ 128 + x.record.toNat * 2 ^ 384) 0xB0

def cmdQueryPetal : Cmd := ⟨0x0106, .any, false, 0x14, true, [(0x10, 0, 9)], noObj⟩
def bodyQueryPetal (m : Mbx) (s : State) : State × Ans :=
  match getPetal s (mPetal m) with
  | none => (s, ansErr stNotFound dtPetalUnknown)
  | some x => (s, .reply (queryReply x))
/-- QUERY_PETAL (R271). -/
def execQueryPetal (m : Mbx) (s : State) : Host.Outcome State Fault Refusal :=
  .next (mailbox cmdQueryPetal bodyQueryPetal m s)

/-! ### BIND_PETAL, ACCEPT_BINDING, SET_SHARES (R274, R275, R283) -/

def cmdBindPetal : Cmd := ⟨0x0110, .device, true, 0x20, true, [(0x10, 0, 9), (0x10, 16, 2), (0x18, 0, 38)], petalObj⟩
def bodyBindPetal (m : Mbx) (s : State) : State × Ans :=
  let p := mPetal m
  if (getPetal s p).isNone then (s, ansErr stNotFound dtPetalUnknown)
  else if bindConflict s p [mf m 0x18 0 64] then (s, ansErr stInvalidArgument dtBindConflict)
  else stageItem 0x0110 m s
/-- BIND_PETAL (R275). -/
def execBindPetal (m : Mbx) (s : State) : Host.Outcome State Fault Refusal :=
  .next (mailbox cmdBindPetal bodyBindPetal m s)

/-- R275: is a staged setting the binding that ACCEPT_BINDING names? -/
def isBinding (p idx b : Nat) (i : Staged) : Bool :=
  i.opcode == 0x0110 && sf i.payload 0x10 0 9 == p && sf i.payload 0x10 16 2 == idx && sf i.payload 0x18 0 64 == b

/-- R271: the 16 bytes under the CMAC. -/
def bindMessage (p idx b : Nat) : List Byte := leBytes 4 p ++ leBytes 4 idx ++ leBytes 8 b

def cmdAcceptBinding : Cmd :=
  ⟨0x0111, .own, true, 0x30, true, [(0x10, 0, 9), (0x10, 16, 2), (0x14, 0, 16), (0x18, 0, 64), (0x20, 0, 128)], noObj⟩
def bodyAcceptBinding (m : Mbx) (s : State) : State × Ans :=
  let p := m.page.val
  let idx := mf m 0x10 16 2
  let b := mf m 0x18 0 64
  if s.devArea.stage.any (isBinding p idx b) then
    match (getPetal s p).bind (fun x => slotKey x (mf m 0x14 0 16) 3) with
    | some k =>
      if cmac (keyBytes k 32) (bindMessage p idx b) = leBytes 16 (mf m 0x20 0 128) then
        ({ s with devArea := { s.devArea with
            stage := s.devArea.stage.map (fun i => if isBinding p idx b i then { i with accepted := true } else i) } }, ansOk)
      else (s, ansErr stAuthFailed dtBindAuth)
    | none => (s, ansErr stAuthFailed dtBindAuth)
  else (s, ansErr stNotFound dtBindNotStaged)
/-- ACCEPT_BINDING (R275). -/
def execAcceptBinding (m : Mbx) (s : State) : Host.Outcome State Fault Refusal :=
  .next (mailbox cmdAcceptBinding bodyAcceptBinding m s)

def cmdSetShares : Cmd :=
  ⟨0x0112, .device, true, 0xC0, true, [(0x10, 0, 9), (0x60, 0, 32), (0x64, 0, 20), (0x68, 0, 144), (0x80, 0, 512)], petalObj⟩
def bodySetShares (m : Mbx) (s : State) : State × Ans :=
  match recShares.find? (fun f => decide (32768 < shareOf (recordIn m) f)) with
  | some f => (s, ansErr stInvalidArgument (fieldDetail dtRecordRange f))
  | none => if (getPetal s (mPetal m)).isNone then (s, ansErr stNotFound dtPetalUnknown) else stageItem 0x0112 m s
/-- SET_SHARES (R283). -/
def execSetShares (m : Mbx) (s : State) : Host.Outcome State Fault Refusal :=
  .next (mailbox cmdSetShares bodySetShares m s)

/-- R275: does a staged binding wait for the tenant's consent? -/
def waitsConsent (s : State) (i : Staged) : Bool :=
  i.opcode == 0x0110 && bindValid (sf i.payload 0x18 0 64) && !i.accepted &&
    (match getPetal s (sf i.payload 0x10 0 9) with
     | some x => x.xts.isSome && x.bindings[sf i.payload 0x10 16 2]? != some (BitVec.ofNat 64 (sf i.payload 0x18 0 64))
     | none => false)

/-- What a commit does with a staged binding or shares; none where it fails (R275, R283). -/
def applyPetal (i : Staged) (s : State) : Option State :=
  let p := sf i.payload 0x10 0 9
  (getPetal s p).map (fun x =>
    if i.opcode = 0x0110 then
      let b := sf i.payload 0x18 0 64
      let l := x.bindings.set (sf i.payload 0x10 16 2) (if bindValid b then BitVec.ofNat 64 b else 0)
      let s := if l = x.bindings then s else { s with keySess := del s.keySess p }
      setPetal s p { x with bindings := l }
    else
      setPetal s p { x with record := BitVec.ofNat 1024 (setBits x.record.toNat 0x100 768 (sf i.payload 0x60 0 768)) })

/-- R253, R269, R274: the condition of the whole set that a commit breaks: the share fields exceeded, and the triples bound to
more than one petal. -/
def sharesOver (s : State) : List (Nat × Nat) :=
  recShares.filter (fun f => decide (32768 < shareSum (s.petals.map (fun e => e.2.record)) f))
def triplesTwice (s : State) : List Nat :=
  let all := s.petals.flatMap (fun e => ((e.2.bindings.map (·.toNat)).filter bindValid).map (fun b => (e.1, bindTriple b)))
  (all.filter (fun a => all.any (fun b => b.2 == a.2 && b.1 != a.1))).map (·.2)

/-- R253: does a staged setting take part in such a condition? -/
def takesPart (past : List (Nat × Nat)) (twice : List Nat) (i : Staged) : Bool :=
  (i.opcode == 0x0112 && past.any (fun f => fld i.payload.toNat (0x30 + f.1) f.2 16 != 0)) ||
  (i.opcode == 0x0110 && bindValid (sf i.payload 0x18 0 64) && twice.contains (bindTriple (sf i.payload 0x18 0 64)))

end Sys2Proof.Machine
end

