-- ==== Sys2Proof/Machine/Session.lean ====
section
/-!
DEFINITION. Sessions, the version handshake and the lease (R298 to R304), MSI-X vector ownership (R305, R306), and the window
commands (R310).
-/

namespace Sys2Proof.Machine

/-! ### HOST_HELLO (R298, R299) -/

/-- R299: may a page use a vector as its mailbox vector? -/
def vectorAllowed (s : State) (g v : Nat) : Bool :=
  v == 0xFFF || (decide (v < 2048) && (look s.msixOwner v == some 0x200 || (g != devPage && look s.msixOwner v == some g)))

/-- R299: a new session identifier, not zero and not the page's previous one; the manual leaves its value open. -/
def newSession (s : State) (g : Nat) : W32 :=
  let a := BitVec.ofNat 32 (freeVal s 0 % (2 ^ 32 - 2) + 1)
  if a.toNat < (getPage s g).sessId.toNat ∨ (getPage s g).sessId = 0 then a else a + 1

/-- R302, R304: the vectors of a petal are no longer withheld, and the pending messages of those that are not masked go. -/
def releaseVectors (s : State) (p : Nat) : State :=
  let s := modPetal s p (fun x => { x with msixHeld := false })
  ((s.msixPend.filter (fun e => e.2 && look s.msixOwner e.1 == some p)).map (·.1)).foldl
    (fun s v => sendMsix { s with msixPend := del s.msixPend v } v) s

/-- R301: an accepted renewal; one made later than 500 ms after the previous one is counted in PTL_LEASE_STATE (R290). -/
def renewLease (s : State) (g : Nat) : State :=
  let pg := getPage s g
  let late := pg.session == 1 && elapsedAtLeast s pg.lastRenew 500000001
  setPage s g { pg with lastRenew := s.elapsed, lateRenewals := if late then min 65535 (pg.lateRenewals + 1) else pg.lateRenewals }

/-- R299: the response payload from byte 0x10 on. -/
def helloPayload (minor sess : Nat) : Nat :=
  3 * 2 ^ 16 + min minor 0 * 2 ^ 32 + sess * 2 ^ 64 + 500 * 2 ^ 96 + 2000 * 2 ^ 112

/-- R298, R478: a session opens: any earlier one ends without expiry, and with it the page's debug session. -/
def openSession (s : State) (g : Nat) (minor v : Nat) (driver : W64) : State :=
  let s := fresh s
  let id := newSession s g
  let s := renewLease (if (getPage s g).session = 1 then closeSession s g else s) g
  let s := setPage s g
    { getPage s g with session := 1, sessId := id, minor := BitVec.ofNat 16 (min minor 0), vector := v, driverId := driver }
  let s := logEvent s 8 0 "session opened" g (if g = devPage then noPetal else g) (leBytes 8 driver.toNat)
  if g = devPage then s else releaseVectors s g

def cmdHostHello : Cmd :=
  ⟨0x0000, .any, false, 0x20, false, [(0x10, 0, 32), (0x14, 0, 12), (0x18, 0, 64)], noObj⟩
def bodyHostHello (m : Mbx) (s : State) : State × Ans :=
  let g := m.page.val
  let minor := mf m 0x10 0 16
  if mf m 0x10 16 16 ≠ 3 then
    let s := if (getPage s g).session = 1 then endLease s g 3 .lease else setPage s g { getPage s g with session := 3 }
    (s, .reply ⟨stVersionRefused, dtHfiMajor + 3 * 2 ^ 8, helloPayload minor 0, 16⟩)
  else if vectorAllowed s g (mf m 0x14 0 12) = false then (s, ansErr stInvalidArgument dtVectorOwner)
  else
    let s := openSession s g minor (mf m 0x14 0 12) (BitVec.ofNat 64 (mf m 0x18 0 64))
    (s, .reply (replyData (helloPayload minor (getPage s g).sessId.toNat) 16))
/-- HOST_HELLO (R298, R299). -/
def execHostHello (m : Mbx) (s : State) : Host.Outcome State Fault Refusal := .next (mailbox cmdHostHello bodyHostHello m s)

/-! ### IDENTIFY, LEASE_RENEW, HOST_GOODBYE (R300) -/

/-- R300: "AED-Y1M" in ASCII, zero-padded to 16 bytes. -/
def orderingCode : Nat := leNat [0x41, 0x45, 0x44, 0x2D, 0x59, 0x31, 0x4D]

/-- R288. -/
def hfiVersion : Nat := 0x00030000

def identifyPayload (s : State) (g : Nat) : Nat :=
  orderingCode + Config.serial.toNat * 2 ^ 128 + (fwBuild s).toNat * 2 ^ 192 + hfiVersion * 2 ^ 224 +
    (if g = devPage then 0x1FF else g) * 2 ^ 256

def cmdIdentify : Cmd := ⟨0x0001, .any, false, 0x10, false, [], noObj⟩
def bodyIdentify (m : Mbx) (s : State) : State × Ans := (s, .reply (replyData (identifyPayload s m.page.val) 0x28))
/-- IDENTIFY (R300). -/
def execIdentify (m : Mbx) (s : State) : Host.Outcome State Fault Refusal := .next (mailbox cmdIdentify bodyIdentify m s)

def cmdLeaseRenew : Cmd := ⟨0x0002, .any, false, 0x10, false, [], noObj⟩
def bodyLeaseRenew (m : Mbx) (s : State) : State × Ans := (renewLease s m.page.val, ansOk)
/-- LEASE_RENEW (R301). -/
def execLeaseRenew (m : Mbx) (s : State) : Host.Outcome State Fault Refusal := .next (mailbox cmdLeaseRenew bodyLeaseRenew m s)

def cmdHostGoodbye : Cmd := ⟨0x0003, .any, false, 0x10, false, [], noObj⟩
/-- R298: the session ends, and its lease expires at once. -/
def bodyHostGoodbye (m : Mbx) (s : State) : State × Ans := (endLease s m.page.val 2 .lease, ansOk)
/-- HOST_GOODBYE (R298). -/
def execHostGoodbye (m : Mbx) (s : State) : Host.Outcome State Fault Refusal :=
  .next (mailbox cmdHostGoodbye bodyHostGoodbye m s)

/-- PTL_LEASE_RENEW and HFI_LEASE_RENEW (R290, R301): a write of the session identifier renews; any other is counted. -/
def leaseWrite (s : State) (g : Nat) (v : W32) : State :=
  let s := settleLease s g
  let pg := getPage s g
  if pg.session = 1 ∧ pg.sessId = v then renewLease s g
  else if pg.session = 1 then setPage s g { pg with badRenewals := pg.badRenewals + 1 }
  else s
def execPtlLeaseRenew (page : PageId) (v : W32) (s : State) : Host.Outcome State Fault Refusal :=
  .next (if pageAnswers s page.val then leaseWrite s page.val v else s)

/-- LEASE_EXPIRY (R301, R302, R478): the lease of a petal page has expired. -/
def execLeaseExpiry (p : PetalId) (s : State) : Host.Outcome State Fault Refusal :=
  .next (if leaseDue s p.val then endLease s p.val 2 .lease else s)

/-- DEVICE_LEASE_EXPIRY (R303): the lease of the device page has expired. -/
def execDeviceLeaseExpiry (s : State) : Host.Outcome State Fault Refusal :=
  .next (if leaseDue s devPage then endLease s devPage 2 .lease else s)

/-! ### MSIX_ASSIGN (R306) -/

def msixRangeOk (first n owner : Nat) : Bool :=
  decide (1 ≤ n) && decide (first + n ≤ 2048) && (decide (owner ≤ 0x200) || owner == 0x3FF)

def cmdMsixAssign : Cmd :=
  ⟨0x0020, .device, true, 0x18, false, [(0x10, 0, 11), (0x10, 16, 12), (0x14, 0, 10)], noObj⟩
def bodyMsixAssign (m : Mbx) (s : State) : State × Ans :=
  if msixRangeOk (mf m 0x10 0 11) (mf m 0x10 16 12) (mf m 0x14 0 10) = false then (s, ansErr stInvalidArgument 0)
  else stageItem 0x0020 m s
/-- MSIX_ASSIGN (R306). -/
def execMsixAssign (m : Mbx) (s : State) : Host.Outcome State Fault Refusal := .next (mailbox cmdMsixAssign bodyMsixAssign m s)

/-- R306: does an owner still name a vector in a queue or as its mailbox vector? -/
def ownerNames (s : State) (owner v : Nat) : Bool :=
  if owner = 0x200 then (getPage s devPage).vector == v
  else (getPage s owner).vector == v || vectorNamed s owner v

/-- R306, R319: one vector passes to an owner; none where the commit fails. At the change its entry is masked and zeroed and its
pending bit cleared. -/
def assignVector (s : State) (v owner : Nat) : Option State :=
  let cur := lookD s.msixOwner v 0x3FF
  if cur = owner then some s
  else if cur < 512 ∧ owner < 512 then none
  else if cur ≠ 0x3FF ∧ ownerNames s cur v then none
  else if owner < 512 ∧ (getPetal s owner).isNone then none
  else
    some { s with
      msixOwner := if owner = 0x3FF then del s.msixOwner v else put s.msixOwner v owner
      msixTable := del s.msixTable v
      msixPend := del s.msixPend v }

def assignVectors : Nat → Nat → Nat → State → Option State
  | 0, _, _, s => some s
  | n + 1, v, owner, s => (assignVector s v owner).bind (assignVectors n (v + 1) owner)

/-- What a commit does with a staged MSIX_ASSIGN. -/
def applyMsix (i : Staged) (s : State) : Option State :=
  assignVectors (sf i.payload 0x10 16 12) (sf i.payload 0x10 0 11) (sf i.payload 0x14 0 10) s

/-! ### Windows (R310) -/

def dtWindowNotGranted : Nat := 0x96

/-- A window's owner, 0x3FF for none, and its entry. -/
def windowOf (s : State) (w : Nat) : Window := lookD s.windows w ⟨0x3FF, 0⟩

def cmdWinGrant : Cmd := ⟨0x0200, .device, true, 0x18, false, [(0x10, 0, 9), (0x10, 16, 10), (0x14, 0, 10)], noObj⟩
def bodyWinGrant (m : Mbx) (s : State) : State × Ans :=
  let n := mf m 0x10 16 10
  let owner := mf m 0x14 0 10
  if n = 0 ∨ 512 < mf m 0x10 0 9 + n ∨ (511 < owner ∧ owner ≠ 0x3FF) then (s, ansErr stInvalidArgument 0)
  else stageItem 0x0200 m s
/-- WIN_GRANT (R310). -/
def execWinGrant (m : Mbx) (s : State) : Host.Outcome State Fault Refusal := .next (mailbox cmdWinGrant bodyWinGrant m s)

def cmdWinMap : Cmd := ⟨0x0201, .own, true, 0x20, false, [(0x10, 0, 9), (0x18, 0, 19)], noObj⟩
def bodyWinMap (m : Mbx) (s : State) : State × Ans :=
  if (windowOf s (mf m 0x10 0 9)).owner = m.page.val then stageItem 0x0201 m s
  else (s, ansErr stNotPermitted dtWindowNotGranted)
/-- WIN_MAP (R310). -/
def execWinMap (m : Mbx) (s : State) : Host.Outcome State Fault Refusal := .next (mailbox cmdWinMap bodyWinMap m s)

def cmdWinQuery : Cmd := ⟨0x0202, .any, false, 0x14, false, [(0x10, 0, 9)], noObj⟩
def bodyWinQuery (m : Mbx) (s : State) : State × Ans :=
  let w := windowOf s (mf m 0x10 0 9)
  (s, .reply (replyData (w.owner + (if m.page.val ≠ devPage ∧ w.owner = m.page.val then w.entry.toNat else 0) * 2 ^ 64) 16))
/-- WIN_QUERY (R310). -/
def execWinQuery (m : Mbx) (s : State) : Host.Outcome State Fault Refusal := .next (mailbox cmdWinQuery bodyWinQuery m s)

/-- R310: one window passes to an owner; none where the commit fails. -/
def grantWindow (s : State) (w owner : Nat) : Option State :=
  let cur := (windowOf s w).owner
  if cur = owner then some s
  else if cur ≠ 0x3FF ∧ owner ≠ 0x3FF then none
  else if owner = 0x3FF then some { s with windows := del s.windows w }
  else if (getPetal s owner).isNone then none
  else some { s with windows := put s.windows w ⟨owner, 0⟩ }

def grantWindows : Nat → Nat → Nat → State → Option State
  | 0, _, _, s => some s
  | n + 1, w, owner, s => (grantWindow s w owner).bind (grantWindows n (w + 1) owner)

/-- What a commit of area g does with a staged WIN_GRANT or WIN_MAP. -/
def applyWindow (g : Nat) (i : Staged) (s : State) : Option State :=
  if i.opcode = 0x0200 then grantWindows (sf i.payload 0x10 16 10) (sf i.payload 0x10 0 9) (sf i.payload 0x14 0 10) s
  else
    let w := sf i.payload 0x10 0 9
    if (windowOf s w).owner = g then some { s with windows := put s.windows w ⟨g, BitVec.ofNat 64 (sf i.payload 0x18 0 64)⟩ } else none

end Sys2Proof.Machine
end

