-- ==== Sys2Proof/Machine/Epoch.lean ====
section
/-!
DEFINITION. Epochs (R250 to R256): the commit of an area at its commit point, its drain, and EPOCH_DISCARD.
-/

namespace Sys2Proof.Machine

def dtDrainOverdue : Nat := 0x80
def dtStageInvalid : Nat := 0x81

/-- What a commit of area g does with one staged setting; none where the setting fails on its own (R253). -/
def applyItem (g : Nat) (i : Staged) (s : State) : Option State :=
  if i.opcode = 0x0020 then applyMsix i s
  else if i.opcode = 0x0110 ∨ i.opcode = 0x0112 then applyPetal i s
  else if i.opcode = 0x0200 ∨ i.opcode = 0x0201 then applyWindow g i s
  else if i.opcode = 0x0211 ∨ i.opcode = 0x0213 then applyMem i s
  else if i.opcode = 0x0740 then applyAddr i s
  else applyNet i s

/-- R253: the settings applied in staging order, with the index of the first that fails on its own. -/
def applyItems (g : Nat) : List Staged → Nat → State → State × Option Nat
  | [], _, s => (s, none)
  | i :: is, k, s =>
    if waitsConsent s i then applyItems g is (k + 1) s
    else
      match applyItem g i s with
      | some t => applyItems g is (k + 1) t
      | none => (s, some k)

/-- R253: the index of the first setting that fails, on its own or as part of a condition of the whole set. -/
def commitFail (s : State) (items : List Staged) (r : State × Option Nat) : Option Nat :=
  let past := sharesOver r.1
  let twice := triplesTwice r.1
  let part := if past = [] ∧ twice = [] then none else items.findIdx? (fun i => takesPart past twice i && !waitsConsent s i)
  match r.2, part with
  | some a, some b => some (min a b)
  | some a, none => some a
  | none, b => b

/-- The final response of EPOCH_COMMIT: the epoch in force (R255). -/
def commitReply (detail epoch : Nat) : Reply := ⟨stOk, detail, epoch % 2 ^ 64, 8⟩

/-- R251, R253: the commit point of the oldest accepted commit of an area. Settings that wait for a tenant's consent stay
staged (R275). Where a setting fails nothing is applied and all stay staged. -/
def commitPoint (s : State) (g : Nat) : State :=
  let a := areaOf s g
  match a.commits with
  | [] => s
  | c :: cs =>
    if c.point.isSome then s
    else
      let r := applyItems g c.items 0 s
      match commitFail s c.items r with
      | some k =>
        let s := setArea s g { a with commits := cs, stage := c.items ++ a.stage }
        resolveOn s g (.epochDrain c.tag) (replyErr stInvalidArgument (dtStageInvalid + k % 2 ^ 16 * 2 ^ 8))
      | none =>
        let kept := c.items.filter (waitsConsent s)
        let n := if kept.length < c.items.length then 1 else 0
        let b := areaOf r.1 g
        setArea r.1 g
          { b with epoch := b.epoch + n, stage := kept ++ b.stage, commits := ⟨c.tag, [], some s.elapsed⟩ :: b.commits.drop 1 }

/-- EPOCH_COMMIT_POINT (R251, R253): the commit point of an area's oldest accepted commit. -/
def execEpochCommitPoint (page : PageId) (s : State) : Host.Outcome State Fault Refusal :=
  .next (commitPoint (fresh s) page.val)

/-- R254: a commit returns. -/
def endCommit (s : State) (g detail : Nat) : State :=
  let a := areaOf s g
  match a.commits with
  | [] => s
  | c :: cs => resolveOn (setArea s g { a with commits := cs }) g (.epochDrain c.tag) (commitReply detail a.epoch)

/-- EPOCH_DRAIN_COMPLETE (R254): every transaction decoded under an earlier epoch has completed. -/
def execEpochDrainComplete (page : PageId) (s : State) : Host.Outcome State Fault Refusal :=
  .next (match (areaOf s page.val).commits with
    | c :: _ => if c.point.isSome then endCommit s page.val 0 else s
    | [] => s)

/-- EPOCH_DRAIN_OVERDUE (R254): 1 ms has passed since the commit point. -/
def execEpochDrainOverdue (page : PageId) (s : State) : Host.Outcome State Fault Refusal :=
  .next (match (areaOf s page.val).commits with
    | c :: _ =>
      match c.point with
      | some t =>
        if elapsedAtLeast s t 1000000 then
          endCommit (logEvent s 8 1 "epoch drain overdue" page.val (if page.val = devPage then noPetal else page.val) [])
            page.val dtDrainOverdue
        else s
      | none => s
    | [] => s)

def cmdEpochCommit : Cmd := ⟨0x0010, .any, true, 0x14, false, [(0x10, 0, 1)], noObj⟩
/-- R251, R255: the settings staged so far are accepted for one commit; a commit with nothing staged returns OK at once. Area 1
is reserved: it belongs to no page. -/
def bodyEpochCommit (m : Mbx) (s : State) : State × Ans :=
  let g := m.page.val
  let a := areaOf s g
  if mf m 0x10 0 1 = 1 then (s, ansErr stNotPermitted 0)
  else if a.stage = [] ∧ a.commits = [] then (s, .reply (commitReply 0 a.epoch))
  else (setArea s g { a with stage := [], commits := a.commits ++ [⟨m.tag.toNat, a.stage, none⟩] }, .pend (.epochDrain m.tag.toNat))
/-- EPOCH_COMMIT (R251). -/
def execEpochCommit (m : Mbx) (s : State) : Host.Outcome State Fault Refusal :=
  .next (mailbox cmdEpochCommit bodyEpochCommit m s)

def cmdEpochDiscard : Cmd := ⟨0x0011, .any, true, 0x10, false, [], noObj⟩
def bodyEpochDiscard (m : Mbx) (s : State) : State × Ans :=
  (setArea s m.page.val { areaOf s m.page.val with stage := [] }, ansOk)
/-- EPOCH_DISCARD (R255). -/
def execEpochDiscard (m : Mbx) (s : State) : Host.Outcome State Fault Refusal :=
  .next (mailbox cmdEpochDiscard bodyEpochDiscard m s)

end Sys2Proof.Machine
end

