-- ==== Sys2Proof/Machine/Keys.lean ====
section
/-!
DEFINITION. Attestation, key sessions and the key slots of a petal (R445 to R456).
-/

namespace Sys2Proof.Machine

/-! ### Detail codes (R471) -/
def dtSlotOccupied : Nat := 0x92
def dtKeyInUse : Nat := 0x93
def dtKeyEmpty : Nat := 0x94
def dtNoKeySession : Nat := 0x95
def dtInjectAuth : Nat := 0x96
def dtInjectReplay : Nat := 0x97
def dtKeyFormat : Nat := 0x98
def dtBindingsChanged : Nat := 0x99
def dtIdentityOff : Nat := 0x9A

/-! ### The report (R450, R451) -/

/-- The epoch of an area as 8 bytes. -/
def epochBytes (a : Area) : List Byte := leBytes 8 a.epoch

/-- Report bytes 0x034 to 0x0FF of a petal page; all zero on the device page. -/
def reportPetal (s : State) (p : Nat) : List Byte :=
  match getPetal s p with
  | none => zeros 0xCC
  | some x =>
    leBytes 4 p ++ leBytes 8 s.devArea.epoch ++ epochBytes x.area ++ leBytes 4 (fwBuild s).toNat ++ leBytes 4 hfiVersion ++
    fitTo 32 Config.romDigest ++ bytesAt (bootedImage s) 0x40 32 ++ sha3 (calBytes s.sec.calLoaded) ++
    sha3 (leBytes 128 x.record.toNat) ++ ((List.range 4).flatMap (fun b => leBytes 8 (x.bindings.getD b 0).toNat)) ++
    leBytes 4 (b2n x.xts.isSome + x.keySlots.length * 2 ^ 16) ++ zeros 12

/-- R450: bytes 0x000 to 0x59F of a report. The device page's has zeros from 0x034 to 0x0F3 and no encapsulation key. -/
def reportBody (s : State) (g : Nat) (nonce ek : List Byte) : List Byte :=
  leBytes 4 0x52413159 ++ leBytes 2 1 ++ leBytes 2 0x05A0 ++ fitTo 32 nonce ++ leBytes 8 Config.serial.toNat ++
  leBytes 4 (s.sec.lifecycle.code + deviceLevel s * 4 + b2n (petalDebug s g) * 16 + b2n s.board.slot * 32 + s.sec.rollback % 64 * 256) ++
  fitTo 0xCC (if g = devPage then [] else reportPetal s g) ++ fitTo 1184 ek

/-- R451: the whole report. The identity key is key 0 of `Config.dsaSign`. -/
def reportOf (body : List Byte) : List Byte := body ++ fitTo 2420 (Config.dsaSign 0 (sha3 body))

/-- May a page name this buffer in a key command: on a petal page as R197 says, on the device page a PDA of the control petal?
The petal it belongs to. -/
def keyBuffer (s : State) (g bind addr n : Nat) : Option Nat :=
  if g = devPage then
    match controlPetal s, bufAddr addr with
    | some p, .pda _ => if bufOk s p 0xF addr n then some p else none
    | _, _ => none
  else if bufOk s g bind addr n then some g else none

/-- Writes what a key command delivers; why it could not be written. -/
def deliver (s : State) (p bind addr : Nat) (bs : List Byte) : State × Option (Nat × Nat) :=
  match bufWrite s p bind addr bs with
  | (s, none) => (s, none)
  | (s, some st) => (s, some (st, dtCphAccelDma))

/-! ### KEY_ATTEST and KEY_CERT (R449, R451) -/

/-- R452: opens a session on a report digest; the key pair's number names its decapsulation key. -/
def openKeySession (s : State) (p : Nat) (digest : List Byte) (pair : Nat) : State :=
  match getPetal s p with
  | some x => { s with keySess := put s.keySess p ⟨digest, some pair, [], x.bindings, 0, s.elapsed⟩ }
  | none => s

def cmdKeyAttest : Cmd :=
  ⟨0x0800, .any, true, 0x40, false,
   [(0x10, 0, 9), (0x10, 9, 1), (0x10, 12, 4), (0x18, 0, 64), (0x20, 0, 256)], noObj⟩
/-- R449: the checks. -/
def attestCheck (s : State) (m : Mbx) : Option (Nat × Nat) :=
  let g := m.page.val
  if s.sec.identityOff then some (stNotPermitted, dtIdentityOff)
  else if g = devPage ∧ mf m 0x10 0 9 ≠ 0x1FF then some (stInvalidArgument, 0)
  else if g ≠ devPage ∧ mf m 0x10 0 9 ≠ g then some (stNotPermitted, 0)
  else if g = devPage ∧ mf m 0x10 9 1 = 1 then some (stInvalidArgument, 0)
  else if bindField (mf m 0x10 12 4) = false ∨ mf m 0x18 0 64 % 64 ≠ 0 then some (stInvalidArgument, 0)
  else if (keyBuffer s g (mf m 0x10 12 4) (mf m 0x18 0 64) 3860).isNone then some (stNotPermitted, dtCphBuffer)
  else none
def bodyKeyAttest (m : Mbx) (s : State) : State × Ans :=
  match attestCheck s m with
  | some e => (s, ansErr e.1 e.2)
  | none =>
    let g := m.page.val
    let s := fresh s
    let kem := mf m 0x10 9 1 == 1
    let body := reportBody s g (leBytes 32 (mf m 0x20 0 256)) (if kem then Config.kemPublic s.freeCtr else [])
    let p := (keyBuffer s g (mf m 0x10 12 4) (mf m 0x18 0 64) 3860).getD 0
    let s := if kem then openKeySession s g (sha3 body) s.freeCtr else s
    match deliver s p (mf m 0x10 12 4) (mf m 0x18 0 64) (reportOf body) with
    | (s, none) => (if g = devPage then s else count s kCph g 4 1, .late .work replyOk)
    | (s, some e) => (s, .late .work (replyErr e.1 e.2))
/-- KEY_ATTEST (R449 to R452). -/
def execKeyAttest (m : Mbx) (s : State) : Host.Outcome State Fault Refusal := .next (mailbox cmdKeyAttest bodyKeyAttest m s)

def cmdKeyCert : Cmd := ⟨0x0801, .any, true, 0x20, false, [(0x10, 12, 4), (0x18, 0, 64)], noObj⟩
/-- R451: the chain, at most 16 KiB. -/
def chainBytes : List Byte := Config.certChain.take 16384
def bodyKeyCert (m : Mbx) (s : State) : State × Ans :=
  let g := m.page.val
  let b := mf m 0x10 12 4
  let a := mf m 0x18 0 64
  if s.sec.identityOff then (s, ansErr stNotPermitted dtIdentityOff)
  else if bindField b = false ∨ a % 64 ≠ 0 then (s, ansErr stInvalidArgument 0)
  else
    match keyBuffer s g b a 16384 with
    | none => (s, ansErr stNotPermitted dtCphBuffer)
    | some p =>
      match deliver s p b a chainBytes with
      | (s, none) => (s, .reply (replyData chainBytes.length 4))
      | (s, some e) => (s, ansErr e.1 e.2)
/-- KEY_CERT (R451). -/
def execKeyCert (m : Mbx) (s : State) : Host.Outcome State Fault Refusal := .next (mailbox cmdKeyCert bodyKeyCert m s)

/-! ### Key sessions (R452 to R454) -/

/-- R452: the session of a petal, unless 10 minutes have passed since its report. -/
def liveKeySession (s : State) (p : Nat) : Option KeySess :=
  (look s.keySess p).filter (fun k => !elapsedAtLeast s k.since 600000000000)

def closeKeySession (s : State) (p : Nat) : State := { s with keySess := del s.keySess p }

/-- The label "Y1-KEY-WRAP". -/
def wrapLabel : List Byte := [0x59, 0x31, 0x2D, 0x4B, 0x45, 0x59, 0x2D, 0x57, 0x52, 0x41, 0x50]

/-- R452: the wrap key, from the ciphertext where the session is not established. -/
def wrapKey (k : KeySess) (ct : List Byte) : List Byte :=
  match k.dk with
  | some pair => sha3 (wrapLabel ++ Config.kemDecaps pair ct ++ k.digest)
  | none => k.wrap

/-- R453: the blob's fields. -/
def bTarget (b : List Byte) : Nat := natAt b 0 2
def bKind (b : List Byte) : Nat := bitsOf (natAt b 2 2) 0 4
def bSeq (b : List Byte) : Nat := natAt b 8 8

/-- R454, check 3. -/
def blobFormed (p : Nat) (x : Petal) (b : List Byte) : Bool :=
  bitsOf (natAt b 2 2) 4 12 == 0 && natAt b 4 4 == p && bytesAt b 0x60 0x20 == zeros 0x20 &&
  decide (1 ≤ bKind b) && decide (bKind b ≤ 3) &&
  (if bTarget b = 0xFFFF then bKind b == 2 else decide (bTarget b < recKeySlots x.record))

/-- R454, check 4. -/
def targetEmpty (x : Petal) (b : List Byte) : Bool :=
  if bTarget b = 0xFFFF then x.xts.isNone else (look x.keySlots (bTarget b)).isNone

/-- R454, check 7. -/
def materialOk (kind : Nat) (pt : List Byte) : Bool :=
  if kind = 2 then bytesAt pt 0 32 != bytesAt pt 32 32 else bytesAt pt 32 32 == zeros 32

/-- R454: installs the key; R447: the salt is drawn and the IV counter is 0. -/
def installKey (s : State) (p : Nat) (b pt : List Byte) : State :=
  let key := BitVec.ofNat 512 (leNat pt)
  let salt := BitVec.ofNat 128 (freeVal s 1)
  let s := modPetal s p (fun x =>
    if bTarget b = 0xFFFF then { x with xts := some key }
    else { x with keySlots := put x.keySlots (bTarget b) ⟨bKind b, key, salt, 0, false⟩ })
  count s kCph p 5 1

/-- A failed injection; one that fails AUTH_FAILED closes the session (R452), and AUTH_FAILED and REVOKED are counted. -/
def injectFail (s : State) (p st dt : Nat) : State × Ans :=
  let s := if st = stAuthFailed then closeKeySession s p else s
  (if st = stAuthFailed ∨ st = stRevoked then count s kCph p 6 1 else s, ansErr st dt)

/-- R454, checks 3 to 7, on the blob and the ciphertext that were read. -/
def injectBlob (s : State) (p : Nat) (x : Petal) (k : KeySess) (b ct : List Byte) : State × Ans :=
  if blobFormed p x b = false then injectFail s p stInvalidArgument dtKeyFormat
  else if targetEmpty x b = false then injectFail s p stInvalidArgument dtSlotOccupied
  else if bSeq b ≤ k.lastSeq then injectFail s p stAuthFailed dtInjectReplay
  else
    let w := wrapKey k ct
    let s := { s with keySess := put s.keySess p { k with dk := none, wrap := w } }
    match gcmDecrypt w (leBytes 8 (bSeq b) ++ zeros 4) (bytesAt b 0 16) (bytesAt b 0x10 64) (bytesAt b 0x50 16) with
    | none => injectFail s p stAuthFailed dtInjectAuth
    | some pt =>
      if materialOk (bKind b) pt = false then injectFail s p stInvalidArgument dtKeyFormat
      else
        let s := { s with keySess := put s.keySess p { k with dk := none, wrap := w, lastSeq := bSeq b } }
        (installKey s p b pt, ansOk)

def cmdKeyInject : Cmd := ⟨0x0802, .own, true, 0x28, false, [(0x10, 12, 4), (0x18, 0, 64), (0x20, 0, 64)], noObj⟩
def bodyKeyInject (m : Mbx) (s : State) : State × Ans :=
  let p := m.page.val
  let b := mf m 0x10 12 4
  let ct := mf m 0x18 0 64
  let blob := mf m 0x20 0 64
  match getPetal s p, liveKeySession s p with
  | some x, some k =>
    if k.dk.isSome ≠ !isNone64 ct then (s, ansErr stNotFound dtNoKeySession)
    else if x.bindings ≠ k.bindings then injectFail s p stRevoked dtBindingsChanged
    else if bindField b = false ∨ blob % 64 ≠ 0 then (s, ansErr stInvalidArgument 0)
    else if bufOk s p b blob 128 = false ∨ (isNone64 ct = false ∧ bufOk s p b ct 1088 = false) then
      (s, ansErr stNotPermitted dtCphBuffer)
    else if bufPoison s p blob 128 ∨ (isNone64 ct = false ∧ bufPoison s p ct 1088) then
      (bufTouch (if isNone64 ct then s else bufTouch s p ct 1088) p blob 128, ansErr stDeviceFault dtCphUncorrectable)
    else
      match (bufWhy s p b blob false).or (if isNone64 ct then none else bufWhy s p b ct false) with
      | some st => (s, ansErr st dtCphAccelDma)
      | none =>
        let s := fresh s
        let ctb := if isNone64 ct then [] else bufRead s p b ct 1088
        let s := bufTouch (if isNone64 ct then s else bufTouch s p ct 1088) p blob 128
        injectBlob s p x k (bufRead s p b blob 128) ctb
  | _, _ => (s, ansErr stNotFound dtNoKeySession)
/-- KEY_INJECT (R453, R454). -/
def execKeyInject (m : Mbx) (s : State) : Host.Outcome State Fault Refusal := .next (mailbox cmdKeyInject bodyKeyInject m s)

def cmdKeySessionClose : Cmd := ⟨0x0803, .own, true, 0x10, false, [], noObj⟩
def bodyKeySessionClose (m : Mbx) (s : State) : State × Ans :=
  if (liveKeySession s m.page.val).isSome then (closeKeySession s m.page.val, ansOk) else (s, ansErr stNotFound dtNoKeySession)
/-- KEY_SESSION_CLOSE (R452). -/
def execKeySessionClose (m : Mbx) (s : State) : Host.Outcome State Fault Refusal :=
  .next (mailbox cmdKeySessionClose bodyKeySessionClose m s)

/-- KEY_SESSION_TIMEOUT (R452): 10 minutes after the report the session closes. -/
def execKeySessionTimeout (p : PetalId) (s : State) : Host.Outcome State Fault Refusal :=
  .next (match look s.keySess p.val with
    | some k => if elapsedAtLeast s k.since 600000000000 then closeKeySession s p.val else s
    | none => s)

/-! ### Slots (R455, R456) -/

def cmdKeyDestroy : Cmd := ⟨0x0804, .own, true, 0x14, false, [(0x10, 0, 16)], fun m => some (okKeySlot, mf m 0x10 0 16)⟩
def bodyKeyDestroy (m : Mbx) (s : State) : State × Ans :=
  let p := m.page.val
  let k := mf m 0x10 0 16
  match getPetal s p with
  | none => (s, ansErr stNotFound 0)
  | some x =>
    if recKeySlots x.record ≤ k then (s, ansErr stNotPermitted dtKeySlot)
    else if (look x.keySlots k).isNone then (s, ansErr stNotFound dtKeyEmpty)
    else if keyNamed s p k then (s, ansErr stBusy dtKeyInUse)
    else
      let s := endKeySlots (modPetal s p (fun x => { x with keySlots := upd x.keySlots k (fun q => { q with destroying := true }) })) p
      if ((getPetal s p).bind (fun x => look x.keySlots k)).isSome then (s, .pend (.objEnd p okKeySlot k)) else (s, ansOk)
/-- KEY_DESTROY (R455). -/
def execKeyDestroy (m : Mbx) (s : State) : Host.Outcome State Fault Refusal := .next (mailbox cmdKeyDestroy bodyKeyDestroy m s)

def cmdKeyQuery : Cmd := ⟨0x0805, .own, false, 0x18, false, [(0x10, 0, 16), (0x14, 0, 7)], noObj⟩
/-- R456: the kind of a slot in a response. -/
def slotKind (x : Petal) (k : Nat) : Nat :=
  if recKeySlots x.record ≤ k then 0xFF else ((look x.keySlots k).map (·.kind)).getD 0
def bodyKeyQuery (m : Mbx) (s : State) : State × Ans :=
  let a := mf m 0x10 0 16
  let n := mf m 0x14 0 7
  match getPetal s m.page.val with
  | none => (s, ansErr stNotFound 0)
  | some x =>
    if n = 0 ∨ 64 < n then (s, ansErr stInvalidArgument 0)
    else
      (s, .reply (replyData (b2n x.xts.isSome + ofElems 8 ((List.range n).map (fun i => slotKind x (a + i))) * 2 ^ 64)
        (alignUp (8 + n) 4)))
/-- KEY_QUERY (R456). -/
def execKeyQuery (m : Mbx) (s : State) : Host.Outcome State Fault Refusal := .next (mailbox cmdKeyQuery bodyKeyQuery m s)

end Sys2Proof.Machine
end

