-- ==== Sys2Proof/Machine/Irq.lean ====
section
/-!
DEFINITION. The interrupt controller (R436 to R444), and the crash of a Quill core and the restart of the Inkstand that a
priority-stack fault leads to (R260, R262, R439, R511).
-/

namespace Sys2Proof.Machine

/-! ### Quill cores and the Inkstand (R260, R262, R511) -/

def getQuill (s : State) (k : Nat) : Quill := lookD s.ink.quills k Quill.new
def setQuill (s : State) (k : Nat) (q : Quill) : State := { s with ink := { s.ink with quills := put s.ink.quills k q } }

/-- R260, R262: a Quill core is halted and reset, and its journal waits for a sibling; at its third crash within an hour it leaves
service until the next module reset, which degrades the module (R289, R514). -/
def quillCrash (s : State) (k : Nat) : State :=
  let q := getQuill s k
  match q.st with
  | .inService =>
    let hits := q.crashes.filter (fun t => !elapsedAtLeast s t 3600000000000) ++ [s.elapsed]
    let gone := decide (3 ≤ hits.length)
    let s := setQuill s k { q with st := if gone then .removed true else .crashed true, crashes := hits }
    let s := logEvent { s with ink := { s.ink with quietAt := s.elapsed } } 1 3 "Quill core crash" k noPetal []
    if gone then latchAlarms (logEvent s 1 3 "Quill core removed" k noPetal []) 0x40 else s
  | _ => s

/-- R439, R511: the Inkstand restarts; its entry is written when it is back. -/
def inkRestart (s : State) : State := { s with ink := { s.ink with restarting := some s.elapsed, quietAt := s.elapsed } }

/-! ### Sources (R436, R437) -/

def srcStackFault : Nat := 0xB00
def srcStuck : Nat := 0xB01
def srcAlert : Nat := 0xB80

/-- R436: the reserved numbers. -/
def srcReserved (n : Nat) : Bool := (decide (0x241 ≤ n) && decide (n ≤ 0x2FF)) || (decide (0xB81 ≤ n) && decide (n ≤ 0xBFF))

def getSrc (s : State) (n : Nat) : IrqSrc := lookD s.irq.srcs n IrqSrc.new
def setSrc (s : State) (n : Nat) (x : IrqSrc) : State := { s with irq := { s.irq with srcs := put s.irq.srcs n x } }
def getProc (s : State) (k : Nat) : IrqProc := lookD s.irq.procs k IrqProc.new
def setProc (s : State) (k : Nat) (x : IrqProc) : State := { s with irq := { s.irq with procs := put s.irq.procs k x } }

/-! ### Raises (R440, R441, R443) -/

/-- R441: the raises of an active source that fall within the last 1 ms, this one included. -/
def recentRaises (s : State) (x : IrqSrc) : List W64 := x.raises.filter (fun t => !elapsedAtLeast s t 1000000) ++ [s.elapsed]

/-- R440: the pending bit, and the merge of a raise of a source that is pending. -/
def setPending (s : State) (n : Nat) (x : IrqSrc) : State :=
  if x.pending then setSrc (count s kIrq x.target 1 1) n { x with overrun := min 0xFFFF (x.overrun + 1) }
  else setSrc s n { x with pending := true }

/-- R443: a raise wakes the hub partition of its processor; from W2 or deeper it is latched. -/
def wakeTarget (s : State) (n : Nat) : State :=
  let x := getSrc s n
  if x.target < 64 then
    let deep := decide (2 ≤ unitLevel s ukHub (x.target / 16))
    let s := if deep then setSrc (count s kIrq x.target 5 1) n { x with latched := true } else s
    wakeUnit s ukHub (x.target / 16)
  else s

/-- R440, R443: a raise that is not counted against its source. -/
def plainRaise (s : State) (n : Nat) : State :=
  let x := getSrc s n
  if x.target = 127 then count s kIrq 64 6 1
  else if x.target < 64 ∧ s.pwr.module = 4 then s
  else wakeTarget (setPending s n x) n

/-- R441: more than 1,024 raises of an active source within 1 ms mask it. -/
def raise (s : State) (n : Nat) : State :=
  let x := getSrc s n
  if srcReserved n then s
  else if x.active ∧ n ≠ srcStackFault ∧ n ≠ srcStuck ∧ x.target ≠ 127 then
    let hits := recentRaises s x
    if 1024 < hits.length ∧ x.stuck = false then
      let s := plainRaise (setSrc s n { x with raises := hits, enable := false, stuck := true, masks := x.masks ++ [s.elapsed] }) n
      let s := plainRaise (count s kIrq x.target 4 1) srcStuck
      logEvent s 0 2 "interrupt source stuck" n noPetal []
    else plainRaise (setSrc s n { x with raises := hits }) n
  else plainRaise s n

/-- R437: a write to IRQ_RAISE; bits [31:12] must be zero. -/
def raiseWrite (s : State) (v : W32) : State := if v.toNat < 4096 then raise s v.toNat else s
/-- IRQ_RAISE (R437, R440). -/
def execIrqRaise (v : W32) (s : State) : Host.Outcome State Fault Refusal := .next (raiseWrite s v)

/-! ### Claim and end of service (R438, R439) -/

/-- R438: the top of a processor's stack; −1 where it is empty, so one more than it here. -/
def stackTop (p : IrqProc) : Nat := match p.stack with | (q, _) :: _ => q + 1 | [] => 0

/-- R438: does a source ask processor k? -/
def asks (s : State) (k : Nat) (x : IrqSrc) : Bool :=
  let p := getProc s k
  decide (x.target = k) && x.enable && x.pending && decide (p.threshold ≤ x.priority) && decide (stackTop p ≤ x.priority) && !bitAt p.pfault.toNat 0

/-- R438: the source that processor k claims: the highest priority, and among equals the lowest number. -/
def topSource (s : State) (k : Nat) : Option (Nat × IrqSrc) :=
  (s.irq.srcs.filter (fun e => asks s k e.2)).foldl (fun b e =>
    match b with
    | some z => if z.2.priority < e.2.priority then some e else b
    | none => some e) none

/-- R438: the value that a read of IRQ_CLAIM returns, and its effect. -/
def claim (s : State) (k : Nat) : State × Nat :=
  match topSource s k with
  | some (n, x) =>
    let p := getProc s k
    let s := setSrc (count s kIrq k 0 1) n { x with pending := false, active := true, latched := false, overrun := 0, by_ := k }
    (setProc s k { p with stack := (x.priority, n) :: p.stack }, n + x.priority * 2 ^ 12 + 2 ^ 31)
  | none => (s, 0)
/-- IRQ_CLAIM (R438): the value read goes to the hub. -/
def execIrqClaim (k : Fin 65) (s : State) : Host.Outcome State Fault Refusal :=
  let r := claim s k.val
  .next { r.1 with sent := r.1.sent ++ [.hubRead r.2] }

/-- R439: a priority-stack fault of processor k: the core crashes; for the Inkstand its stack and active bits clear and it restarts. -/
def stackFault (s : State) (k n : Nat) : State :=
  let s := setProc (count s kIrq k 3 1) k { getProc s k with pfault := BitVec.ofNat 32 (1 + n * 2 ^ 16) }
  let s := logEvent (raise s srcStackFault) 0 3 "priority-stack fault" k noPetal []
  if k < 64 then quillCrash s k
  else
    let s := { s with irq := { s.irq with srcs := mapT s.irq.srcs (fun _ x => if x.active ∧ x.by_ = 64 then { x with active := false } else x) } }
    inkRestart (setProc s 64 { getProc s 64 with stack := [] })

/-- R439: a write of a source to IRQ_EOI of processor k. -/
def endService (s : State) (k n : Nat) : State :=
  let x := getSrc s n
  let p := getProc s k
  match p.stack with
  | (_, t) :: rest =>
    if t = n ∧ x.active = true ∧ x.by_ = k then
      setProc (setSrc (count s kIrq k 2 1) n { x with active := false }) k { p with stack := rest }
    else stackFault s k n
  | [] => stackFault s k n
/-- IRQ_EOI (R439). -/
def execIrqEoi (k : Fin 65) (n : Fin 4096) (s : State) : Host.Outcome State Fault Refusal := .next (endService s k.val n.val)

/-! ### Configuration and re-arming (R437, R441) -/

/-- R437: a write to IRQ_SRC_CFG. -/
def configSource (s : State) (n : Nat) (v : W32) : State :=
  let w := v.toNat
  let x := getSrc s n
  let x := { x with priority := bitsOf w 0 4, target := bitsOf w 6 7, enable := bitAt w 16 }
  setSrc s n (if bitAt w 17 then { x with enable := true, stuck := false, raises := [] } else x)
/-- IRQ_SRC_REARM (R437): a write to IRQ_SRC_CFG with the rearm bit set. -/
def execIrqSrcRearm (n : Fin 4096) (v : W32) (s : State) : Host.Outcome State Fault Refusal :=
  .next (configSource s n.val (v ||| 0x20000))

/-- R441: 100 ms after a masking the Inkstand re-arms the source, unless it has been masked three times within one hour. -/
def stuckRearm (s : State) (n : Nat) : State :=
  let x := getSrc s n
  let last := x.masks.getLast?.getD 0
  let hour := x.masks.filter (fun t => decide (last.toNat < t.toNat + 360000000000))
  if x.stuck = true ∧ elapsedAtLeast s last 100000000 = true ∧ hour.length < 3 then
    setSrc s n { x with stuck := false, enable := true, raises := [] }
  else s
/-- IRQ_STUCK_REARM (R441). -/
def execIrqStuckRearm (n : Fin 4096) (s : State) : Host.Outcome State Fault Refusal := .next (stuckRearm s n.val)

/-- R515: the Inkstand drives ALERT_N while an alarm bit is latched. -/
def alertDriven (s : State) : Bool := s.ink.latched != 0

/-- ALERT_N_SENSE (R442, R500): a falling edge that the device does not drive raises source 0xB80; it wakes the module. -/
def execAlertNSense (s : State) : Host.Outcome State Fault Refusal := .next (if alertDriven s then s else raise (awake s) srcAlert)

/-- R444: the fields of the IRQ group of a processor. -/
def irqFields (s : State) (k : Nat) : List Nat := (List.range 7).map (countVal s kIrq k)

/-- R437: IRQ_STACK of a processor. -/
def stackReg (p : IrqProc) : Nat :=
  p.stack.length % 32 + (p.stack.map (fun e => 2 ^ (16 + e.1))).foldl (· + ·) 0
/-- R437: IRQ_SRC_CFG and IRQ_SRC_STATE. -/
def cfgReg (x : IrqSrc) : Nat := x.priority + x.target * 2 ^ 6 + b2n x.enable * 2 ^ 16
def stateReg (x : IrqSrc) : Nat :=
  b2n x.pending + b2n x.active * 2 + b2n x.stuck * 4 + b2n x.latched * 8 + x.overrun * 2 ^ 16

end Sys2Proof.Machine
end

