-- ==== Sys2Proof/Machine/Link.lean ====
section
/-!
DEFINITION. PCI Express ports (13_pcie): training and widths, link power, slots and hot-plug, completions of PF0's requests,
translations, and the resets of R326 and R327.
-/

namespace Sys2Proof.Machine

/-- The kind of HFI_PORT (R337). -/
def kPort : Nat := 0x07

def modSwPort (s : State) (i : Nat) (f : SwPort → SwPort) : State := setSwPort s i (f (swPort s i))
def modSlot (s : State) (i : Nat) (f : Slot → Slot) : State := modSwPort s i (fun x => { x with slot := f x.slot })

/-- The uncorrectable and advisory errors that PF0 logs in AER. -/
def aerPf0 (s : State) : State := { s with pcie := { s.pcie with aer := s.pcie.aer + 1 } }

/-- R328: a port with a TLP to carry leaves L1. -/
def leaveL1 (s : State) (i : Nat) : State := modSwPort s i (fun x => { x with l1 := 0 })

/-! ### Hot-plug reports (R330, R332, R333) -/

/-- R330: Presence Detect State. -/
def presence (x : Slot) : Bool := x.prsnt || (x.inBand && !x.inBandOff)

/-- R333: the port's MSI vector sends when Hot-Plug Interrupt Enable and the event's enable are set; an unstable slot sends none
(R332). -/
def slotMsi (s : State) (i : Nat) (en : Bool) : State :=
  let x := (swPort s i).slot
  if x.hpie && en && !x.unstable then { s with sent := s.sent ++ [.slotMsi i] } else s

def setCc (s : State) (i : Nat) : State := slotMsi (modSlot s i (fun x => { x with cc := true })) i (swPort s i).slot.ccEn
/-- R332: an unstable slot no longer sets Presence Detect Changed and Data Link Layer State Changed. -/
def setPdc (s : State) (i : Nat) : State :=
  if (swPort s i).slot.unstable then s
  else slotMsi (modSlot s i (fun x => { x with pdc := true, reported := presence x })) i (swPort s i).slot.pdcEn
def setDllsc (s : State) (i : Nat) : State :=
  if i = 0 ∨ (swPort s i).slot.unstable = true then s
  else slotMsi (modSlot s i (fun x => { x with dllsc := true })) i (swPort s i).slot.dllscEn

/-! ### Requests of PF0 that end (R323, R325) -/

/-- R323: the invalidations whose requests have all ended are completed. -/
def flushInvs (s : State) : State :=
  let waits (v : Nat × Nat) : Bool := s.pcie.reqs.any (fun r => (v.1 == 2 ^ 21 || r.pasid == v.1) && r.page == v.2)
  let done := s.pcie.invs.filter (fun v => !waits v)
  { s with
    pcie := { s.pcie with invs := s.pcie.invs.filter waits }
    sent := s.sent ++ done.map (fun v => Out.invalidated v.1 v.2) }

/-- The requests of PF0 through a port end; each one's task learns of the failure (R325, R334). -/
def failReqs (s : State) (i : Nat) : State :=
  let mine := s.pcie.reqs.filter (fun r => r.port == i)
  flushInvs { s with pcie := { s.pcie with
    reqs := s.pcie.reqs.filter (fun r => r.port != i)
    failed := s.pcie.failed ++ mine.map (fun r => (r.petal, r.task)) } }

/-- R327: PF0's requests toward the upstream port end; the work that needs them finds its petal withheld. -/
def dropUpstream (s : State) : State :=
  flushInvs { s with pcie := { s.pcie with reqs := s.pcie.reqs.filter (fun r => r.port != 0) } }

/-- R325: an Unexpected Completion is discarded, logged and counted. -/
def unexpected (s : State) (i tag : Nat) : State :=
  logEvent (count (aerPf0 s) kPort i 6 1) 3 1 "unexpected completion" i noPetal (leBytes 4 tag)

/-- R325: a completion reaches PF0 through a port; `ok` is Successful Completion. -/
def completionIn (s : State) (i tag : Nat) (ok : Bool) : State :=
  match s.pcie.reqs.find? (fun r => r.tag == tag && r.port == i) with
  | some r =>
    let s := { s with pcie := { s.pcie with reqs := s.pcie.reqs.filter (fun q => q.tag != tag) } }
    flushInvs (if ok then s else { s with pcie := { s.pcie with failed := s.pcie.failed ++ [(r.petal, r.task)] } })
  | none => unexpected s i tag
/-- PCIE_COMPLETION_RECEIVE (R325): the last completion of a request, or one that matches none. -/
def execPcieCompletionReceive (i : Fin 9) (tag : BitVec 14) (ok : Bool) (s : State) : Host.Outcome State Fault Refusal :=
  .next (completionIn (leaveL1 (awake s) i.val) i.val tag.toNat ok)

/-- R324: the timeout of PF0's non-posted requests, in ns. -/
def completionNs (s : State) : Nat :=
  match s.pcie.cto.toNat with
  | 1 => 80000 | 2 => 8000000 | 5 => 40000000 | 6 => 160000000 | 9 => 640000000 | 10 => 2800000000
  | 13 => 10000000000 | 14 => 48000000000 | _ => 40000000

/-- R324, R325: a request times out; its tag is held. -/
def completionTimeout (s : State) (tag : Nat) : State :=
  match s.pcie.reqs.find? (fun r => r.tag == tag) with
  | some r =>
    if elapsedAtLeast s r.since (completionNs s) then
      let s := { s with pcie := { s.pcie with
        reqs := s.pcie.reqs.filter (fun q => q.tag != tag)
        heldTags := s.pcie.heldTags ++ [(tag, s.elapsed)]
        failed := s.pcie.failed ++ [(r.petal, r.task)] } }
      flushInvs (count s kPort r.port 5 1)
    else s
  | none => s
/-- PCIE_COMPLETION_TIMEOUT (R324). -/
def execPcieCompletionTimeout (tag : BitVec 14) (s : State) : Host.Outcome State Fault Refusal := .next (completionTimeout s tag.toNat)

/-- PCIE_TAG_HOLD_EXPIRY (R325): after twice the timeout value a held tag is free. -/
def execPcieTagHoldExpiry (tag : BitVec 14) (s : State) : Host.Outcome State Fault Refusal :=
  .next { s with pcie := { s.pcie with
    heldTags := s.pcie.heldTags.filter (fun h => !(h.1 == tag.toNat && elapsedAtLeast s h.2 (2 * completionNs s))) } }

/-- R323: an Invalidation Request for a page under a PASID (2^20 for none), or under every PASID. The host has withdrawn the
translation. -/
def invalidate (s : State) (pasid page : Nat) : State :=
  let hit (x : Xlat) : Bool := (pasid == 2 ^ 21 || x.pasid == pasid) && x.page == page
  let s := { s with pcie := { s.pcie with
    atc := s.pcie.atc.filter (fun x => !hit x), host := s.pcie.host.filter (fun x => !hit x), invs := s.pcie.invs ++ [(pasid, page)] } }
  flushInvs (count s kPort 0 7 1)
/-- ATS_INVALIDATION (R323). `everyPasid` is Global Invalidate. -/
def execAtsInvalidation (everyPasid : Bool) (pasid : Option (BitVec 20)) (page : BitVec 52) (s : State) : Host.Outcome State Fault Refusal :=
  .next (invalidate (leaveL1 (awake s) 0)
    (if everyPasid then 2 ^ 21 else match pasid with | some p => p.toNat | none => 2 ^ 20) page.toNat)

/-! ### Training (R335, R330, R541) -/

/-- R541: is the reference that t0 selected good? -/
def selectedGood (s : State) : Bool := bitAt s.board.refGood.toNat (b2n s.board.refSel)

/-- R529, R530: have the ports power and their start? -/
def started (s : State) : Bool :=
  match s.board.stage with
  | .booting _ => true
  | .service => true
  | .recovery => true
  | _ => false

/-- Do the lanes from lane 0 on, or from lane 15 down, all pass for a width? -/
def lanesPass (failed n : Nat) (top : Bool) : Bool := bitsOf failed (if top then 16 - n else 0) n == 0

/-- R335: the widest of x16, x8, x4, x2 and x1 that trains from an end; 0 where none does. -/
def widest (failed : Nat) (top : Bool) : Nat := ([16, 8, 4, 2, 1].find? (fun n => lanesPass failed n top)).getD 0

/-- R330, R540: may a port train: the upstream port always; a downstream port with slot power driven and presence? -/
def mayTrain (s : State) (i : Nat) : Bool :=
  started s && selectedGood s && !(swPort s i).up && (decide (s.pwr.module = 0)) && !s.board.perst &&
    (i == 0 || ((swPort s i).slot.pwren && presence (swPort s i).slot && !bitAt s.board.latched.toNat (i - 1) && !(swPort s i).slot.pcc))

/-- R335: a port trains from Detect. -/
def train (s : State) (i failed : Nat) (swapped : Bool) (polarity : BitVec 16) (flit : Bool) : State :=
  let lo := widest failed false
  let hi := widest failed true
  let w := max lo hi
  let x := swPort s i
  let s := if x.trained then count s kPort i 8 1 else s
  let s := if failed = 0 then s else logEvent s 3 1 "PCIe lanes failed" i noPetal (leBytes 2 failed)
  let y : SwPort := { x with laneFault := BitVec.ofNat 16 failed, trained := true }
  if w = 0 then setSwPort s i y
  else
    let y : SwPort := { y with
      up := true, width := w, active := w, flit := flit, reversed := swapped || decide (lo < hi), polarity := polarity, l1 := 0
      slot := if i = 0 then y.slot else { y.slot with perst := false } }
    setDllsc (setSwPort s i y) i
/-- LINK_TRAINING (R335): the lanes that fail, whether the partner's lanes are in reverse order, the inverted ones, and Flit mode. -/
def execLinkTraining (i : Fin 9) (failed : BitVec 16) (swapped : Bool) (polarity : BitVec 16) (flit : Bool) (s : State) :
    Host.Outcome State Fault Refusal :=
  .next (if mayTrain s i.val then train s i.val failed.toNat swapped polarity flit else s)

/-! ### Link power (R328, R329) -/

/-- R328: the L1 state that a port in L1 takes by its CLKREQ_N. -/
def l1Of (x : SwPort) : Nat := if x.clkreqOff then (if x.l12En then 3 else if x.l11En then 2 else 1) else 1

/-- LINK_L1_ENTRY (R328): 32 µs without a TLP or DLLP have passed. -/
def execLinkL1Entry (i : Fin 9) (s : State) : Host.Outcome State Fault Refusal :=
  .next (if (swPort s i.val).up ∧ (swPort s i.val).aspmL1 ∧ (swPort s i.val).l1 = 0 then
      modSwPort s i.val (fun x => { x with l1 := l1Of x })
    else s)

/-- CLKREQ_N_CHANGE (R328). -/
def execClkreqNChange (i : Fin 9) (deasserted : Bool) (s : State) : Host.Outcome State Fault Refusal :=
  .next (modSwPort s i.val (fun x =>
    let x := { x with clkreqOff := deasserted }
    if x.l1 = 0 then x else { x with l1 := l1Of x }))

/-- LINK_WIDTH_CHANGE (R329): in Flit mode with L0p enabled the active width changes; `log` is the log2 of the new width. -/
def execLinkWidthChange (i : Fin 9) (log : Fin 5) (s : State) : Host.Outcome State Fault Refusal :=
  .next (
    let x := swPort s i.val
    let w := 2 ^ log.val
    if x.up ∧ x.flit ∧ x.l0pEn ∧ x.l1 = 0 ∧ w ≤ x.width ∧ w ≠ x.active then
      count (setSwPort s i.val { x with active := w }) kPort i.val 9 1
    else s)

/-! ### Links that go down (R334, R541) -/

/-- R334: a downstream link goes down. -/
def downLink (s : State) (i : Nat) : State :=
  if (swPort s i).up then
    setDllsc (failReqs (modSwPort s i (fun x => { x with up := false, width := 0, active := 0, l1 := 0 })) i) i
  else s

/-- SURPRISE_REMOVAL (R334): link i goes down without a power command; a hot-plug event wakes the module (R500). -/
def execSurpriseRemoval (i : Fin 8) (s : State) : Host.Outcome State Fault Refusal := .next (downLink (awake s) (i.val + 1))

/-! ### Slots (R330 to R333) -/

/-- R330: slot power is applied: SLOT_PWREN is asserted. -/
def powerSlot (x : Slot) : Slot := { x with pcc := false, pwren := true, offAt := none }

/-- SLOT_POWER_ON (R330, step 1): Power Controller Control is written 0. -/
def execSlotPowerOn (i : Fin 8) (s : State) : Host.Outcome State Fault Refusal :=
  .next (setCc (modSlot (awake s) (i.val + 1) powerSlot) (i.val + 1))

/-- SLOT_POWER_OFF (R330, step 3): Power Controller Control is written 1; SLOT_PERST_N is asserted, which takes the link down. -/
def execSlotPowerOff (i : Fin 8) (s : State) : Host.Outcome State Fault Refusal :=
  .next (
    let s := awake s
    modSlot (downLink s (i.val + 1)) (i.val + 1) (fun x =>
      { x with pcc := true, perst := true, offAt := if x.pwren then some (x.offAt.getD s.elapsed) else none }))

/-- SLOT_POWER_OFF_DONE (R330, step 4): SLOT_PWREN is deasserted. -/
def execSlotPowerOffDone (i : Fin 8) (s : State) : Host.Outcome State Fault Refusal :=
  .next (if (swPort s (i.val + 1)).slot.offAt.isSome then
      setCc (modSlot s (i.val + 1) (fun x => { x with pwren := false, offAt := none })) (i.val + 1)
    else s)

/-- SLOT_INDICATOR_SET (R330): a Slot Control write with new indicator values: 1 on, 2 blink, 3 off; 0 is reserved and changes
nothing. -/
def setIndicators (s : State) (i : Nat) (attn pwr : BitVec 2) : State :=
  let x := (swPort s i).slot
  let y := { x with attnInd := if attn = 0 then x.attnInd else attn, pwrInd := if pwr = 0 then x.pwrInd else pwr }
  if y = x then s else setCc (modSlot s i (fun _ => y)) i
def execSlotIndicatorSet (i : Fin 8) (attn pwr : BitVec 2) (s : State) : Host.Outcome State Fault Refusal :=
  .next (setIndicators (awake s) (i.val + 1) attn pwr)

/-- R332: the presence changes of a slot within the last second. -/
def recentChanges (s : State) (x : Slot) : List W64 := x.changes.filter (fun t => !elapsedAtLeast s t 1000000000)

/-- R332, R333: the pins of a slot change; a change of Presence Detect State is counted and reported. -/
def slotPins (s : State) (i : Nat) (y : Slot) : State :=
  let x := (swPort s i).slot
  if presence y = presence x then modSlot s i (fun _ => y)
  else
    let hits := recentChanges s x ++ [s.elapsed]
    let s := modSlot s i (fun _ => { y with changes := hits })
    let s :=
      if 16 < hits.length ∧ x.unstable = false then
        logEvent (modSlot s i (fun z => { z with unstable := true })) 3 2 "slot unstable" i noPetal []
      else s
    setPdc s i
def presenceChange (s : State) (i : Nat) (prsnt inBand : Bool) : State :=
  slotPins s i { (swPort s i).slot with prsnt := prsnt, inBand := inBand }
/-- PRESENCE_CHANGE (R332). -/
def execPresenceChange (i : Fin 8) (prsnt inBand : Bool) (s : State) : Host.Outcome State Fault Refusal :=
  .next (presenceChange (awake s) (i.val + 1) prsnt inBand)

/-- ATTENTION_BUTTON (R331): the input has been low (`low`), or high, for 20 ms without a break. -/
def execAttentionButton (i : Fin 8) (low : Bool) (s : State) : Host.Outcome State Fault Refusal :=
  .next (
    let p := i.val + 1
    let x := (swPort s p).slot
    if low = true ∧ x.pressed = false then
      let s := awake s
      slotMsi (modSlot s p (fun x => { x with pressed := true, abp := true })) p x.abpEn
    else if low then s
    else modSlot s p (fun x => { x with pressed := false }))

/-- R332: rearm: the count restarts; a presence state that differs from the one last reported is reported at once. -/
def rearmSlot (s : State) (i : Nat) : State :=
  let s := modSlot s i (fun x => { x with unstable := false, changes := [] })
  if presence (swPort s i).slot = (swPort s i).slot.reported then s else setPdc s i
/-- REARM (R332, R336). -/
def execRearm (i : Fin 8) (s : State) : Host.Outcome State Fault Refusal := .next (rearmSlot (awake s) (i.val + 1))

/-! ### Resets (R326, R327) -/

/-- R327: PF0's configuration registers, MSI-X table and translations. Pending bits are kept. -/
def resetPf0 (s : State) : State :=
  { s with
    busMaster := false
    msixTable := []
    pcie := { s.pcie with
      memSpace := false, bar0 := 0, bar2 := 0, bar4 := 0, msixEnable := false, msixMask := false, ats := false, pasidOn := false
      cto := 0, aer := 0, atc := [], flr := some s.elapsed, retry := true } }

/-- R327: Function Level Reset: sessions of every page end as by an expiry, and every petal is quiesced with cause 3. -/
def flrEffects (s : State) : State :=
  let s := resetPf0 s
  let held : List Nat := (s.pages.filter (fun e => e.2.session == 1)).map (fun e => e.1)
  let s := held.foldl (fun s g => endLease s g 2 .flr) s
  let s := (s.petals.map (fun e => e.1)).foldl (fun s p => withholdPetal s p .flr) s
  dropUpstream s

/-- FUNCTION_LEVEL_RESET (R327). -/
def execFunctionLevelReset (s : State) : Host.Outcome State Fault Refusal := .next (flrEffects (awake s))

/-- FLR_COMPLETE (R327, R326): PF0 answers configuration requests again. -/
def execFlrComplete (s : State) : Host.Outcome State Fault Refusal :=
  .next (if s.pcie.flr.isSome ∧ s.ready then { s with pcie := { s.pcie with flr := none, retry := false } } else s)

/-- A slot at its reset configuration, with its pins as they are. -/
def slotReset (x : Slot) (perst : Bool) : Slot :=
  { Slot.new with
    perst := perst || x.perst
    prsnt := x.prsnt
    inBand := x.inBand
    pressed := x.pressed
    reported := presence x }

/-- A port at its reset configuration: what is wired to it stays. After the reset Power Controller Control reads 0 and the slot is
powered (R326, R330). -/
def portReset (x : SwPort) (up : Bool) (perst : Bool) : SwPort :=
  { SwPort.new with
    up := up
    width := if up then x.width else 0
    active := if up then x.width else 0
    flit := up && x.flit
    clkreqOff := x.clkreqOff
    trained := x.trained
    slot := powerSlot (slotReset x.slot perst) }

/-- R326: every switch port returns to its reset configuration, downstream links go down, and so does the upstream one where `up` is
false. -/
def resetPorts (s : State) (up perst : Bool) : State :=
  let s := (List.range' 1 8).foldl (fun s i => failReqs s i) s
  (List.range 9).foldl (fun s i => modSwPort s i (fun x => portReset x (up && i == 0 && x.up) perst)) s

/-- HOT_RESET (R326): a Hot Reset on the upstream link, or the upstream link in DL_Down (`dlDown`). -/
def hotReset (s : State) (dlDown : Bool) : State := flrEffects (resetPorts s (!dlDown) false)
def execHotReset (dlDown : Bool) (s : State) : Host.Outcome State Fault Refusal := .next (hotReset (awake s) dlDown)

/-- SECONDARY_BUS_RESET (R326): a hot reset of link i only. -/
def execSecondaryBusReset (i : Fin 8) (s : State) : Host.Outcome State Fault Refusal :=
  .next (downLink (awake s) (i.val + 1))

/-! ### The integrated switch (R18, R302) -/

/-- R18: the port to which the switch routes a TLP from one port to an address: a downstream port whose windows claim it; toward another
downstream port only where the ACS settings of the port it came from do not redirect it upstream. -/
def switchRoute (s : State) (source a : Nat) : Nat :=
  match (dsWindows s).find? (fun w => decide (w.2.1 ≤ a) && decide (a < w.2.1 + w.2.2)) with
  | some w => if source ≠ 0 ∧ bitAt (swPort s source).acs.toNat 2 = true then 0 else w.1
  | none => 0

/-- R18, R334: a TLP is passed on, or refused where the link to its target is down: a non-posted one with Unsupported Request, a posted
one by discarding it. -/
def routeTlp (s : State) (source a n : Nat) (posted : Bool) : State :=
  let t := switchRoute s source a
  let s := count (leaveL1 s source) kPort source 0 n
  if t = source then s
  else if (swPort s t).up then
    let s := count (leaveL1 s t) kPort t 1 n
    { s with sent := s.sent ++ [.routed source t] }
  else
    let s := count s kPort source 2 1
    if posted then s else { s with sent := s.sent ++ [.completion 1 false []] }
/-- INTEGRATED_SWITCH_ROUTE (R18): a TLP from a port, its address, payload bytes, and whether it is posted. -/
def execIntegratedSwitchRoute (source : Fin 9) (a : W64) (n : Fin 4097) (posted : Bool) (s : State) : Host.Outcome State Fault Refusal :=
  .next (if (swPort s source.val).up then routeTlp (awake s) source.val a.toNat n.val posted else s)

end Sys2Proof.Machine
end

