-- ==== Sys2Proof/Machine/Start.lean ====
section
/-!
DEFINITION. Start-up, resets and environmental faults (22_startup_faults): power to service, the boot of a slot, recovery, module
resets, the input and the board's signals, reference clocks, and memory devices that fail.
-/

namespace Sys2Proof.Machine

/-! ### The event log and flash (R518, R520) -/

/-- R520: one entry reaches flash. Before the first entry of a sector is written, the sector of the 64 is erased. -/
def toFlash (l : List LogEntry) (e : LogEntry) : List LogEntry := (if l.length < 65536 then l else l.drop 1024) ++ [e]

/-- R520: every buffered entry reaches flash. -/
def flushAll (s : State) : State := { s with logFlash := s.logBuf.foldl toFlash s.logFlash, logBuf := [] }

/-- LOG_FLUSH (R520): a buffered entry is written to flash. -/
def execLogFlush (s : State) : Host.Outcome State Fault Refusal :=
  .next (match s.logBuf with
    | e :: rest => { s with logFlash := toFlash s.logFlash e, logBuf := rest }
    | [] => s)

/-- R289: is the module degraded: a memory device or a Quill core is out of service, or a calibration section took defaults (R523)? -/
def degraded (s : State) : Bool :=
  s.unitFailed.any (fun e => e.2) || s.sec.calDefaults ||
    s.ink.quills.any (fun e => match e.2.st with | .removed _ => true | _ => false)

/-! ### What a loss of power takes (R534, R539) -/

/-- The pins of a slot stay as they are wired. -/
def pinsOf (x : SwPort) : SwPort :=
  { SwPort.new with
    clkreqOff := x.clkreqOff
    slot := { Slot.new with
      prsnt := x.slot.prsnt
      inBand := x.slot.inBand
      reported := presence x.slot } }

/-- R534: what survives a reset of the whole module: fuses and flash. What lies outside the module, the queue of commands and the model's
own records stay too. -/
def dark (s : State) : State :=
  { State.reset with
    elapsed := s.elapsed
    freeCtr := s.freeCtr
    pending := s.pending
    retired := s.retired
    sparesUsed := s.sparesUsed
    bus := s.bus
    sec := { s.sec with
      sessions := []
      nonces := []
      authBuf := []
      d2 := none }
    ink := { Ink.new with flashFails := s.ink.flashFails }
    board := s.board
    pcie := { Pcie.new with
      ports := mapT s.pcie.ports (fun _ x => pinsOf x)
      host := s.pcie.host }
    logFlash := s.logFlash
    logSeq := s.logSeq
    logLost := s.logLost + s.logBuf.length
    boots := s.boots
    sent := s.sent }

/-- R539, R543, R549: every rail but the always-on rail goes off; the Inkstand, in the always-on domain, stays up. -/
def dimmed (s : State) : State :=
  { dark s with
    ink := { s.ink with
      quills := []
      update := none }
    logBuf := s.logBuf
    logLost := s.logLost }

def causeText (c : ResetCause) (high : Bool) : String :=
  match c with
  | .input => if high then "input over-voltage" else "input loss"
  | .thermtrip => "thermtrip"
  | .command => "reset command"
  | .exitW4 => "exit from W4"

/-- R534: a module reset; its first entry records the cause, and a gap in the sequence is recorded next (R520). -/
def moduleReset (s : State) (cause : ResetCause) : State :=
  let text := causeText cause s.board.overVoltage
  let d := dark s
  let b := { d.board with
    stage := .aux
    cause := cause
    t0 := 0
    readyAt := 0
    raised := false
    resetAt := none
    overVoltage := false
    needReturn := false
    latched := 0 }
  let s := logAdd { d with elapsed := 0, boots := d.boots + 1, board := b } 0 1 text 0 noPetal []
  if s.logLost = 0 then s else logAdd { s with logLost := 0 } 0 2 "log_loss" 0 noPetal (leBytes 8 s.logLost)

/-! ### Calibration and boot (R523, R530, R541) -/

/-- R523: the sections of the table in flash that fail their checks. -/
def badSections (s : State) : List Nat := (List.range 6).filter (fun i => !Config.sectionPasses (calBytes s.sec.calFlash) i)

/-- R523: the calibration table is loaded; a section that fails takes the ROM's defaults, and the module is degraded. -/
def loadCalibration (s : State) : State :=
  let bad := badSections s
  let s := { s with sec := { s.sec with calLoaded := s.sec.calFlash, calDefaults := !bad.isEmpty } }
  if bad.isEmpty then s
  else latchAlarms (bad.foldl (fun s i => logEvent s 9 2 "calibration section defaults" i noPetal []) s) 0x40

/-- R541: the source from which memory PHYs and the elapsed counter run: the selected one, else the other, else the oscillator. -/
def usableRef (good : BitVec 3) (sel : Bool) : Nat :=
  if bitAt good.toNat (b2n sel) then b2n sel
  else if bitAt good.toNat (1 - b2n sel) then 1 - b2n sel
  else 2

/-- R530, steps 3 to 5: at t0 the ROM samples REFCLK_SEL (R554), loads the calibration table and starts the preferred slot; slot power
is asserted (R330). -/
def startBoot (s : State) (sel : Bool) : State :=
  let s := loadCalibration s
  { s with
    board := { s.board with
      stage := .booting false
      t0 := s.elapsed
      slot := s.sec.bootPref
      refSel := sel
      refUsed := usableRef s.board.refGood sel }
    pcie := { s.pcie with
      retry := true
      ports := (List.range' 1 8).foldl (fun t i => put t i
        { lookD t i SwPort.new with slot := powerSlot (lookD t i SwPort.new).slot }) s.pcie.ports } }

/-- R529: the module starts at the input's return, or waits for PERST_N. -/
def inputStart (s : State) (cause : ResetCause) (sel : Bool) : State :=
  let s := { s with board := { s.board with inputValid := true, refSel := sel } }
  if s.board.pwrEn then moduleReset s cause else { s with board := { s.board with stage := .aux, needReturn := false } }

/-- INPUT_VALID (R529, R530): the 48 V input of a module without power becomes valid; the level of REFCLK_SEL. -/
def execInputValid (sel : Bool) (s : State) : Host.Outcome State Fault Refusal :=
  .next (if s.board.stage = .off ∧ s.board.inputValid = false ∧ s.board.needReturn = false then inputStart s .input sel else s)

/-- REGULATORS_UP (R529, R530): 20 ms after the input is valid; where PERST_N is high t0 was the input's. -/
def execRegulatorsUp (s : State) : Host.Outcome State Fault Refusal :=
  .next (if s.board.stage = .aux ∧ s.board.inputValid = true ∧ s.board.pwrEn = true ∧ s.board.overVoltage = false ∧
      20000000 ≤ s.elapsed.toNat * 10 then
      let s' := { s with board := { s.board with stage := .rom } }
      if s.board.perst then s'
      else
        let b := startBoot s' s.board.refSel
        { b with board := { b.board with t0 := s.board.t0 } }
    else s)

/-- R532: may a slot be booted now: the preferred one, or the other one where it is a fallback (R524)? -/
def slotBoots (s : State) (second : Bool) : Bool :=
  imageBoots s s.board.slot && (!second || (slotOf s s.board.slot).fallback)

/-- R532: the bound of an attempt, in ns from t0. -/
def bootBound (second : Bool) : Nat := if second then 1800000000 else 900000000

/-- R530, step 6: firmware is in service. Its slot is a fallback from now on (R524). -/
def becomeReady (s : State) : State :=
  let s := setSlot s s.board.slot { slotOf s s.board.slot with fallback := true }
  { s with
    ready := true
    board := { s.board with
      stage := .service
      readyAt := s.elapsed
      raised := false }
    ink := { s.ink with
      quills := (List.range 64).map (fun k => (k, ⟨.inService, s.elapsed, []⟩))
      refreshed := s.elapsed
      quietAt := s.elapsed
      intervalAt := s.elapsed }
    pcie := { s.pcie with
      retry := false
      flr := none } }

/-- FIRMWARE_READY (R530, R532). -/
def execFirmwareReady (s : State) : Host.Outcome State Fault Refusal :=
  .next (match s.board.stage with
    | .booting second =>
      if slotBoots s second = true ∧ elapsedAtLeast s s.board.t0 (bootBound second) = false ∧ s.board.refUsed ≠ 2 then becomeReady s else s
    | _ => s)

/-- R532: does the condition hold? -/
def bootFails (s : State) (second : Bool) (why : BootFail) : Bool :=
  match why with
  | .image => !slotBoots s second
  | .timeout => elapsedAtLeast s s.board.t0 (bootBound second)
  | .selfTest => true

def bootFailText : BootFail → String
  | .image => "boot: image" | .timeout => "boot: not ready" | .selfTest => "boot: self-test"

/-- R532: each failed attempt writes an error entry that names the slot and the condition. -/
def logBootFail (s : State) (why : BootFail) : State := logEvent s 0 3 (bootFailText why) (b2n s.board.slot) noPetal []

/-- BOOT_ATTEMPT_FAIL (R532): the first attempt fails, and the other slot is tried. -/
def execBootAttemptFail (why : BootFail) (s : State) : Host.Outcome State Fault Refusal :=
  .next (if s.board.stage = .booting false ∧ bootFails s false why = true then
      let s := logBootFail s why
      { s with board := { s.board with stage := .booting true, slot := !s.board.slot } }
    else s)

/-- RECOVERY_ENTRY (R533): the second attempt fails too; boot_slot names the preferred slot. -/
def execRecoveryEntry (why : BootFail) (s : State) : Host.Outcome State Fault Refusal :=
  .next (if s.board.stage = .booting true ∧ bootFails s true why = true then
      let s := logBootFail s why
      { s with
        board := { s.board with
          stage := .recovery
          slot := s.sec.bootPref }
        pcie := { s.pcie with retry := false } }
    else s)

/-! ### PERST_N and the module reset (R529, R534 to R536) -/

/-- A module reset whose start point is its own moment (R534). -/
def resetStart (s : State) (cause : ResetCause) (sel : Bool) : State := startBoot (moduleReset s cause) sel

/-- MODULE_RESET (R534, R535): 10 ms after the response to MGT_MODULE_RESET. -/
def execModuleReset (sel : Bool) (s : State) : Host.Outcome State Fault Refusal :=
  .next (match s.board.resetAt with
    | some t => if elapsedAtLeast s t 10000000 then resetStart s .command sel else s
    | none => s)

def setPerst (s : State) (v : Bool) : State := { s with board := { s.board with perst := v } }

/-- PERST_ASSERT (R536): at W0 a fundamental reset of the PCIe side, after a wake from W1 to W3. -/
def execPerstAssert (s : State) : Host.Outcome State Fault Refusal :=
  .next (if s.board.perst then s
    else if started s = true ∧ s.pwr.module ≠ 4 then flrEffects (resetPorts (setPerst (awake s) true) false true)
    else setPerst s true)

/-- PERST_DEASSERT (R529, R503): t0 of a start that waits for it; from module W4 a module reset; the level of REFCLK_SEL. -/
def execPerstDeassert (sel : Bool) (s : State) : Host.Outcome State Fault Refusal :=
  .next (if s.board.perst = false then s
    else
      let s := setPerst s false
      if s.pwr.module = 4 then resetStart s .exitW4 sel
      else
        match s.board.stage with
        | .aux => { s with board := { s.board with t0 := s.elapsed, refSel := sel } }
        | .rom => startBoot s sel
        | _ => s)

/-! ### The 48 V input (R539, R549, R543) -/

/-- INPUT_UNDERVOLTAGE (R539, R543): below 38.0 V power is lost. `second` says that the input is gone for at least 1 s, which alone
ends a THERMTRIP. -/
def execInputUndervoltage (second : Bool) (s : State) : Host.Outcome State Fault Refusal :=
  .next (if s.board.stage = .off then { s with board := { s.board with inputValid := false } }
    else
      let trip := decide (s.board.stage = .tripped)
      let d := dark s
      { d with board := { d.board with
          stage := if trip && !second then .tripped else .off
          inputValid := false
          needReturn := true
          overVoltage := false
          resetAt := none
          cause := if trip then .thermtrip else .input } })

/-- A critical entry, which reaches flash before the shutdown that its event causes (R520). -/
def logCritical (s : State) (source : Nat) (what : String) (inst : Nat) : State := flushAll (logEvent s source 4 what inst noPetal [])

/-- INPUT_OVERVOLTAGE (R539): above 60.0 V every rail but the always-on rail goes off. -/
def execInputOvervoltage (s : State) : Host.Outcome State Fault Refusal :=
  .next (if s.board.stage = .off ∨ s.board.stage = .tripped then
      { s with board := { s.board with inputValid := false, needReturn := true } }
    else
      let d := dimmed (latchAlarms (logCritical s 6 "input over-voltage" 0) 0x10)
      { d with board := { d.board with
          stage := .aux
          inputValid := false
          overVoltage := true
          needReturn := true
          resetAt := none
          cause := .input } })

/-- INPUT_RETURN (R539): the input has lain within 40.0 to 58.0 V for 100 ms. -/
def execInputReturn (sel : Bool) (s : State) : Host.Outcome State Fault Refusal :=
  .next (if s.board.needReturn = true ∧ s.board.stage ≠ .tripped then inputStart s s.board.cause sel else s)

/-- PWR_EN_LOW (R549): every rail but the always-on rail is off, and the input counts as not valid. -/
def execPwrEnLow (s : State) : Host.Outcome State Fault Refusal :=
  .next (
    let b := { s.board with pwrEn := false }
    if s.board.stage = .off ∨ s.board.stage = .tripped ∨ s.board.pwrEn = false then { s with board := b }
    else { dimmed s with board := { b with stage := .aux, resetAt := none } })

/-- PWR_EN_HIGH (R549): with a valid input a module reset starts. -/
def execPwrEnHigh (sel : Bool) (s : State) : Host.Outcome State Fault Refusal :=
  .next (if s.board.pwrEn then s
    else
      let s := { s with board := { s.board with pwrEn := true } }
      if s.board.stage = .aux ∧ s.board.inputValid = true then inputStart s .input sel else s)

/-- THERMTRIP (R543): a valid on-die sensor reads `t`, in 1/16 °C. -/
def execThermtrip (i : Fin 80) (t : W16) (s : State) : Host.Outcome State Fault Refusal :=
  .next (if 1840 ≤ t.toInt ∧ (started s = true ∨ s.board.stage = .rom) then
      let d := dimmed (logCritical s 6 "THERMTRIP" i.val)
      { d with board := { d.board with stage := .tripped, resetAt := none } }
    else s)

/-! ### Sideband outputs (R540) -/

/-- R540: ALERT_N can be over its limit only while it is driven low. -/
def overDriven (s : State) (i : Nat) : Bool := i != 32 || alertDriven s

/-- OUTPUT_OVERCURRENT (R540): an output of the map of R540: 0 to 7 SLOT_PWREN, 8 to 15 SLOT_PERST_N, 16 to 23 SLOT_ATTNIND_N, 24 to 31
SLOT_PWRIND_N, 32 ALERT_N, 33 THERMTRIP_N. -/
def execOutputOvercurrent (i : Fin 34) (s : State) : Host.Outcome State Fault Refusal :=
  .next (if s.board.stage = .off ∨ bitAt s.board.latched.toNat i.val = true ∨ overDriven s i.val = false then s
    else
      let s := { s with board := { s.board with latched := s.board.latched ||| BitVec.ofNat 34 (2 ^ i.val) } }
      latchAlarms (logEvent s 6 2 "output latched off" i.val noPetal []) 0x08)

/-! ### Reference clocks (R541) -/

def setRefs (s : State) (good : BitVec 3) : State := { s with board := { s.board with refGood := good } }

/-- R541: the 156.25 MHz reference goes bad: every port goes down and port time stops. -/
def stopPorts (s : State) (good : BitVec 3) : State :=
  let s := (List.range 32).foldl (fun s j =>
    let s := if (getPort s j).link = 0 then s else linkDown s j
    setPort s j { getPort s j with time := portTime s (getPort s j), timeAt := s.elapsed }) s
  setRefs s good

/-- R541: every PCIe link goes down: R326 on the upstream link, R334 on the downstream links. -/
def dropLinks (s : State) : State :=
  let s := (List.range' 1 8).foldl downLink s
  if (swPort s 0).up then hotReset s true else s

/-- R541: memory PHYs and the elapsed counter move to a source that is good. With none the module is out of service. -/
def moveSource (s : State) : State :=
  let bad := !bitAt s.board.refGood.toNat s.board.refUsed
  if s.board.refUsed < 2 ∧ bad = true then
    let u := usableRef s.board.refGood s.board.refSel
    let s := { s with board := { s.board with refUsed := u }, ready := s.ready && u != 2 }
    logEvent s 0 2 "reference source changed" u noPetal []
  else s

/-- R541: a reference goes bad: 0 the baseboard's 100 MHz, 1 the module's 100 MHz, 2 156.25 MHz. -/
def refLoss (s : State) (r : Nat) : State :=
  let good := s.board.refGood &&& ~~~ BitVec.ofNat 3 (2 ^ r)
  if r = 2 then stopPorts s good
  else
    let s := setRefs s good
    if started s then moveSource (if b2n s.board.refSel = r then dropLinks s else s) else s
/-- REFCLK_LOSS (R541). -/
def execRefclkLoss (r : Fin 3) (s : State) : Host.Outcome State Fault Refusal :=
  .next (if bitAt s.board.refGood.toNat r.val = false then s
    else
      let s := refLoss s r.val
      if s.board.stage = .off then s else latchAlarms (logEvent s 0 2 "reference lost" r.val noPetal []) 0x08)

/-- R541: a reference has been good for 10 ms. -/
def refReturn (s : State) (r : Nat) : State :=
  let s := setRefs s (s.board.refGood ||| BitVec.ofNat 3 (2 ^ r))
  if r = 2 then (List.range 32).foldl (fun s j => setPort s j { getPort s j with timeAt := s.elapsed }) s
  else if s.board.refUsed = 2 ∧ started s = true then
    { s with
      board := { s.board with refUsed := r }
      ready := decide (s.board.stage = .service) && s.pwr.module != 4 }
  else s
/-- REFCLK_RETURN (R541). -/
def execRefclkReturn (r : Fin 3) (s : State) : Host.Outcome State Fault Refusal :=
  .next (if bitAt s.board.refGood.toNat r.val then s
    else
      let s := refReturn s r.val
      if s.board.stage = .off then s else logEvent s 0 1 "reference returned" r.val noPetal [])

/-! ### Memory devices (R544) -/

/-- R544: a spare of a unit, taken for a page; none where the unit has failed or has none left. -/
def spareFrame (s : State) (u : Nat) : Option Nat :=
  let k := lookD s.sparesUsed u 0
  if isFailed s u ∨ unitSpares u ≤ k then none else some (frameOf u (unitPlots u) k)

/-- R544: a free frame of a tier, or else a spare of it. -/
def tierFrame (s : State) (units : List Nat) : Option Nat :=
  match (leastBy (fun f => 2 ^ 20 - f.length) (units.map (freeFrames s))).bind (·.head?) with
  | some f => some f
  | none => units.findSome? (spareFrame s)

/-- R544: takes a frame; a spare is used up. -/
def useFrame (s : State) (f : Nat) : State :=
  let u := frameUnit f
  if framePlot f = unitPlots u then { s with sparesUsed := put s.sparesUsed u (f % 512 + 1) } else s

/-- R152: every line of a page is poisoned. -/
def poisonPage (s : State) (p page : Nat) : State :=
  { s with poison := (List.range 32768).foldl (fun t i => put t (memKey p (page * 2 ^ 21) / 64 + i) true) s.poison }

/-- R544, step 2: a page takes a replacement frame, of its tier first, then of the other, then by reclaim; every line of it is
poisoned. A page that no frame can take stays. -/
def replacePage (s : State) (p page : Nat) : State :=
  match getPetal s p with
  | none => s
  | some x =>
    let hbm := pageHbm x page
    let own := if hbm then hbmUnits else lpddrUnits
    let other := if hbm then lpddrUnits else hbmUnits
    match (tierFrame s own).or (tierFrame s other) with
    | some f => poisonPage (movePage (useFrame s f) p page f) p page
    | none =>
      let s := reclaim 1 s
      match tierFrame s hbmUnits with
      | some f => poisonPage (movePage (useFrame s f) p page f) p page
      | none => s

/-- R544: the pages of a petal that lie in frames of a unit. -/
def pagesInUnit (x : Petal) (u : Nat) : List Nat := (pagesOf x).filter (fun g => frameUnit (frameAt x g) == u)

/-- R544, step 4: one entry names the device, and one for each affected petal its count of poisoned pages. -/
def logDevice (s : State) (u : Nat) (hit : List (Nat × Nat)) : State :=
  hit.foldl (fun s e => logEvent s 2 4 "memory device failed" u e.1 (leBytes 4 e.2)) (logEvent s 2 4 "memory device failed" u noPetal [])

/-- R544: a stack or package fails; `lost` are the QPs whose evicted contexts lay in it. -/
def deviceFail (s : State) (u : Nat) (lost : List (Nat × Nat)) : State :=
  let s := { s with
    unitFailed := put s.unitFailed u true
    moves := s.moves.filter (fun m => !(moveUnits m).contains u) }
  let hit := (s.petals.map (fun e => (e.1, pagesInUnit e.2 u))).filter (fun e => !e.2.isEmpty)
  let s := hit.foldl (fun s e => e.2.foldl (fun s g => replacePage s e.1 g) s) s
  let s := lost.foldl (fun s e =>
    match getQp s e.1 e.2 with
    | some q => if u < 8 ∨ q.resident = true then s else enterError s e.1 e.2 true stDeviceFault dtRdmUncorrectable
    | none => s) s
  latchAlarms (logDevice s u (hit.map (fun e => (e.1, e.2.length)))) 0x40
/-- MEMORY_DEVICE_FAILURE (R544): units 0 to 7 are stacks, 8 to 23 packages. -/
def execMemoryDeviceFailure (u : Fin 24) (lost : List (PetalId × BitVec 20)) (s : State) : Host.Outcome State Fault Refusal :=
  .next (if isFailed s u.val ∨ started s = false then s else deviceFail s u.val (lost.map (fun e => (e.1.val, e.2.toNat))))

/-- CALIBRATION_REFRESH (R157): a memory channel is tracked, which takes channel time alone: channels 0 to 255 HBM, 256 to 319 LPDDR. -/
def execCalibrationRefresh (_channel : Fin 320) (s : State) : Host.Outcome State Fault Refusal := .next s

end Sys2Proof.Machine
end

