-- ==== Sys2Proof/Machine/Ink.lean ====
section
/-!
DEFINITION. The Inkstand (21_inkstand_management): watchdogs, sensing and alarms, energy metering, the event log, the calibration
table, firmware updates over the mailbox, and the module reset command.
-/

namespace Sys2Proof.Machine

/-! ### Detail codes (R313, R528, R546) -/
def dtCalFormat : Nat := 0x99
def dtUpdateAuth : Nat := 0x9A
def dtUpdateRollback : Nat := 0x9B
def dtUpdateBusy : Nat := 0xA0
def dtUpdateFormat : Nat := 0xA1
def dtUpdateFlash : Nat := 0xA2
def dtCalFlash : Nat := 0xA3
def dtResetPetals : Nat := 0xA4
def dtResetConfirm : Nat := 0xA5

/-! ### Quill cores (R260 to R263, R510) -/

/-- Is firmware in service on the Quill cores? -/
def quillsRun (s : State) : Bool := s.ready && s.board.stage == .service

/-- QUILL_HEARTBEAT (R510). -/
def execQuillHeartbeat (k : Fin 64) (s : State) : Host.Outcome State Fault Refusal :=
  .next (if (getQuill s k.val).st = .inService then setQuill s k.val { getQuill s k.val with beat := s.elapsed } else s)

/-- R260, R511: a Quill core is found crashed; during an Inkstand restart the miss is latched. -/
def heartbeatMiss (s : State) (k : Nat) : State :=
  if s.ink.restarting.isSome then
    { s with ink := { s.ink with latchedMiss := if s.ink.latchedMiss.contains k then s.ink.latchedMiss else s.ink.latchedMiss ++ [k] } }
  else quillCrash s k
/-- HEARTBEAT_MISS (R510, R260): a heartbeat has been missing for 4 ms, or (`own`) the core has taken an exception that its firmware
does not handle or has read an uncorrectable word of its own state. -/
def execHeartbeatMiss (k : Fin 64) (own : Bool) (s : State) : Host.Outcome State Fault Refusal :=
  .next (if quillsRun s = true ∧ (getQuill s k.val).st = .inService ∧ (own = true ∨ elapsedAtLeast s (getQuill s k.val).beat 4000000 = true) then
      heartbeatMiss s k.val
    else s)

/-- R263: a petal's command that has lost its journal completes with DEVICE_FAULT. -/
def loseCommand (s : State) (p tag : Nat) : State :=
  match (getPetal s p).bind (fun x => look x.tags tag) with
  | some .launch =>
    (match s.launches.find? (fun l => l.petal == p && l.tag == tag) with
     | some l => finishLaunch s l stDeviceFault 0
     | none => s)
  | some .cipher =>
    (match s.cphReqs.find? (fun r => r.petal == p && r.tag == tag) with
     | some r => finishCph s r stDeviceFault 0
     | none => s)
  | some .collective =>
    (match s.colOps.find? (fun o => o.petal == p && o.tag == tag) with
     | some o => (match getComm s p o.comm with | some c => finishOp s c o stDeviceFault 0 0 | none => s)
     | none => s)
  | some .scroll =>
    (match s.sclCmds.find? (fun c => c.petal == p && c.tag == tag) with
     | some c => finishScl s c stDeviceFault 0 0
     | none => s)
  | some .attention =>
    (match s.atnEntries.find? (fun e => e.petal == p && e.tag == tag) with
     | some e => finishAtn s e stDeviceFault 0 0
     | none => s)
  | some .rdma =>
    (match s.rdma.qps.find? (fun e => e.2.petal == p && (match e.2.wqes with | w :: _ => w.tag == tag | [] => false)) with
     | some e => enterError s p e.2.num true stDeviceFault 0
     | none => s)
  | some .mailbox =>
    let pg := getPage s p
    setPage s p { pg with pends := pg.pends.map (fun q => if q.tag = tag then { q with outcome := some (replyErr stDeviceFault 0) } else q) }
  | none => s

/-- The opcode of a petal's command that has a tag: of a mailbox command, a Scroll, cipher, collective, attention or RDMA entry; a launch
has none. -/
def opcodeOf (s : State) (p tag : Nat) : Nat :=
  match (getPetal s p).bind (fun x => look x.tags tag) with
  | some .mailbox => (((getPage s p).pends.find? (fun q => q.tag == tag)).map (·.opcode)).getD 0
  | some .scroll => ((s.sclCmds.find? (fun c => c.petal == p && c.tag == tag)).map scOp).getD 0
  | some .attention => ((s.atnEntries.find? (fun e => e.petal == p && e.tag == tag)).map eOp).getD 0
  | some .rdma => ((s.rdma.qps.findSome? (fun e => if e.2.petal == p then e.2.wqes.find? (fun w => w.tag == tag) else none)).map (·.op)).getD 0
  | some .cipher => ((s.cphReqs.find? (fun r => r.petal == p && r.tag == tag)).map (fun r => ceAlg r.raw.toNat)).getD 0
  | some .collective => ((s.colOps.find? (fun o => o.petal == p && o.tag == tag)).map (fun o => oOp o.desc.toNat)).getD 0
  | _ => 0

/-- R263: the report names the petal and the opcode. -/
def logLost (s : State) (p tag : Nat) : State := logEvent s 1 3 "command lost" (opcodeOf s p tag) p []

/-- R260, R261: a sibling takes the journal over and replays: every accepted command goes on as if the core had not crashed, but for
those of which both journal copies are uncorrectable (R263). -/
def takeover (s : State) (k : Nat) (lost : List (Nat × Nat)) : State :=
  let q := getQuill s k
  match q.st with
  | .crashed true => lost.foldl (fun s e => loseCommand (logLost s e.1 e.2) e.1 e.2) (setQuill s k { q with st := .crashed false })
  | .removed true => lost.foldl (fun s e => loseCommand (logLost s e.1 e.2) e.1 e.2) (setQuill s k { q with st := .removed false })
  | _ => s
/-- JOURNAL_TAKEOVER (R260 to R263). -/
def execJournalTakeover (k : Fin 64) (lost : List (PetalId × BitVec 13)) (s : State) : Host.Outcome State Fault Refusal :=
  .next (takeover s k.val (lost.map (fun e => (e.1.val, e.2.toNat))))

/-- QUILL_RETURN (R261): the reset core has passed its self-test. One that has been removed stays out (R262). -/
def execQuillReturn (k : Fin 64) (s : State) : Host.Outcome State Fault Refusal :=
  .next (if (getQuill s k.val).st = .crashed false then
      setQuill s k.val { getQuill s k.val with st := .inService, beat := s.elapsed }
    else s)

/-! ### The Inkstand's own watchdog (R511) -/

/-- R529, R539, R543: does the Inkstand run: its ROM once regulators are up, and the Inkstand through a shutdown of the other rails? -/
def inkUp (s : State) : Bool :=
  match s.board.stage with
  | .off => false
  | .aux => s.board.overVoltage || !s.board.pwrEn
  | _ => true

/-- Does its firmware run, and not the ROM alone? -/
def inkFirmware (s : State) : Bool :=
  match s.board.stage with
  | .service => true
  | .tripped => true
  | .aux => s.board.overVoltage || !s.board.pwrEn
  | _ => false

/-- INKSTAND_WD_REFRESH (R511). -/
def execInkstandWdRefresh (s : State) : Host.Outcome State Fault Refusal :=
  .next (if s.ink.restarting.isSome then s else { s with ink := { s.ink with refreshed := s.elapsed } })

/-- INKSTAND_WD_EXPIRY (R511): 20 ms without a refresh. -/
def execInkstandWdExpiry (s : State) : Host.Outcome State Fault Refusal :=
  .next (if inkFirmware s = true ∧ s.ink.restarting.isNone ∧ elapsedAtLeast s s.ink.refreshed 20000000 = true then inkRestart s else s)

/-- R511: the Inkstand is back; latched misses are acted on. Buffered entries whose check failed are lost. -/
def restartDone (s : State) (intact : Bool) : State :=
  let miss := s.ink.latchedMiss
  let s := { s with ink := { s.ink with restarting := none, latchedMiss := [], refreshed := s.elapsed } }
  let s := if intact ∨ s.logBuf = [] then s
    else latchAlarms { s with logBuf := [], logLost := s.logLost + s.logBuf.length } 0x80
  miss.foldl quillCrash (logEvent s 0 2 "Inkstand restart" 0 noPetal [])
/-- INKSTAND_RESTART_DONE (R511). -/
def execInkstandRestartDone (intact : Bool) (s : State) : Host.Outcome State Fault Refusal :=
  .next (if s.ink.restarting.isSome then restartDone s intact else s)

/-- ROLLBACK_RAISE (R470): 15 minutes of service without a crash or a restart. -/
def rollbackRaise (s : State) : State :=
  let v := imageVersion (bootedImage s)
  let s := { s with board := { s.board with raised := true } }
  if s.sec.rollback < v then logEvent { s with sec := { s.sec with rollback := v } } 9 1 "rollback counter raised" v noPetal [] else s
def execRollbackRaise (s : State) : Host.Outcome State Fault Refusal :=
  .next (if quillsRun s = true ∧ s.board.raised = false ∧ elapsedAtLeast s s.ink.quietAt 900000000000 = true then rollbackRaise s else s)

/-! ### Sensors and alarms (R512 to R515, R542, R505) -/

/-- R513: the status of a thermal sensor: 0 valid, 1 open, 2 short, 3 reversed. -/
def tempStatus (t : BitVec 18) : Nat := bitsOf t.toNat 16 2

/-- R514: some valid thermal sensor of the module reads 95 °C or more; the remote diodes are reported only (R542). -/
def tooWarm (s : State) : Bool :=
  (List.range 94).any (fun i => match tempOf s i with | some t => decide ((1520 : Int) ≤ t) | none => false)

/-- R505: the die of a rail has reached 105 °C with its rail at 0.65 V. -/
def atFloor (s : State) (r : Nat) : Bool :=
  (railTemps s r).any (fun t => decide ((1680 : Int) ≤ t)) &&
    (match s.ink.sample.rails[r]? with | some x => decide (bitsOf x.toNat 32 16 ≤ 650) | none => false)

/-- R514: a thermal sensor's status or a voltage monitor's fault bit is not zero. -/
def sensorFault (s : State) : Bool :=
  s.ink.sample.temps.any (fun t => tempStatus t != 0) || s.ink.sample.volts.any (fun v => bitAt v.toNat 16)

/-- R514, R548: the input lies outside 42.0 to 58.0 V. -/
def inputOut (s : State) : Bool := decide (s.ink.sample.inputMv < 42000) || decide (58000 < s.ink.sample.inputMv)

/-- R514: the power limit is below the set target of a compute rail. -/
def powerLimited (s : State) : Bool := (List.range 4).any (fun r => decide (powerLimit s r < askedTarget s r))

/-- R514: the alarm bits whose condition holds; `railOut` says so of bit 2. -/
def alarmsWith (s : State) (railOut : Bool) : Nat :=
  let sampled := decide (s.ink.sample.temps ≠ [])
  b2n (tooWarm s) + 2 * b2n ((List.range 5).any (atFloor s)) + 4 * b2n railOut + 8 * b2n (sensorFault s) +
    16 * b2n (sampled && inputOut s) + 32 * b2n (powerLimited s) + 64 * b2n (degraded s) + 128 * b2n (s.logLost != 0)

/-- R513: alarms_active. -/
def alarmsActive (s : State) : Nat := alarmsWith s (bitAt s.ink.active.toNat 2)

/-- R542: a rail whose die has fewer than 8 valid sensors is held at 900 until the next module reset. -/
def noteBlind (s : State) : State :=
  (List.range 5).foldl (fun s r =>
    if (railTemps s r).length < 8 then { s with pwr := { s.pwr with blind := put s.pwr.blind r true } } else s) s

/-- R505: a rail at its floor writes one entry when it arrives there. -/
def noteFloor (s : State) : State :=
  (List.range 5).foldl (fun s r =>
    let was := lookD s.pwr.floorLogged r false
    let now := atFloor s r
    let s := if now && !was then logEvent s 6 2 "thermal floor" r noPetal [] else s
    { s with pwr := { s.pwr with floorLogged := if now then put s.pwr.floorLogged r true else del s.pwr.floorLogged r } }) s

/-- R512, R514, R542, R500: a sample is stored, alarms latch, and a thermal or rail alarm wakes the module. -/
def takeSample (s : State) (x : SensorReadings) : State :=
  let sample : Sample := ⟨s.elapsed, x.inputMv.toNat, x.inputMa.toNat, x.inputMw.toNat, x.temps, x.volts, x.rails⟩
  let s := { s with ink := { s.ink with sample := sample } }
  let s := noteFloor (noteBlind s)
  let a := alarmsWith s x.railOut
  let s := latchAlarms { s with ink := { s.ink with active := BitVec.ofNat 8 a } } a
  if bitsOf a 0 3 = 0 then s else awake s
/-- SENSOR_SAMPLE (R512). -/
def execSensorSample (x : SensorReadings) (s : State) : Host.Outcome State Fault Refusal :=
  .next (if inkFirmware s = true ∧ s.ink.restarting.isNone then takeSample s x else s)

/-! ### Energy (R516, R517) -/

def kInput : Nat := 0x13

/-- R516: the steps that running launches of a petal have run on a die since the interval began, with those of launches that ended. -/
def dieUse (s : State) (p d : Nat) : Nat :=
  (s.launches.filter (fun l => l.petal == p)).foldl (fun a l =>
    match l.started with
    | some t => a + (l.cores.filter (fun k => k / 128 == d)).length * (s.elapsed.toNat - max t.toNat s.ink.intervalAt.toNat)
    | none => a) (lookD s.ink.dieSteps (p * 4 + d) 0)

/-- The counters that measure a petal's use of a rail (R516): kind and field. -/
def useFields (r : Nat) : List (Nat × Nat) :=
  match r with
  | 4 => [(kPtl, 4)] | 5 => [(kMemPetal, 8)] | 6 => [(kMemPetal, 9)] | 7 => [(kPtl, 0), (kPtl, 1)] | 8 => [(kPtl, 2), (kPtl, 3)]
  | _ => []

/-- What a petal has used of rails 4 to 8 so far. -/
def usedSoFar (s : State) (p r : Nat) : Nat := ((useFields r).map (fun f => countVal s f.1 p f.2)).foldl (· + ·) 0

/-- R516: a petal's use of a rail in the interval. The hub counts Quill busy time and slots of 64 bytes of the cipher engine. -/
def railUse (s : State) (x : EnergyReadings) (p r : Nat) : Nat :=
  let delta := usedSoFar s p r - lookD s.ink.used (p * 64 + r) 0
  match r with
  | 4 => ((x.quill.filter (fun e => e.1.val == p)).map (fun e => e.2.toNat)).foldl (· + ·) 0 + delta / 64
  | _ => if r < 4 then dieUse s p r else delta

def railEnergy (x : EnergyReadings) (r : Nat) : Nat := (x.rails[r]?.getD 0).toNat
def otherUse (x : EnergyReadings) (r : Nat) : Nat := (x.other[r]?.getD 0).toNat

/-- R516, step 2: the use of a rail by all. -/
def totalUse (s : State) (x : EnergyReadings) (r : Nat) : Nat :=
  (s.petals.map (fun e => railUse s x e.1 r)).foldl (· + ·) (otherUse x r)

/-- R516, steps 2 and 4: a petal's share of a rail's energy, in whole µJ. -/
def railShare (s : State) (x : EnergyReadings) (p r : Nat) : Nat :=
  if totalUse s x r = 0 then 0 else railEnergy x r * railUse s x p r / totalUse s x r

def railSum (x : EnergyReadings) : Nat := ((List.range 11).map (railEnergy x)).foldl (· + ·) 0

/-- A petal's shares of an interval (R517): compute, hub, memory, io and loss. -/
def petalShares (s : State) (x : EnergyReadings) (p : Nat) : List Nat :=
  let sh (r : Nat) : Nat := railShare s x p r
  let compute := sh 0 + sh 1 + sh 2 + sh 3
  let hub := sh 4
  let memory := sh 5 + sh 6
  let io := sh 7 + sh 8
  let own := compute + hub + memory + io
  let loss := if railSum x = 0 then 0 else (x.input.toNat - railSum x) * own / railSum x
  [compute, hub, memory, io, loss]

/-- R517: a petal is charged. -/
def chargePetal (s : State) (p : Nat) (shares : List Nat) : State :=
  let e := shares.foldl (· + ·) 0
  (List.range 5).foldl (fun s i => count s kEnergy p (i + 1) (shares[i]?.getD 0)) (count s kEnergy p 0 e)

/-- R516: an interval ends: E_in is divided. What it draws during an Inkstand restart goes to the device bucket (R511). -/
def energyInterval (s : State) (x : EnergyReadings) : State :=
  let shares := if s.ink.restarting.isSome then [] else s.petals.map (fun e => (e.1, petalShares s x e.1))
  let given := (shares.map (fun e => e.2.foldl (· + ·) 0)).foldl (· + ·) 0
  let used := s.petals.flatMap (fun e => (List.range' 4 5).map (fun r => (e.1 * 64 + r, usedSoFar s e.1 r)))
  let s := shares.foldl (fun s e => chargePetal s e.1 e.2) s
  let s := count (count s kInput 0 0 x.input.toNat) kInput 0 1 (x.input.toNat - given)
  { s with ink := { s.ink with
      used := used.foldl (fun t e => put t e.1 e.2) ([] : Tbl Nat)
      dieSteps := []
      intervalAt := s.elapsed } }
/-- ENERGY_INTERVAL (R516): 1 ms has passed. The regulator loss E_in − Σ E_r is not negative. -/
def execEnergyInterval (x : EnergyReadings) (s : State) : Host.Outcome State Fault Refusal :=
  .next (if elapsedAtLeast s s.ink.intervalAt 1000000 = true ∧ railSum x ≤ x.input.toNat ∧ inkFirmware s = true then energyInterval s x else s)

/-- R517: the fields of MGT_ENERGY and of MGT_INPUT. -/
def energyFields (s : State) (p : Nat) : List Nat := (List.range 6).map (countVal s kEnergy p)
def inputFields (s : State) : List Nat :=
  [countVal s kInput 0 0, countVal s kInput 0 1, s.ink.sample.inputMw, s.ink.sample.inputMv, s.ink.sample.inputMa]

/-! ### Commands that name the control petal (R312) -/

/-- R312: the control petal that holds a range; the response where a command cannot name it. -/
def controlRange (s : State) (a n : Nat) : Except (Nat × Nat) Nat :=
  match controlPetal s with
  | none => .error (stNotPermitted, dtNoControlPetal)
  | some c =>
    if a % 64 ≠ 0 then .error (stInvalidArgument, 0)
    else if ((getPetal s c).map (fun x => pdaInside x a n)).getD false && keyPresent s c then .ok c
    else .error (stNotPermitted, 0)

/-- R519: the 64 bytes of an entry. -/
def entryBytes (e : LogEntry) : List Byte :=
  let free := (List.range 28).map (Config.logByte e.seq)
  let body := leBytes 8 e.seq ++ leBytes 8 e.time.toNat ++ leBytes 4 e.boot ++ leBytes 1 (e.severity % 8) ++ leBytes 1 e.source ++
    leBytes 2 (Config.logCode e.what) ++ leBytes 4 e.inst ++ leBytes 2 e.petal ++ [0, 0] ++ e.payload.take 28 ++ free.drop e.payload.length
  body ++ leBytes 4 (crc32 body)

def cmdMgtLogRead : Cmd := ⟨0x0A00, .device, true, 0x28, false, [(0x10, 0, 64), (0x18, 0, 16), (0x20, 0, 48)], noObj⟩
/-- R312, R521: `max` is 1 to 65,536, and 16 bits hold the last as 0. -/
def logMax (v : Nat) : Nat := if v = 0 then 65536 else v
def bodyMgtLogRead (m : Mbx) (s : State) : State × Ans :=
  let first := mf m 0x10 0 64
  let dest := mf m 0x20 0 48
  let held := s.logFlash ++ s.logBuf
  let out := (held.filter (fun e => decide (first ≤ e.seq))).take (logMax (mf m 0x18 0 16))
  let next := match out.getLast? with
    | some e => e.seq + 1
    | none => (match held.getLast? with | some e => e.seq + 1 | none => s.logSeq)
  match controlRange s dest (64 * out.length) with
  | .error e => (s, ansErr e.1 e.2)
  | .ok c => (memPut s c dest (out.flatMap entryBytes), .reply (replyData (out.length + next * 2 ^ 64) 16))
/-- MGT_LOG_READ (R521). -/
def execMgtLogRead (m : Mbx) (s : State) : Host.Outcome State Fault Refusal := .next (mailbox cmdMgtLogRead bodyMgtLogRead m s)

/-! ### The calibration table (R522, R523) -/

def cmdMgtCalRead : Cmd := ⟨0x0A10, .device, true, 0x28, false, [(0x20, 0, 48)], noObj⟩
def bodyMgtCalRead (m : Mbx) (s : State) : State × Ans :=
  let t := calBytes s.sec.calFlash
  match controlRange s (mf m 0x20 0 48) t.length with
  | .error e => (s, ansErr e.1 e.2)
  | .ok c => (memPut s c (mf m 0x20 0 48) t, .reply (replyData t.length 4))
/-- MGT_CAL_READ (R523). -/
def execMgtCalRead (m : Mbx) (s : State) : Host.Outcome State Fault Refusal := .next (mailbox cmdMgtCalRead bodyMgtCalRead m s)

/-- R522, R523: header, directory, serial and digest of a table of `n` bytes. -/
def calFormed (n : Nat) (t : List Byte) : Bool :=
  natAt t 0 4 == 0x4C433159 && natAt t 4 2 == 1 && natAt t 6 2 == 0 && natAt t 8 4 == n && natAt t 0xC 4 == 0 &&
    natAt t 0x10 8 == Config.serial.toNat &&
    (List.range 6).all (fun i => decide (0x80 ≤ natAt t (0x18 + 8 * i) 4) &&
      decide (natAt t (0x18 + 8 * i) 4 + natAt t (0x1C + 8 * i) 4 ≤ n)) &&
    bytesAt t 0x48 0x18 == zeros 0x18 && bytesAt t 0x60 32 == sha3 (bytesAt t 0 0x60 ++ t.drop 0x80)

/-- R523, steps 2 to 5. -/
def writeTable (s : State) (t : List Byte) : State × Ans :=
  if s.ink.flashFails then (s, ansErr stDeviceFault dtCalFlash)
  else (logEvent { s with sec := { s.sec with calFlash := .written t } } 9 2 "calibration table written" 0 noPetal [], ansOk)

/-- R526: does an update write the flash now? -/
def updateWrites (s : State) : Bool := match s.ink.update with | some u => u.writing.isSome | none => false

def cmdMgtCalWrite : Cmd := ⟨0x0A11, .device, true, 0x28, false, [(0x10, 0, 32), (0x18, 0, 32), (0x20, 0, 48)], noObj⟩
def bodyMgtCalWrite (m : Mbx) (s : State) : State × Ans :=
  let n := mf m 0x18 0 32
  let a := mf m 0x20 0 48
  if mf m 0x10 0 32 ≠ 0x574C4143 then (s, ansErr stInvalidArgument dtCalFormat)
  else if n < 128 ∨ 1048576 < n then (s, ansErr stInvalidArgument dtCalFormat)
  else
    match controlRange s a n with
    | .error e => (s, ansErr e.1 e.2)
    | .ok c =>
      let s := touch (fresh s) c a n
      if (poisonIn s c a n).isSome then (s, ansErr stDeviceFault 0)
      else
        let t := memRead s c a n
        if calFormed n t = false then (s, ansErr stInvalidArgument dtCalFormat)
        else if updateWrites s then (s, .pend .again)
        else writeTable s t
/-- MGT_CAL_WRITE (R523). While an update writes the flash it waits for it (R526). -/
def execMgtCalWrite (m : Mbx) (s : State) : Host.Outcome State Fault Refusal := .next (mailbox cmdMgtCalWrite bodyMgtCalWrite m s)

/-! ### Firmware updates (R524 to R526) -/

/-- R524, R533: the slot that an update writes: the one that did not boot; in recovery the preferred one. -/
def updateSlot (s : State) : Bool := if s.board.stage = .recovery then s.sec.bootPref else !s.board.slot

/-- R524, step 1: the checks of an image; the failure where one fails. -/
def imageFail (s : State) (l : List Byte) : Option (Nat × Nat) :=
  if imageFormed l = false then some (stInvalidArgument, dtUpdateFormat)
  else if imageSigned l = false then some (stAuthFailed, dtUpdateAuth)
  else if imageVersion l < s.sec.rollback then some (stNotPermitted, dtUpdateRollback)
  else none

/-- R524, R526: an update begins. Where step 1 passes, step 2 erases the slot, which is no fallback from now on. -/
def beginUpdate (s : State) (sideband : Bool) (l : List Byte) : State :=
  if (imageFail s l).isSome then { s with ink := { s.ink with update := some ⟨sideband, none⟩ } }
  else setSlot { s with ink := { s.ink with update := some ⟨sideband, some l⟩ } } (updateSlot s) ⟨.erased, false, false⟩

/-- R524, steps 2 to 4: the image is written and read back, and the update ends; why it fails. -/
def endUpdate (s : State) : State × Option (Nat × Nat) :=
  match s.ink.update with
  | some u =>
    let s := { s with ink := { s.ink with update := none } }
    (match u.writing with
     | some l =>
       if s.ink.flashFails then (s, some (stDeviceFault, dtUpdateFlash))
       else (setSlot s (updateSlot s) ⟨.written l, true, false⟩, none)
     | none => (s, none))
  | none => (s, none)

def cmdMgtUpdateStage : Cmd := ⟨0x0A20, .device, true, 0x28, false, [(0x18, 0, 32), (0x20, 0, 64)], noObj⟩

/-- R312, R533: the bytes of an image: from the control petal; in recovery from a bus address, read on the upstream port. -/
def imageSource (s : State) (a n : Nat) : Except (Nat × Nat) (List Byte) :=
  if s.board.stage = .recovery then
    match bufAddr a with
    | .pda _ => .error (stNotPermitted, dtNoControlPetal)
    | .bus b =>
      if (swPort s 0).up && s.busMaster then .ok (loadBytes s.bus (fun k => Config.foreign s.freeCtr k) b n) else .error (stDeviceFault, 0)
    | _ => .error (stInvalidArgument, 0)
  else if 2 ^ 48 ≤ a then .error (stInvalidArgument, 0)
  else
    match controlRange s a n with
    | .error e => .error e
    | .ok c => if (poisonIn s c a n).isSome then .error (stDeviceFault, 0) else .ok (memRead s c a n)

def bodyMgtUpdateStage (m : Mbx) (s : State) : State × Ans :=
  let s := fresh s
  let n := mf m 0x18 0 32
  if s.ink.update.isSome then (s, ansErr stBusy dtUpdateBusy)
  else if 100663296 < n then (s, ansErr stInvalidArgument dtUpdateFormat)
  else
    let read : State := match controlPetal s with
      | some c => touch s c (mf m 0x20 0 48) n
      | none => s
    match imageSource s (mf m 0x20 0 64) n with
    | .error e => (if e.1 = stDeviceFault then read else s, ansErr e.1 e.2)
    | .ok l =>
      let s := read
      let s' := beginUpdate s false l
      match imageFail s l with
      | some e => (s', .late .again (replyErr e.1 e.2))
      | none => (s', .pend .again)
/-- MGT_UPDATE_STAGE (R524, R533). -/
def execMgtUpdateStage (m : Mbx) (s : State) : Host.Outcome State Fault Refusal :=
  .next (mailbox cmdMgtUpdateStage bodyMgtUpdateStage m s)

/-- R524: the verified slot becomes the boot preference. -/
def activateSlot (s : State) : State := { s with sec := { s.sec with bootPref := updateSlot s } }

def cmdMgtUpdateActivate : Cmd := ⟨0x0A21, .device, true, 0x10, false, [], noObj⟩
def bodyMgtUpdateActivate (_m : Mbx) (s : State) : State × Ans :=
  if s.ink.update.isSome then (s, ansErr stBusy dtUpdateBusy)
  else if s.board.stage ≠ .recovery ∧ (controlPetal s).isNone then (s, ansErr stNotPermitted dtNoControlPetal)
  else if (slotOf s (updateSlot s)).verified = false then (s, ansErr stNotFound 0)
  else (activateSlot s, ansOk)
/-- MGT_UPDATE_ACTIVATE (R524, R312). -/
def execMgtUpdateActivate (m : Mbx) (s : State) : Host.Outcome State Fault Refusal :=
  .next (mailbox cmdMgtUpdateActivate bodyMgtUpdateActivate m s)

/-! ### Sensors, alarms, outputs and reset over the mailbox (R513, R515, R540, R535) -/

def padList {α : Type} (n : Nat) (d : α) (l : List α) : List α := l.take n ++ List.replicate (n - l.length) d

/-- R513: the 832 bytes. -/
def sensorBytes (s : State) : List Byte :=
  let x := s.ink.sample
  leBytes 8 x.time.toNat ++ leBytes 4 s.ink.latched.toNat ++ leBytes 4 (alarmsActive s) ++ leBytes 4 x.inputMv ++ leBytes 4 x.inputMa ++
    leBytes 4 x.inputMw ++ zeros 0x24 ++ (padList 96 0 x.temps).flatMap (fun t => leBytes 4 t.toNat) ++
    (padList 64 0 x.volts).flatMap (fun v => leBytes 4 v.toNat) ++ (padList 16 0 (x.rails.take 11)).flatMap (fun r => leBytes 8 r.toNat)

def cmdMgtSensorRead : Cmd := ⟨0x0A30, .device, false, 0x28, false, [(0x20, 0, 48)], noObj⟩
def bodyMgtSensorRead (m : Mbx) (s : State) : State × Ans :=
  match controlRange s (mf m 0x20 0 48) 832 with
  | .error e => (s, ansErr e.1 e.2)
  | .ok c => (memPut s c (mf m 0x20 0 48) (sensorBytes s), ansOk)
/-- MGT_SENSOR_READ (R513). -/
def execMgtSensorRead (m : Mbx) (s : State) : Host.Outcome State Fault Refusal :=
  .next (mailbox cmdMgtSensorRead bodyMgtSensorRead m s)

/-- R515: the latched bits that stay: those not masked, and those whose condition holds. -/
def alarmsKept (s : State) (mask : Nat) : BitVec 8 :=
  BitVec.ofNat 8 (s.ink.latched.toNat &&& ((0xFF ^^^ mask % 256) ||| alarmsActive s))

def cmdMgtAlertClear : Cmd := ⟨0x0A31, .device, false, 0x14, false, [(0x10, 0, 8)], noObj⟩
def bodyMgtAlertClear (m : Mbx) (s : State) : State × Ans :=
  let l := alarmsKept s (mf m 0x10 0 8)
  ({ s with ink := { s.ink with latched := l } }, .reply (replyData l.toNat 4))
/-- MGT_ALERT_CLEAR (R515). -/
def execMgtAlertClear (m : Mbx) (s : State) : Host.Outcome State Fault Refusal :=
  .next (mailbox cmdMgtAlertClear bodyMgtAlertClear m s)

def cmdMgtOutputStatus : Cmd := ⟨0x0A32, .device, false, 0x20, false, [(0x18, 0, 34)], noObj⟩
def bodyMgtOutputStatus (m : Mbx) (s : State) : State × Ans :=
  let l := s.board.latched &&& ~~~ BitVec.ofNat 34 (mf m 0x18 0 34)
  ({ s with board := { s.board with latched := l } }, .reply (replyData l.toNat 8))
/-- MGT_OUTPUT_STATUS (R540). -/
def execMgtOutputStatus (m : Mbx) (s : State) : Host.Outcome State Fault Refusal :=
  .next (mailbox cmdMgtOutputStatus bodyMgtOutputStatus m s)

def cmdMgtModuleReset : Cmd := ⟨0x0A40, .device, false, 0x14, false, [(0x10, 0, 32)], noObj⟩
def bodyMgtModuleReset (m : Mbx) (s : State) : State × Ans :=
  if mf m 0x10 0 32 ≠ 0x54535252 then (s, ansErr stInvalidArgument dtResetConfirm)
  else if s.board.stage ≠ .recovery ∧ s.petals ≠ [] then (s, ansErr stNotPermitted dtResetPetals)
  else
    let s := closeSessions s
    ({ s with board := { s.board with resetAt := some s.elapsed } }, ansOk)
/-- MGT_MODULE_RESET (R535). -/
def execMgtModuleReset (m : Mbx) (s : State) : Host.Outcome State Fault Refusal :=
  .next (mailbox cmdMgtModuleReset bodyMgtModuleReset m s)

end Sys2Proof.Machine
end

