-- ==== Sys2Proof/Machine/NibExec.lean ====
section
/-!
DEFINITION. The commands by which a Nib issues its program, one syllable each (05_nib_isa_reference). A command names the Nib, the
stop bit of the syllable (R89) and its form; the syllable joins the bundle that the Nib fetches, and a stop bit issues it.
-/

namespace Sys2Proof.Machine

/-- R114: MOV. -/
def execMov (n : NibId) (stop : Bool) (f : MovForm) (s : State) : Host.Outcome State Fault Refusal :=
  .next (issueSyl n stop (.mov f) s)

/-- R115: ADD. -/
def execAdd (n : NibId) (stop : Bool) (f : AluForm) (s : State) : Host.Outcome State Fault Refusal :=
  .next (issueSyl n stop (.add f) s)

/-- R115: SUB. -/
def execSub (n : NibId) (stop : Bool) (f : AluForm) (s : State) : Host.Outcome State Fault Refusal :=
  .next (issueSyl n stop (.sub f) s)

/-- R115: AND. -/
def execAndS (n : NibId) (stop : Bool) (f : AluForm) (s : State) : Host.Outcome State Fault Refusal :=
  .next (issueSyl n stop (.andS f) s)

/-- R115: OR. -/
def execOrS (n : NibId) (stop : Bool) (f : AluForm) (s : State) : Host.Outcome State Fault Refusal :=
  .next (issueSyl n stop (.orS f) s)

/-- R115: XOR. -/
def execXorS (n : NibId) (stop : Bool) (f : AluForm) (s : State) : Host.Outcome State Fault Refusal :=
  .next (issueSyl n stop (.xorS f) s)

/-- R115: ANDN. -/
def execAndn (n : NibId) (stop : Bool) (f : RR) (s : State) : Host.Outcome State Fault Refusal :=
  .next (issueSyl n stop (.andn f) s)

/-- R115: SHL. -/
def execShl (n : NibId) (stop : Bool) (f : AluForm) (s : State) : Host.Outcome State Fault Refusal :=
  .next (issueSyl n stop (.shl f) s)

/-- R115: SHR. -/
def execShr (n : NibId) (stop : Bool) (f : AluForm) (s : State) : Host.Outcome State Fault Refusal :=
  .next (issueSyl n stop (.shr f) s)

/-- R115: SRA. -/
def execSra (n : NibId) (stop : Bool) (f : AluForm) (s : State) : Host.Outcome State Fault Refusal :=
  .next (issueSyl n stop (.sra f) s)

/-- R115: ROL. -/
def execRol (n : NibId) (stop : Bool) (f : RR) (s : State) : Host.Outcome State Fault Refusal :=
  .next (issueSyl n stop (.rol f) s)

/-- R115: MUL. -/
def execMul (n : NibId) (stop : Bool) (f : RR) (s : State) : Host.Outcome State Fault Refusal :=
  .next (issueSyl n stop (.mul f) s)

/-- R115: MULHU. -/
def execMulhu (n : NibId) (stop : Bool) (f : RR) (s : State) : Host.Outcome State Fault Refusal :=
  .next (issueSyl n stop (.mulhu f) s)

/-- R115: MULHS. -/
def execMulhs (n : NibId) (stop : Bool) (f : RR) (s : State) : Host.Outcome State Fault Refusal :=
  .next (issueSyl n stop (.mulhs f) s)

/-- R115: MIN. -/
def execMin (n : NibId) (stop : Bool) (f : RR) (s : State) : Host.Outcome State Fault Refusal :=
  .next (issueSyl n stop (.min f) s)

/-- R115: MAX. -/
def execMax (n : NibId) (stop : Bool) (f : RR) (s : State) : Host.Outcome State Fault Refusal :=
  .next (issueSyl n stop (.max f) s)

/-- R115: MINU. -/
def execMinu (n : NibId) (stop : Bool) (f : RR) (s : State) : Host.Outcome State Fault Refusal :=
  .next (issueSyl n stop (.minu f) s)

/-- R115: MAXU. -/
def execMaxu (n : NibId) (stop : Bool) (f : RR) (s : State) : Host.Outcome State Fault Refusal :=
  .next (issueSyl n stop (.maxu f) s)

/-- R115: CLZ. -/
def execClz (n : NibId) (stop : Bool) (f : RR) (s : State) : Host.Outcome State Fault Refusal :=
  .next (issueSyl n stop (.clz f) s)

/-- R115: POPC. -/
def execPopc (n : NibId) (stop : Bool) (f : RR) (s : State) : Host.Outcome State Fault Refusal :=
  .next (issueSyl n stop (.popc f) s)

/-- R115: CMPEQ. -/
def execCmpeq (n : NibId) (stop : Bool) (f : AluForm) (s : State) : Host.Outcome State Fault Refusal :=
  .next (issueSyl n stop (.cmpeq f) s)

/-- R115: CMPNE. -/
def execCmpne (n : NibId) (stop : Bool) (f : RR) (s : State) : Host.Outcome State Fault Refusal :=
  .next (issueSyl n stop (.cmpne f) s)

/-- R115: CMPLT. -/
def execCmplt (n : NibId) (stop : Bool) (f : AluForm) (s : State) : Host.Outcome State Fault Refusal :=
  .next (issueSyl n stop (.cmplt f) s)

/-- R115: CMPLTU. -/
def execCmpltu (n : NibId) (stop : Bool) (f : RR) (s : State) : Host.Outcome State Fault Refusal :=
  .next (issueSyl n stop (.cmpltu f) s)

/-- R115: CMPLE. -/
def execCmple (n : NibId) (stop : Bool) (f : RR) (s : State) : Host.Outcome State Fault Refusal :=
  .next (issueSyl n stop (.cmple f) s)

/-- R115: CMPLEU. -/
def execCmpleu (n : NibId) (stop : Bool) (f : RR) (s : State) : Host.Outcome State Fault Refusal :=
  .next (issueSyl n stop (.cmpleu f) s)

/-- R116: ADDI. -/
def execAddi (n : NibId) (stop : Bool) (f : SAorLI) (s : State) : Host.Outcome State Fault Refusal :=
  .next (issueSyl n stop (.addi f) s)

/-- R116: ANDI. -/
def execAndi (n : NibId) (stop : Bool) (f : LI) (s : State) : Host.Outcome State Fault Refusal :=
  .next (issueSyl n stop (.andi f) s)

/-- R116: ORI. -/
def execOri (n : NibId) (stop : Bool) (f : LI) (s : State) : Host.Outcome State Fault Refusal :=
  .next (issueSyl n stop (.ori f) s)

/-- R116: XORI. -/
def execXori (n : NibId) (stop : Bool) (f : LI) (s : State) : Host.Outcome State Fault Refusal :=
  .next (issueSyl n stop (.xori f) s)

/-- R116: SHLI. -/
def execShli (n : NibId) (stop : Bool) (f : ShiftImm) (s : State) : Host.Outcome State Fault Refusal :=
  .next (issueSyl n stop (.shli f) s)

/-- R116: SHRI. -/
def execShri (n : NibId) (stop : Bool) (f : ShiftImm) (s : State) : Host.Outcome State Fault Refusal :=
  .next (issueSyl n stop (.shri f) s)

/-- R116: SRAI. -/
def execSrai (n : NibId) (stop : Bool) (f : ShiftImm) (s : State) : Host.Outcome State Fault Refusal :=
  .next (issueSyl n stop (.srai f) s)

/-- R116: ROLI. -/
def execRoli (n : NibId) (stop : Bool) (f : ShiftImm) (s : State) : Host.Outcome State Fault Refusal :=
  .next (issueSyl n stop (.roli f) s)

/-- R116: SLTI. -/
def execSlti (n : NibId) (stop : Bool) (f : LI) (s : State) : Host.Outcome State Fault Refusal :=
  .next (issueSyl n stop (.slti f) s)

/-- R116: MOVI. -/
def execMovi (n : NibId) (stop : Bool) (f : SAorLU) (s : State) : Host.Outcome State Fault Refusal :=
  .next (issueSyl n stop (.movi f) s)

/-- R116: MOVHI. -/
def execMovhi (n : NibId) (stop : Bool) (f : LU) (s : State) : Host.Outcome State Fault Refusal :=
  .next (issueSyl n stop (.movhi f) s)

/-- R116: MFC. -/
def execMfc (n : NibId) (stop : Bool) (f : SAorLI) (s : State) : Host.Outcome State Fault Refusal :=
  .next (issueSyl n stop (.mfc f) s)

/-- R117: MTC. -/
def execMtc (n : NibId) (stop : Bool) (f : SAorLI) (s : State) : Host.Outcome State Fault Refusal :=
  .next (issueSyl n stop (.mtc f) s)

/-- R119: LDB. -/
def execLdb (n : NibId) (stop : Bool) (f : LI) (s : State) : Host.Outcome State Fault Refusal :=
  .next (issueSyl n stop (.ldb f) s)

/-- R119: LDBU. -/
def execLdbu (n : NibId) (stop : Bool) (f : LI) (s : State) : Host.Outcome State Fault Refusal :=
  .next (issueSyl n stop (.ldbu f) s)

/-- R119: LDH. -/
def execLdh (n : NibId) (stop : Bool) (f : LI) (s : State) : Host.Outcome State Fault Refusal :=
  .next (issueSyl n stop (.ldh f) s)

/-- R119: LDHU. -/
def execLdhu (n : NibId) (stop : Bool) (f : LI) (s : State) : Host.Outcome State Fault Refusal :=
  .next (issueSyl n stop (.ldhu f) s)

/-- R119: LDW. -/
def execLdw (n : NibId) (stop : Bool) (f : SAorLI) (s : State) : Host.Outcome State Fault Refusal :=
  .next (issueSyl n stop (.ldw f) s)

/-- R119: STB. -/
def execStb (n : NibId) (stop : Bool) (f : LI) (s : State) : Host.Outcome State Fault Refusal :=
  .next (issueSyl n stop (.stb f) s)

/-- R119: STH. -/
def execSth (n : NibId) (stop : Bool) (f : LI) (s : State) : Host.Outcome State Fault Refusal :=
  .next (issueSyl n stop (.sth f) s)

/-- R119: STW. -/
def execStw (n : NibId) (stop : Bool) (f : SAorLI) (s : State) : Host.Outcome State Fault Refusal :=
  .next (issueSyl n stop (.stw f) s)

/-- R119: VLD_64. -/
def execVld64 (n : NibId) (stop : Bool) (f : LI) (s : State) : Host.Outcome State Fault Refusal :=
  .next (issueSyl n stop (.vld64 f) s)

/-- R119: VLD_128. -/
def execVld128 (n : NibId) (stop : Bool) (f : LI) (s : State) : Host.Outcome State Fault Refusal :=
  .next (issueSyl n stop (.vld128 f) s)

/-- R119: VLD_256. -/
def execVld256 (n : NibId) (stop : Bool) (f : SAorLI) (s : State) : Host.Outcome State Fault Refusal :=
  .next (issueSyl n stop (.vld256 f) s)

/-- R119: VST_64. -/
def execVst64 (n : NibId) (stop : Bool) (f : LI) (s : State) : Host.Outcome State Fault Refusal :=
  .next (issueSyl n stop (.vst64 f) s)

/-- R119: VST_128. -/
def execVst128 (n : NibId) (stop : Bool) (f : LI) (s : State) : Host.Outcome State Fault Refusal :=
  .next (issueSyl n stop (.vst128 f) s)

/-- R119: VST_256. -/
def execVst256 (n : NibId) (stop : Bool) (f : SAorLI) (s : State) : Host.Outcome State Fault Refusal :=
  .next (issueSyl n stop (.vst256 f) s)

/-- R118: VLDX. -/
def execVldx (n : NibId) (stop : Bool) (f : IndexForm) (s : State) : Host.Outcome State Fault Refusal :=
  .next (issueSyl n stop (.vldx f) s)

/-- R118: VSTX. -/
def execVstx (n : NibId) (stop : Bool) (f : IndexForm) (s : State) : Host.Outcome State Fault Refusal :=
  .next (issueSyl n stop (.vstx f) s)

/-- R121: VADD. -/
def execVadd (n : NibId) (stop : Bool) (f : LaneForm) (s : State) : Host.Outcome State Fault Refusal :=
  .next (issueSyl n stop (.vadd f) s)

/-- R121: VSUB. -/
def execVsub (n : NibId) (stop : Bool) (f : LaneForm) (s : State) : Host.Outcome State Fault Refusal :=
  .next (issueSyl n stop (.vsub f) s)

/-- R121: VMUL. -/
def execVmul (n : NibId) (stop : Bool) (f : LaneForm) (s : State) : Host.Outcome State Fault Refusal :=
  .next (issueSyl n stop (.vmul f) s)

/-- R121: VMIN. -/
def execVmin (n : NibId) (stop : Bool) (f : LaneForm) (s : State) : Host.Outcome State Fault Refusal :=
  .next (issueSyl n stop (.vmin f) s)

/-- R121: VMAX. -/
def execVmax (n : NibId) (stop : Bool) (f : LaneForm) (s : State) : Host.Outcome State Fault Refusal :=
  .next (issueSyl n stop (.vmax f) s)

/-- R121: VABS. -/
def execVabs (n : NibId) (stop : Bool) (f : LaneForm) (s : State) : Host.Outcome State Fault Refusal :=
  .next (issueSyl n stop (.vabs f) s)

/-- R121: VNEG. -/
def execVneg (n : NibId) (stop : Bool) (f : LaneForm) (s : State) : Host.Outcome State Fault Refusal :=
  .next (issueSyl n stop (.vneg f) s)

/-- R121: VCMPEQ. -/
def execVcmpeq (n : NibId) (stop : Bool) (f : LaneForm) (s : State) : Host.Outcome State Fault Refusal :=
  .next (issueSyl n stop (.vcmpeq f) s)

/-- R121: VCMPLT. -/
def execVcmplt (n : NibId) (stop : Bool) (f : LaneForm) (s : State) : Host.Outcome State Fault Refusal :=
  .next (issueSyl n stop (.vcmplt f) s)

/-- R121: VCMPLE. -/
def execVcmple (n : NibId) (stop : Bool) (f : LaneForm) (s : State) : Host.Outcome State Fault Refusal :=
  .next (issueSyl n stop (.vcmple f) s)

/-- R121: VAND. -/
def execVand (n : NibId) (stop : Bool) (f : LaneForm) (s : State) : Host.Outcome State Fault Refusal :=
  .next (issueSyl n stop (.vand f) s)

/-- R121: VOR. -/
def execVor (n : NibId) (stop : Bool) (f : LaneForm) (s : State) : Host.Outcome State Fault Refusal :=
  .next (issueSyl n stop (.vor f) s)

/-- R121: VXOR. -/
def execVxor (n : NibId) (stop : Bool) (f : LaneForm) (s : State) : Host.Outcome State Fault Refusal :=
  .next (issueSyl n stop (.vxor f) s)

/-- R121: VSHL. -/
def execVshl (n : NibId) (stop : Bool) (f : LaneForm) (s : State) : Host.Outcome State Fault Refusal :=
  .next (issueSyl n stop (.vshl f) s)

/-- R121: VSHR. -/
def execVshr (n : NibId) (stop : Bool) (f : LaneForm) (s : State) : Host.Outcome State Fault Refusal :=
  .next (issueSyl n stop (.vshr f) s)

/-- R121: VSRA. -/
def execVsra (n : NibId) (stop : Bool) (f : LaneForm) (s : State) : Host.Outcome State Fault Refusal :=
  .next (issueSyl n stop (.vsra f) s)

/-- R121: VFMA. -/
def execVfma (n : NibId) (stop : Bool) (f : LR) (s : State) : Host.Outcome State Fault Refusal :=
  .next (issueSyl n stop (.vfma f) s)

/-- R122: VMOV. -/
def execVmov (n : NibId) (stop : Bool) (f : SA) (s : State) : Host.Outcome State Fault Refusal :=
  .next (issueSyl n stop (.vmov f) s)

/-- R123: VCVT. -/
def execVcvt (n : NibId) (stop : Bool) (f : LR) (s : State) : Host.Outcome State Fault Refusal :=
  .next (issueSyl n stop (.vcvt f) s)

/-- R123: VMXS. -/
def execVmxs (n : NibId) (stop : Bool) (f : LR) (s : State) : Host.Outcome State Fault Refusal :=
  .next (issueSyl n stop (.vmxs f) s)

/-- R123: VMXQ. -/
def execVmxq (n : NibId) (stop : Bool) (f : LR) (s : State) : Host.Outcome State Fault Refusal :=
  .next (issueSyl n stop (.vmxq f) s)

/-- R123: VMXD. -/
def execVmxd (n : NibId) (stop : Bool) (f : LR) (s : State) : Host.Outcome State Fault Refusal :=
  .next (issueSyl n stop (.vmxd f) s)

/-- R81: EXPS. -/
def execExps (n : NibId) (stop : Bool) (f : SAorLR) (s : State) : Host.Outcome State Fault Refusal :=
  .next (issueSyl n stop (.exps f) s)

/-- R81: MAXRUN. -/
def execMaxrun (n : NibId) (stop : Bool) (f : SAorLR) (s : State) : Host.Outcome State Fault Refusal :=
  .next (issueSyl n stop (.maxrun f) s)

/-- R123: VRSUM. -/
def execVrsum (n : NibId) (stop : Bool) (f : ReduceForm) (s : State) : Host.Outcome State Fault Refusal :=
  .next (issueSyl n stop (.vrsum f) s)

/-- R123: VRMAX. -/
def execVrmax (n : NibId) (stop : Bool) (f : ReduceForm) (s : State) : Host.Outcome State Fault Refusal :=
  .next (issueSyl n stop (.vrmax f) s)

/-- R123: VRMIN. -/
def execVrmin (n : NibId) (stop : Bool) (f : ReduceForm) (s : State) : Host.Outcome State Fault Refusal :=
  .next (issueSyl n stop (.vrmin f) s)

/-- R123: VBCAST. -/
def execVbcast (n : NibId) (stop : Bool) (f : LR) (s : State) : Host.Outcome State Fault Refusal :=
  .next (issueSyl n stop (.vbcast f) s)

/-- R123: VEXT. -/
def execVext (n : NibId) (stop : Bool) (f : LI) (s : State) : Host.Outcome State Fault Refusal :=
  .next (issueSyl n stop (.vext f) s)

/-- R123: VINS. -/
def execVins (n : NibId) (stop : Bool) (f : LI) (s : State) : Host.Outcome State Fault Refusal :=
  .next (issueSyl n stop (.vins f) s)

/-- R123: VSHUF. -/
def execVshuf (n : NibId) (stop : Bool) (f : LR) (s : State) : Host.Outcome State Fault Refusal :=
  .next (issueSyl n stop (.vshuf f) s)

/-- R123: VSPLATI. -/
def execVsplati (n : NibId) (stop : Bool) (f : LU) (s : State) : Host.Outcome State Fault Refusal :=
  .next (issueSyl n stop (.vsplati f) s)

/-- R123: VSEL. -/
def execVsel (n : NibId) (stop : Bool) (f : LR) (s : State) : Host.Outcome State Fault Refusal :=
  .next (issueSyl n stop (.vsel f) s)

/-- R125: XMUL. -/
def execXmul (n : NibId) (stop : Bool) (f : LR) (s : State) : Host.Outcome State Fault Refusal :=
  .next (issueSyl n stop (.xmul f) s)

/-- R125: XMAC_LA. -/
def execXmacLa (n : NibId) (stop : Bool) (f : LR) (s : State) : Host.Outcome State Fault Refusal :=
  .next (issueSyl n stop (.xmacLa f) s)

/-- R126: XADD_LA. -/
def execXaddLa (n : NibId) (stop : Bool) (f : SAorLR) (s : State) : Host.Outcome State Fault Refusal :=
  .next (issueSyl n stop (.xaddLa f) s)

/-- R125: XCLR_LA. -/
def execXclrLa (n : NibId) (stop : Bool) (f : SAorLR) (s : State) : Host.Outcome State Fault Refusal :=
  .next (issueSyl n stop (.xclrLa f) s)

/-- R127: PRD. -/
def execPrd (n : NibId) (stop : Bool) (f : LR) (s : State) : Host.Outcome State Fault Refusal :=
  .next (issueSyl n stop (.prd f) s)

/-- R127: LARD. -/
def execLard (n : NibId) (stop : Bool) (f : LR) (s : State) : Host.Outcome State Fault Refusal :=
  .next (issueSyl n stop (.lard f) s)

/-- R125: LARD1. -/
def execLard1 (n : NibId) (stop : Bool) (f : LI) (s : State) : Host.Outcome State Fault Refusal :=
  .next (issueSyl n stop (.lard1 f) s)

/-- R125: XMULV. -/
def execXmulv (n : NibId) (stop : Bool) (f : LR) (s : State) : Host.Outcome State Fault Refusal :=
  .next (issueSyl n stop (.xmulv f) s)

/-- R125: XDOT. -/
def execXdot (n : NibId) (stop : Bool) (f : LR) (s : State) : Host.Outcome State Fault Refusal :=
  .next (issueSyl n stop (.xdot f) s)

/-- R128: END. -/
def execEndS (n : NibId) (stop : Bool) (f : BitVec 4) (s : State) : Host.Outcome State Fault Refusal :=
  .next (issueSyl n stop (.endS f) s)

/-- R128: TRAP. -/
def execTrap (n : NibId) (stop : Bool) (f : BitVec 4) (s : State) : Host.Outcome State Fault Refusal :=
  .next (issueSyl n stop (.trap f) s)

/-- R103: RET. -/
def execRet (n : NibId) (stop : Bool) (f : BitVec 4) (s : State) : Host.Outcome State Fault Refusal :=
  .next (issueSyl n stop (.ret f) s)

/-- R101: CALL. -/
def execCall (n : NibId) (stop : Bool) (f : LK) (s : State) : Host.Outcome State Fault Refusal :=
  .next (issueSyl n stop (.call f) s)

/-- R101: CALLR. -/
def execCallr (n : NibId) (stop : Bool) (f : LY) (s : State) : Host.Outcome State Fault Refusal :=
  .next (issueSyl n stop (.callr f) s)

/-- R128: BR. -/
def execBr (n : NibId) (stop : Bool) (f : BitVec 20) (s : State) : Host.Outcome State Fault Refusal :=
  .next (issueSyl n stop (.br f) s)

/-- R128: BC. -/
def execBc (n : NibId) (stop : Bool) (f : LC) (s : State) : Host.Outcome State Fault Refusal :=
  .next (issueSyl n stop (.bc f) s)

/-- R128: BRR. -/
def execBrr (n : NibId) (stop : Bool) (f : LY) (s : State) : Host.Outcome State Fault Refusal :=
  .next (issueSyl n stop (.brr f) s)

/-- R128: DBNZ. -/
def execDbnz (n : NibId) (stop : Bool) (f : LC) (s : State) : Host.Outcome State Fault Refusal :=
  .next (issueSyl n stop (.dbnz f) s)

/-- R128: BEQ. -/
def execBeq (n : NibId) (stop : Bool) (f : LY) (s : State) : Host.Outcome State Fault Refusal :=
  .next (issueSyl n stop (.beq f) s)

/-- R128: BNE. -/
def execBne (n : NibId) (stop : Bool) (f : LY) (s : State) : Host.Outcome State Fault Refusal :=
  .next (issueSyl n stop (.bne f) s)

/-- R128: BLT. -/
def execBlt (n : NibId) (stop : Bool) (f : LY) (s : State) : Host.Outcome State Fault Refusal :=
  .next (issueSyl n stop (.blt f) s)

/-- R128: BLTU. -/
def execBltu (n : NibId) (stop : Bool) (f : LY) (s : State) : Host.Outcome State Fault Refusal :=
  .next (issueSyl n stop (.bltu f) s)

/-- R130: SFENCEA. -/
def execSfencea (n : NibId) (stop : Bool) (f : BitVec 4) (s : State) : Host.Outcome State Fault Refusal :=
  .next (issueSyl n stop (.sfencea f) s)

/-- R130: SFENCET. -/
def execSfencet (n : NibId) (stop : Bool) (f : BitVec 4) (s : State) : Host.Outcome State Fault Refusal :=
  .next (issueSyl n stop (.sfencet f) s)

/-- R130: SFENCE. -/
def execSfence (n : NibId) (stop : Bool) (f : LY) (s : State) : Host.Outcome State Fault Refusal :=
  .next (issueSyl n stop (.sfence f) s)

/-- R45: STREAM. -/
def execStream (n : NibId) (stop : Bool) (f : LY) (s : State) : Host.Outcome State Fault Refusal :=
  .next (issueSyl n stop (.stream f) s)

/-- R130: SIGNAL. -/
def execSignal (n : NibId) (stop : Bool) (f : LY) (s : State) : Host.Outcome State Fault Refusal :=
  .next (issueSyl n stop (.signal f) s)

/-- R130: SIGNALI. -/
def execSignali (n : NibId) (stop : Bool) (f : LY) (s : State) : Host.Outcome State Fault Refusal :=
  .next (issueSyl n stop (.signali f) s)

/-- R130: CONSUME. -/
def execConsume (n : NibId) (stop : Bool) (f : LY) (s : State) : Host.Outcome State Fault Refusal :=
  .next (issueSyl n stop (.consume f) s)

/-- R130: WAIT. -/
def execWait (n : NibId) (stop : Bool) (f : LY) (s : State) : Host.Outcome State Fault Refusal :=
  .next (issueSyl n stop (.wait f) s)

/-- R130: WAITC. -/
def execWaitc (n : NibId) (stop : Bool) (f : LY) (s : State) : Host.Outcome State Fault Refusal :=
  .next (issueSyl n stop (.waitc f) s)

/-- R179: EVPOST. -/
def execEvpost (n : NibId) (stop : Bool) (f : LY) (s : State) : Host.Outcome State Fault Refusal :=
  .next (issueSyl n stop (.evpost f) s)

/-- R35, R94: every result of the Nib that is due at its bundle count becomes visible. -/
def execXResultLand (n : NibId) (s : State) : Host.Outcome State Fault Refusal :=
  .next (setNib s n.val (landDue (getNib s n.val)))

end Sys2Proof.Machine
end

