-- ==== Sys2Proof/Machine/Debug.lean ====
section
/-!
DEFINITION. Lifecycle and debug commands (R474 to R482, R487).
-/

namespace Sys2Proof.Machine

/-! ### Detail codes (R489) -/
def dtSessionOpen : Nat := 0x81
def dtFirmwareDebug : Nat := 0x82
def dtAuthIncomplete : Nat := 0x83
def dtAuthFormat : Nat := 0x84
def dtNonceStale : Nat := 0x85
def dtDebugKey : Nat := 0x86
def dtDebugAuth : Nat := 0x87
def dtDebugClosed : Nat := 0x88
def dtNibRunning : Nat := 0x89
def dtRetirePetals : Nat := 0x8A
def dtOperatorKeySet : Nat := 0x8B

/-! ### Challenge and authorisation (R476, R477) -/

/-- R477: the page's live nonce; it lapses after 60 s. -/
def liveNonce (s : State) (g : Nat) : Option (List Byte) :=
  match look s.sec.nonces g with
  | some n => if elapsedAtLeast s n.since 60000000000 then none else some n.bytes
  | none => none

def cmdDbgChallenge : Cmd := ⟨0x0B00, .any, false, 0x14, false, [(0x10, 0, 2)], noObj⟩
def bodyDbgChallenge (m : Mbx) (s : State) : State × Ans :=
  let s := fresh s
  let g := m.page.val
  let n : List Byte := (List.range 32).map (fun i => BitVec.ofNat 8 (freeVal s i))
  let sec := { s.sec with
    nonces := put s.sec.nonces g ⟨n, s.elapsed⟩
    authBuf := if g = devPage then [] else s.sec.authBuf }
  ({ s with sec := sec }, .reply (replyData (leNat n + Config.serial.toNat * 2 ^ 256) 40))
/-- DBG_CHALLENGE (R477). -/
def execDbgChallenge (m : Mbx) (s : State) : Host.Outcome State Fault Refusal := .next (mailbox cmdDbgChallenge bodyDbgChallenge m s)

/-- DBG_NONCE_LAPSE (R477). -/
def execDbgNonceLapse (page : PageId) (s : State) : Host.Outcome State Fault Refusal :=
  .next (if (look s.sec.nonces page.val).isSome ∧ (liveNonce s page.val).isNone then
      { s with sec := { s.sec with nonces := del s.sec.nonces page.val } }
    else s)

def cmdDbgAuthLoad : Cmd := ⟨0x0B01, .device, false, 0x24, false, [(0x10, 0, 12), (0x10, 16, 8), (0x20, 0, 1792)], noObj⟩
def bodyDbgAuthLoad (m : Mbx) (s : State) : State × Ans :=
  let at_ := mf m 0x10 0 12
  let n := mf m 0x10 16 8
  if n = 0 ∨ 224 < n ∨ 3796 < at_ + n then (s, ansErr stInvalidArgument 0)
  else if m.length.toNat < 0x20 + n then (s, ansErr stLengthError 0)
  else if mf m (0x20 + n) 0 (8 * (m.length.toNat - 0x20 - n)) ≠ 0 then (s, ansErr stInvalidArgument 0)
  else
    let bytes := leBytes n (mf m 0x20 0 1792)
    ({ s with sec := { s.sec with authBuf := storeBytes s.sec.authBuf at_ bytes } }, ansOk)
/-- DBG_AUTH_LOAD (R477). -/
def execDbgAuthLoad (m : Mbx) (s : State) : Host.Outcome State Fault Refusal := .next (mailbox cmdDbgAuthLoad bodyDbgAuthLoad m s)

/-- R477: the authorisation buffer, and whether every byte of it has been loaded since the challenge. -/
def authBytes (s : State) : List Byte := loadBytes s.sec.authBuf (fun _ => 0) 0 3796
def authLoaded (s : State) : Bool := (List.range 3796).all (fun i => (look s.sec.authBuf i).isSome)

/-- R476: the fields of an authorisation body. -/
def bodyLevel (b : List Byte) : Nat := natAt b 4 1 % 4
def bodySeconds (b : List Byte) : Nat := natAt b 0x30 4
/-- R476, R477, check 5. -/
def bodyFormed (b : List Byte) (level petal : Nat) : Bool :=
  natAt b 0 4 == 0x41443159 && bodyLevel b == level && bitsOf (natAt b 4 4) 2 14 == 0 && bitsOf (natAt b 4 4) 16 9 == petal &&
    bitsOf (natAt b 4 4) 25 7 == 0 && natAt b 8 8 == Config.serial.toNat && decide (1 ≤ bodySeconds b) && decide (bodySeconds b ≤ 86400) &&
    bytesAt b 0x34 12 == zeros 12

/-- R475: does the lifecycle permit a level? -/
def levelPermitted (s : State) (level : Nat) : Bool :=
  match level with
  | 0 => true
  | 1 => s.sec.lifecycle == .deployed
  | 2 => s.sec.lifecycle == .deployed
  | _ => s.sec.lifecycle == .retired

/-- R475: does the page suit a level? -/
def levelOnPage (g level : Nat) : Bool := if g = devPage then level == 2 || level == 3 else level == 1

/-- The level that a DBG_OPEN asks for: of the body; where the device page's buffer does not hold that byte yet, the one that the
lifecycle has for the device page. -/
def askedLevel (s : State) (g : Nat) (body : List Byte) : Nat :=
  if g = devPage ∧ (look s.sec.authBuf 4).isNone then (if s.sec.lifecycle = .deployed then 2 else 3) else bodyLevel body

/-- R477, checks 1 to 3. -/
def openRefusal (s : State) (g level : Nat) : Option (Nat × Nat) :=
  if levelPermitted s level = false then some (stNotPermitted, dtLifecycle)
  else if levelOnPage g level = false then some (stNotPermitted, 0)
  else if level = 1 ∧ (deviceLevel s = 2 ∨ s.sec.d2.isSome) then some (stBusy, dtFirmwareDebug)
  else if (sessionOf s g).isSome ∨ (g = devPage ∧ s.sec.d2.isSome) then some (stBusy, dtSessionOpen)
  else none

/-- R477, checks 7 and 8: the key and the tag or signature. -/
def keyRefusal (s : State) (m : Mbx) (level : Nat) (body buf : List Byte) : Option (Nat × Nat) :=
  if level = 1 then
    match (getPetal s m.page.val).bind (fun x => slotKey x (mf m 0x10 0 16) 3) with
    | none => some (stAuthFailed, dtDebugKey)
    | some k => if cmac (keyBytes k 32) body = leBytes 16 (mf m 0x60 0 128) then none else some (stAuthFailed, dtDebugAuth)
  else
    let key := bytesAt buf 0x9B4 1312
    let fused := if level = 2 then s.sec.operatorKey else some Config.vendorKeyHash
    if fused ≠ some (sha3 key) then some (stAuthFailed, dtDebugKey)
    else if Config.dsaVerify key (sha3 body) (bytesAt buf 0x40 2420) then none
    else some (stAuthFailed, dtDebugAuth)

/-- R477, checks 4 to 8. -/
def authRefusal (s : State) (m : Mbx) (level : Nat) (body buf : List Byte) : Option (Nat × Nat) :=
  let g := m.page.val
  if g = devPage ∧ authLoaded s = false then some (stInvalidArgument, dtAuthIncomplete)
  else if bodyFormed body level (if g = devPage then 0x1FF else g) = false then some (stInvalidArgument, dtAuthFormat)
  else if liveNonce s g ≠ some (bytesAt body 0x10 32) then some (stAuthFailed, dtNonceStale)
  else keyRefusal s m level body buf

/-- R481, steps 1 and 2: D1 sessions close, every petal but the control petal quiesces, and what has not started is aborted. -/
def beginD2 (s : State) (seconds : Nat) : State :=
  let open_ : List Nat := (s.sec.sessions.filter (fun e => e.2.level == 1)).map (fun e => e.1)
  let s := open_.foldl closeSession s
  let ps : List Nat := (s.petals.filter (fun e => !e.2.control)).map (fun e => e.1)
  let s := ps.foldl (fun s p => abortWaiting (enterQuiesce s p .debug) p) s
  { s with sec := { s.sec with d2 := some ⟨seconds, s.elapsed, false⟩ } }

/-- R481: do petals still drain for a D2 session that is being opened? -/
def d2Waits (s : State) : Bool := s.petals.any (fun e => e.2.causeDebug && e.2.st == .quiescing)

def cmdDbgOpen : Cmd := ⟨0x0B02, .any, true, 0x10, false, [(0x10, 0, 16), (0x20, 0, 512), (0x60, 0, 128)], noObj⟩
/-- R479: the device page's request has no payload. -/
def openForm (m : Mbx) : Option (Nat × Nat) :=
  if m.page.val = devPage then
    if mf m 0x10 0 (8 * (m.length.toNat - 16)) = 0 then none else some (stInvalidArgument, 0)
  else if m.length.toNat < 0x70 then some (stLengthError, 0) else none
def bodyDbgOpen (m : Mbx) (s : State) : State × Ans :=
  let g := m.page.val
  let buf := authBytes s
  let body := if g = devPage then bytesAt buf 0 64 else leBytes 64 (mf m 0x20 0 512)
  let level := askedLevel s g body
  match openForm m, openRefusal s g level with
  | some e, _ => (s, ansErr e.1 e.2)
  | none, some e => (s, ansErr e.1 e.2)
  | none, none =>
    let used := { s with sec := { s.sec with nonces := del s.sec.nonces g } }
    match authRefusal s m level body buf with
    | some e => (used, ansErr e.1 e.2)
    | none =>
      if level = 2 then
        let s := beginD2 used (bodySeconds body)
        if d2Waits s then (s, .pend .debugDrain) else (drainD2 s, .late .debugDrain replyOk)
      else (openDebug used g level (bodySeconds body), ansOk)
/-- DBG_OPEN (R477, R481). -/
def execDbgOpen (m : Mbx) (s : State) : Host.Outcome State Fault Refusal := .next (mailbox cmdDbgOpen bodyDbgOpen m s)

/-- DBG_D2_DRAIN_EXPIRY (R481, step 3): 1,000 ms after step 2 the work that still runs is stopped as by its own abort. -/
def forceD2 (s : State) (d : D2Open) : State :=
  let ps : List Nat := (s.petals.filter (fun e => e.2.causeDebug && e.2.st == .quiescing)).map (fun e => e.1)
  ps.foldl stopRunning { s with sec := { s.sec with d2 := some { d with forced := true } } }
def execDbgD2DrainExpiry (s : State) : Host.Outcome State Fault Refusal :=
  .next (match s.sec.d2 with
    | some d => if d.forced = false ∧ elapsedAtLeast s d.since 1000000000 = true then forceD2 (fresh s) d else s
    | none => s)

/-! ### Close and query (R478, R479) -/

/-- R479: a command that needs a session on its page. -/
def needSession (m : Mbx) (levels : List Nat) (s : State) (f : State → State × Ans) : State × Ans :=
  match sessionOf s m.page.val with
  | some d => if levels.contains d.level then f s else (s, ansErr stNotPermitted dtDebugClosed)
  | none => (s, ansErr stNotPermitted dtDebugClosed)

def cmdDbgClose : Cmd := ⟨0x0B03, .any, false, 0x10, false, [], noObj⟩
def bodyDbgClose (m : Mbx) (s : State) : State × Ans :=
  needSession m [1, 2, 3] s (fun s => (closeSession s m.page.val, ansOk))
/-- DBG_CLOSE (R478). -/
def execDbgClose (m : Mbx) (s : State) : Host.Outcome State Fault Refusal := .next (mailbox cmdDbgClose bodyDbgClose m s)

/-- R478: has a session's length passed? -/
def sessionOver (s : State) (d : DbgSess) : Bool := elapsedAtLeast s d.since (d.seconds * 1000000000)

/-- DBG_SESSION_EXPIRY (R478). -/
def execDbgSessionExpiry (page : PageId) (s : State) : Host.Outcome State Fault Refusal :=
  .next (match sessionOf s page.val with
    | some d => if sessionOver s d then closeSession s page.val else s
    | none => s)

/-- R479: the whole seconds that a session has left. -/
def secondsLeft (s : State) (g : Nat) : Nat :=
  match sessionOf s g with
  | some d => d.seconds - (s.elapsed.toNat - d.since.toNat) / 100000000
  | none => 0

def cmdDbgQuery : Cmd := ⟨0x0B04, .any, false, 0x10, false, [], noObj⟩
def bodyDbgQuery (m : Mbx) (s : State) : State × Ans :=
  let g := m.page.val
  (s, .reply (replyData (deviceLevel s + 4 * b2n (petalDebug s g) + secondsLeft s g * 2 ^ 32) 8))
/-- DBG_QUERY (R479). -/
def execDbgQuery (m : Mbx) (s : State) : Host.Outcome State Fault Refusal := .next (mailbox cmdDbgQuery bodyDbgQuery m s)

/-! ### Nibs, registers and scratch (R480, R487) -/

/-- R487: a unit that a debug command names, and what contains it, come to W1 from W2 or deeper. -/
def raiseTo1 (s : State) (kind u : Nat) : State :=
  { s with pwr := { s.pwr with levels := s.pwr.levels.map (fun e =>
      if 2 ≤ e.2 ∧ (unitChain kind u).contains e.1 = true then (e.1, 1) else e) } }

/-- The global number of a petal core index. -/
def petalCore (s : State) (g i : Nat) : Option Nat := (getPetal s g).bind (fun x => x.cores[i]?)

def cmdDbgNib : Cmd := ⟨0x0B10, .own, false, 0x14, false, [(0x10, 0, 10), (0x10, 16, 4), (0x10, 24, 1)], noObj⟩
/-- R480: DBG_NIB_CONTROL. -/
def bodyDbgNib (m : Mbx) (s : State) : State × Ans :=
  needSession m [1] s (fun s =>
    match petalCore s m.page.val (mf m 0x10 0 10) with
    | none => (s, ansErr stInvalidArgument 0)
    | some k =>
      let nibs := (onesOf 4 (mf m 0x10 16 4)).map (fun i => 4 * k + i)
      let s := nibs.foldl (fun s n => raiseTo1 s ukNib n) s
      (nibs.foldl (if mf m 0x10 24 1 = 0 then haltNib else resumeNib) s, ansOk))

/-- DBG_NIB_HALT and DBG_NIB_RESUME are the command DBG_NIB_CONTROL with bit 24 at 0 and at 1 (R479). -/
def nibControl (resume : Bool) (m : Mbx) : Mbx :=
  { m with payload := BitVec.ofNat 1920 (setBits m.payload.toNat 24 1 (b2n resume)) }
/-- DBG_NIB_HALT (R480). -/
def execDbgNibHalt (m : Mbx) (s : State) : Host.Outcome State Fault Refusal := .next (mailbox cmdDbgNib bodyDbgNib (nibControl false m) s)
/-- DBG_NIB_RESUME (R480). -/
def execDbgNibResume (m : Mbx) (s : State) : Host.Outcome State Fault Refusal := .next (mailbox cmdDbgNib bodyDbgNib (nibControl true m) s)

/-- R480: the bytes of a register file, or of a register; none where there is no such register. -/
def regBytes (s : State) (n file reg : Nat) : Option (List Byte) :=
  let x := getNib s n
  match file with
  | 0 => some (x.g.toList.flatMap (fun w => leBytes 4 w.toNat))
  | 1 => some ((List.range 64).flatMap (fun o => leBytes 4 (readCr ⟨x, getCore s (n / 4), s.elapsed, 0, 0, 0⟩ o).toNat))
  | 2 => (x.v[reg]?).map (fun v => leBytes 256 v.toNat)
  | 3 => (x.p[reg]?).map (fun p => p.toList.flatMap (fun l => leBytes 16 l.toNat))
  | 4 => (x.la[reg]?).map (fun a => (List.range 21).flatMap (fun j => a.toList.flatMap (fun l => leBytes 4 (l.slice j))))
  | _ => none

/-- A debug read is delivered into petal memory. -/
def deliverPda (s : State) (p a : Nat) (bs : List Byte) : State × Ans :=
  if ((getPetal s p).map (fun x => pdaInside x a bs.length)).getD false && keyPresent s p then (memPut s p a bs, ansOk)
  else (s, ansErr stNotPermitted 0)

def cmdDbgNibRead : Cmd :=
  ⟨0x0B11, .own, false, 0x20, false, [(0x10, 0, 10), (0x10, 16, 2), (0x14, 0, 4), (0x14, 8, 5), (0x18, 0, 48)], noObj⟩
def bodyDbgNibRead (m : Mbx) (s : State) : State × Ans :=
  needSession m [1] s (fun s =>
    match petalCore s m.page.val (mf m 0x10 0 10) with
    | none => (s, ansErr stInvalidArgument 0)
    | some k =>
      let n := 4 * k + mf m 0x10 16 2
      let s := raiseTo1 s ukNib n
      let x := getNib s n
      if x.halted = false ∧ x.st ≠ .stopped then (s, ansErr stBusy dtNibRunning)
      else
        match regBytes s n (mf m 0x14 0 4) (mf m 0x14 8 5) with
        | none => (s, ansErr stInvalidArgument 0)
        | some bs => deliverPda s m.page.val (mf m 0x18 0 48) bs)
/-- DBG_NIB_READ (R480). -/
def execDbgNibRead (m : Mbx) (s : State) : Host.Outcome State Fault Refusal := .next (mailbox cmdDbgNibRead bodyDbgNibRead m s)

/-- R480: may the scratch of a core be read: it runs no launch, or all four of its Nibs are HALTED? -/
def scratchReadable (s : State) (k : Nat) : Bool := (getCore s k).launch.isNone || (nibsOf [k]).all (fun n => (getNib s n).halted)

def cmdDbgScratchRead : Cmd :=
  ⟨0x0B12, .own, false, 0x28, false, [(0x10, 0, 10), (0x14, 0, 32), (0x18, 0, 32), (0x20, 0, 48)], noObj⟩
def bodyDbgScratchRead (m : Mbx) (s : State) : State × Ans :=
  let a := mf m 0x14 0 32
  let n := mf m 0x18 0 32
  needSession m [1] s (fun s =>
    match petalCore s m.page.val (mf m 0x10 0 10) with
    | none => (s, ansErr stInvalidArgument 0)
    | some k =>
      if a % 64 ≠ 0 ∨ n % 64 ≠ 0 ∨ n = 0 ∨ 2 ^ 20 < n ∨ 2 ^ 20 < a + n then (s, ansErr stInvalidArgument 0)
      else
        let s := raiseTo1 s ukCore k
        if scratchReadable s k = false then (s, ansErr stBusy dtNibRunning)
        else deliverPda s m.page.val (mf m 0x20 0 48) (scratchRead (getCore s k) a n))
/-- DBG_SCRATCH_READ (R480). -/
def execDbgScratchRead (m : Mbx) (s : State) : Host.Outcome State Fault Refusal :=
  .next (mailbox cmdDbgScratchRead bodyDbgScratchRead m s)

/-! ### Firmware reads, lifecycle and keys (R474, R479, R481, R482) -/

def cmdDbgFwRead : Cmd :=
  ⟨0x0B20, .device, false, 0x30, false, [(0x10, 0, 6), (0x18, 0, 64), (0x20, 0, 32), (0x28, 0, 48)], noObj⟩
def bodyDbgFwRead (m : Mbx) (s : State) : State × Ans :=
  let n := mf m 0x20 0 32
  needSession m [2, 3] s (fun s =>
    if n = 0 ∨ 2 ^ 20 < n then (s, ansErr stInvalidArgument 0)
    else
      match controlPetal s with
      | none => (s, ansErr stNotPermitted dtNoControlPetal)
      | some c =>
        let s := fresh s
        let bs := (List.range n).map (fun i => Config.hubByte s.freeCtr (mf m 0x10 0 6) (mf m 0x18 0 64 + i))
        deliverPda s c (mf m 0x28 0 48) bs)
/-- DBG_FW_READ (R481, R482). -/
def execDbgFwRead (m : Mbx) (s : State) : Host.Outcome State Fault Refusal := .next (mailbox cmdDbgFwRead bodyDbgFwRead m s)

def cmdLifecycleRetire : Cmd := ⟨0x0B40, .device, false, 0x14, false, [(0x10, 0, 32)], noObj⟩
def bodyLifecycleRetire (m : Mbx) (s : State) : State × Ans :=
  if s.sec.lifecycle ≠ .deployed then (s, ansErr stNotPermitted dtLifecycle)
  else if mf m 0x10 0 32 ≠ 0x49544552 then (s, ansErr stInvalidArgument 0)
  else if s.petals ≠ [] then (s, ansErr stNotPermitted dtRetirePetals)
  else if anySession s ∨ s.sec.d2.isSome then (s, ansErr stBusy dtSessionOpen)
  else (logEvent { s with sec := { s.sec with identityOff := true, lifecycle := .retired } } 7 1 "retired" 0 noPetal [], ansOk)
/-- LIFECYCLE_RETIRE (R474). -/
def execLifecycleRetire (m : Mbx) (s : State) : Host.Outcome State Fault Refusal :=
  .next (mailbox cmdLifecycleRetire bodyLifecycleRetire m s)

def cmdDbgOperatorKeySet : Cmd := ⟨0x0B41, .device, false, 0x40, false, [(0x20, 0, 256)], noObj⟩
def bodyDbgOperatorKeySet (m : Mbx) (s : State) : State × Ans :=
  if s.sec.lifecycle ≠ .deployed ∨ deviceLevel s ≠ 0 then (s, ansErr stNotPermitted dtLifecycle)
  else if s.sec.operatorKey.isSome then (s, ansErr stNotPermitted dtOperatorKeySet)
  else ({ s with sec := { s.sec with operatorKey := some (leBytes 32 (mf m 0x20 0 256)) } }, ansOk)
/-- DBG_OPERATOR_KEY_SET (R479). -/
def execDbgOperatorKeySet (m : Mbx) (s : State) : Host.Outcome State Fault Refusal :=
  .next (mailbox cmdDbgOperatorKeySet bodyDbgOperatorKeySet m s)

end Sys2Proof.Machine
end

