-- ==== Sys2Proof/Machine/SyncCmd.lean ====
section
/-!
DEFINITION. The counter commands, watches and the updates of a core's sync port (R420 to R435).
-/

namespace Sys2Proof.Machine

/-! ### Detail codes (R434) -/
def dtCounterRange : Nat := 0x80
def dtCounterOverflow : Nat := 0x81
def dtWatchExists : Nat := 0x82
def dtWatchUnknown : Nat := 0x83
def dtWatchLimit : Nat := 0x84
def dtWatchTarget : Nat := 0x85
def dtSynDebugClosed : Nat := 0x86
def dtWatchFormat : Nat := 0x87

/-- COUNTER_UPDATE_APPLY (R421 to R425): the fabric applies the oldest update of a core's sync port. -/
def execCounterUpdateApply (k : CoreId) (s : State) : Host.Outcome State Fault Refusal := .next (portStep s k.val)

/-- R429: a watch times out. -/
def watchTimeout (s : State) (p w : Nat) : State :=
  match (getPetal s p).bind (fun x => look x.watches w) with
  | some t =>
    if t.timeoutMs ≠ 0 ∧ elapsedAtLeast s t.since (t.timeoutMs * 1000000) = true then
      watchWrite (endWatch (count (awake s) kSyn p 4 1) p w true) t t.timeoutValue
    else s
  | none => s
/-- WATCH_TIMEOUT (R429, R500). -/
def execWatchTimeout (p : PetalId) (w : Fin 1024) (s : State) : Host.Outcome State Fault Refusal := .next (watchTimeout s p.val w.val)

/-! ### SYN_READ, SYN_ADD (R427) -/

/-- The number of a petal's counters (R420). -/
def counterCount (s : State) (p : Nat) : Nat := recCounters (((getPetal s p).map (·.record)).getD 0)
def counterNow (s : State) (p i : Nat) : W64 := ((getPetal s p).map (fun x => counterVal x i)).getD 0

def cmdSynRead : Cmd := ⟨0x0030, .own, false, 0x18, false, [(0x10, 0, 32), (0x14, 0, 5)], noObj⟩
def bodySynRead (m : Mbx) (s : State) : State × Ans :=
  let p := m.page.val
  let a := mf m 0x10 0 32
  let n := mf m 0x14 0 5
  if n = 0 ∨ 16 < n then (s, ansErr stInvalidArgument 0)
  else if counterCount s p < a + n then (s, ansErr stNotPermitted dtCounterRange)
  else (s, .reply (replyData (ofElems 64 ((List.range n).map (fun i => (counterNow s p (a + i)).toNat))) (8 * n)))
/-- SYN_READ (R427). -/
def execSynRead (m : Mbx) (s : State) : Host.Outcome State Fault Refusal := .next (mailbox cmdSynRead bodySynRead m s)

def cmdSynAdd : Cmd := ⟨0x0031, .own, false, 0x20, false, [(0x10, 0, 32), (0x18, 0, 64)], noObj⟩
def bodySynAdd (m : Mbx) (s : State) : State × Ans :=
  let p := m.page.val
  let i := mf m 0x10 0 32
  let d := sInt 64 (mf m 0x18 0 64)
  if counterCount s p ≤ i then (s, ansErr stNotPermitted dtCounterRange)
  else
    match applyUpdate s ⟨p, i, d⟩ with
    | (t, true) => (t, .reply (replyData (wrapN 64 ((counterNow s p i).toInt + d)) 8))
    | (t, false) => (t, ansErr stInvalidArgument dtCounterOverflow)
/-- SYN_ADD (R427). -/
def execSynAdd (m : Mbx) (s : State) : Host.Outcome State Fault Refusal := .next (mailbox cmdSynAdd bodySynAdd m s)

/-! ### Watches (R428 to R430) -/

/-- The watch that a request registers. -/
def watchIn (m : Mbx) (s : State) : Watch where
  petal := m.page.val
  num := mf m 0x10 0 10
  consume := mf m 0x10 10 1 == 1
  irq := mf m 0x10 11 1 == 1
  binding := mf m 0x10 12 4
  msix := mf m 0x10 16 16
  counter := mf m 0x14 0 32
  threshold := BitVec.ofNat 64 (mf m 0x18 0 64)
  notifyAddr := BitVec.ofNat 64 (mf m 0x20 0 64)
  notifyValue := BitVec.ofNat 64 (mf m 0x28 0 64)
  timeoutMs := mf m 0x30 0 32
  timeoutValue := BitVec.ofNat 64 (mf m 0x38 0 64)
  since := s.elapsed

/-- R428: may a watch write its notify_addr? -/
def notifyOk (x : Petal) (w : Watch) : Bool :=
  match bufAddr w.notifyAddr.toNat with
  | .pda a => a % 8 == 0 && pdaInside x a 8
  | .bus a => a % 8 == 0 && w.binding != 0xF
  | .absent => true
  | .malformed => false

/-- R428: how many watches the device holds. -/
def watchTotal (s : State) : Nat := (s.petals.map (fun e => e.2.watches.length)).foldl (· + ·) 0

/-- R428: the checks of SYN_WATCH_SET in order. -/
def watchCheck (s : State) (x : Petal) (w : Watch) : Option (Nat × Nat) :=
  if (4 ≤ w.binding ∧ w.binding ≤ 14) ∨ 600000 < w.timeoutMs then some (stInvalidArgument, dtWatchFormat)
  else if (look x.watches w.num).isSome then some (stInvalidArgument, dtWatchExists)
  else if 16384 ≤ watchTotal s ∨ 1024 ≤ x.watches.length then some (stNoResources, dtWatchLimit)
  else if recCounters x.record ≤ w.counter then some (stNotPermitted, dtCounterRange)
  else if notifyOk x w = false ∨ (w.irq = true ∧ look s.msixOwner w.msix ≠ some w.petal) then some (stNotPermitted, dtWatchTarget)
  else none

/-- R425, R429: a watch is registered; where its condition holds it fires at once. -/
def registerWatch (s : State) (w : Watch) : State :=
  let s := modPetal s w.petal (fun x => { x with watches := put x.watches w.num w, watchEnds := del x.watchEnds w.num })
  let s := addWaiter s ⟨.watch w.petal w.num, w.petal, w.counter, w.threshold, w.consume, w.since⟩
  serveWaiters (s.waiters.length + 1) s w.petal w.counter

def cmdSynWatchSet : Cmd :=
  ⟨0x0032, .own, false, 0x40, false,
   [(0x10, 0, 32), (0x14, 0, 32), (0x18, 0, 64), (0x20, 0, 64), (0x28, 0, 64), (0x30, 0, 32), (0x38, 0, 64)], noObj⟩
def bodySynWatchSet (m : Mbx) (s : State) : State × Ans :=
  match getPetal s m.page.val with
  | none => (s, ansErr stNotFound 0)
  | some x =>
    match watchCheck s x (watchIn m s) with
    | some e => (s, ansErr e.1 e.2)
    | none => (registerWatch s (watchIn m s), ansOk)
/-- SYN_WATCH_SET (R428). -/
def execSynWatchSet (m : Mbx) (s : State) : Host.Outcome State Fault Refusal := .next (mailbox cmdSynWatchSet bodySynWatchSet m s)

def cmdSynWatchCancel : Cmd := ⟨0x0033, .own, false, 0x14, false, [(0x10, 0, 10)], noObj⟩
def bodySynWatchCancel (m : Mbx) (s : State) : State × Ans :=
  let p := m.page.val
  let w := mf m 0x10 0 10
  match getPetal s p with
  | none => (s, ansErr stNotFound 0)
  | some x =>
    if (look x.watches w).isSome then (endWatch s p w false, ansOk)
    else if look x.watchEnds w = some true then (s, ansErr stAlreadyComplete 0)
    else (s, ansErr stNotFound dtWatchUnknown)
/-- SYN_WATCH_CANCEL (R430). -/
def execSynWatchCancel (m : Mbx) (s : State) : Host.Outcome State Fault Refusal :=
  .next (mailbox cmdSynWatchCancel bodySynWatchCancel m s)

/-! ### SYN_DEBUG_SET (R433) -/

def cmdSynDebugSet : Cmd := ⟨0x0B30, .own, false, 0x20, false, [(0x10, 0, 32), (0x18, 0, 64)], noObj⟩
def bodySynDebugSet (m : Mbx) (s : State) : State × Ans :=
  let p := m.page.val
  let i := mf m 0x10 0 32
  if petalDebug s p = false then (s, ansErr stNotPermitted dtSynDebugClosed)
  else if counterCount s p ≤ i then (s, ansErr stNotPermitted dtCounterRange)
  else
    let old := counterNow s p i
    let s := putCounter (count s kSyn p 8 1) p i (BitVec.ofNat 64 (mf m 0x18 0 64))
    (logEvent s 7 1 "counter set by hand" 0 p [], .reply (replyData old.toNat 8))
/-- SYN_DEBUG_SET (R433). -/
def execSynDebugSet (m : Mbx) (s : State) : Host.Outcome State Fault Refusal := .next (mailbox cmdSynDebugSet bodySynDebugSet m s)

end Sys2Proof.Machine
end

