-- ==== Sys2Proof/Machine/Snapshot.lean ====
section
/-!
DEFINITION. COUNTER_SNAPSHOT (R257, R258): which groups a page may read, which exist, and the fields of each.
-/

namespace Sys2Proof.Machine

def dtGroupUnknown : Nat := 0x83
def dtGroupDenied : Nat := 0x84
def dtSnapshotPda : Nat := 0x85

/-- R257: the kinds that the chapters define. -/
def groupDefined (kind : Nat) : Bool := decide (1 ≤ kind) && decide (kind ≤ 0x13)

/-- The kinds that the device page alone reads (R160, R337, R391, R435, R444, R507, R517). -/
def deviceKinds : List Nat := [0x02, 0x07, 0x08, 0x09, 0x0A, 0x0B, 0x0E, 0x0F, 0x11, 0x13]

/-- The petal that an instance of a per-petal group belongs to (R257). -/
def groupPetal (kind inst : Nat) : Nat :=
  if kind = 0x04 then inst / 64 else if kind = 0x05 then inst / 16 else inst

/-- R257, check 2: may a page read an instance? Only the petal's own page reads its SYN group (R435). -/
def groupReadable (g kind inst : Nat) : Bool :=
  if g = devPage then kind != 0x0D
  else !deviceKinds.contains kind && groupPetal kind inst == g

/-- The number of instances of a kind that is not per petal. -/
def groupCount (kind : Nat) : Nat :=
  match kind with
  | 0x02 => 24 | 0x07 => 9 | 0x08 => 32 | 0x09 => 768 | 0x0A => 8192 | 0x0B => 16384 | 0x0E => 65 | 0x0F => 1 | 0x11 => 5 | 0x13 => 1
  | _ => 0

/-- R257, check 3: does an instance exist? -/
def groupExists (s : State) (kind inst : Nat) : Bool :=
  if deviceKinds.contains kind then decide (inst < groupCount kind)
  else if kind = 0x04 then (look s.comms inst).isSome
  else if kind = 0x05 then (look s.ctxs inst).isSome
  else decide (inst < 512) && (getPetal s inst).isSome

/-- The first n fields of a group. -/
def plainFields (s : State) (kind inst n : Nat) : List Nat := (List.range n).map (countVal s kind inst)

/-- R285: core_steps with the steps that running launches have run so far. -/
def ptlFields (s : State) (p : Nat) : List Nat :=
  let running := (s.launches.filter (fun l => l.petal == p)).foldl (fun a l =>
    match l.started with
    | some t => a + l.cores.length * (s.elapsed.toNat - t.toNat)
    | none => a) 0
  plainFields s kPtl p 5 ++ [countVal s kPtl p 5 + running] ++ [6, 7, 8].map (countVal s kPtl p)

/-- The fields of a group in offset order, gauges included (R160, R184, R215, R242, R285, R337, R391, R419, R435, R444, R472, R507,
R517). -/
def groupFields (s : State) (kind inst : Nat) : List Nat :=
  match kind with
  | 0x01 => memPetalFields s inst
  | 0x02 => memUnitFields s inst
  | 0x03 => plainFields s kLch inst 8 ++ [((getPetal s inst).map (fun x => x.images.length)).getD 0]
  | 0x04 => plainFields s kCol inst 8
  | 0x05 => plainFields s kAtn inst 8 ++ ((look s.ctxs inst).map (atnGauges s)).getD []
  | 0x06 => ptlFields s inst
  | 0x07 => plainFields s kPort inst 10
  | 0x08 => plainFields s kNetPort inst 18
  | 0x09 => plainFields s kNetQueue inst 3
  | 0x0A => plainFields s kPrsRule inst 2
  | 0x0B => plainFields s kNetLimiter inst 3
  | 0x0C => plainFields s kRdm inst 16
  | 0x0D => plainFields s kSyn inst 9 ++
      [((getPetal s inst).map (fun x => x.lastBlocked.toNat)).getD 0, ((getPetal s inst).map (fun x => x.watches.length)).getD 0]
  | 0x0E => irqFields s inst
  | 0x0F => plainFields s kSynDev 0 4 ++ [watchTotal s]
  | 0x10 => plainFields s kCph inst 8
  | 0x11 => pwrFields s inst
  | 0x12 => energyFields s inst
  | 0x13 => inputFields s
  | _ => []

/-- R258: the header and the fields. -/
def snapshotBytes (s : State) (kind inst : Nat) : List Byte :=
  let f := groupFields s kind inst
  let w := b2n (lookD s.wrapped (grpKey kind inst) false)
  leBytes 4 (kind + f.length * 2 ^ 8 + w * 2 ^ 16) ++ leBytes 4 inst ++ leBytes 8 s.elapsed.toNat ++ leBytes 8 s.devArea.epoch ++
    zeros 40 ++ f.flatMap (leBytes 8)

/-- The petal into which a page's snapshots go: its own, or the control petal (R257). -/
def snapshotPetal (s : State) (g : Nat) : Option Nat := if g = devPage then controlPetal s else some g

/-- R257, check 4: the petal that the copy goes to. -/
def snapshotTarget (s : State) (g a n : Nat) : Option Nat :=
  match snapshotPetal s g with
  | some p => if a % 64 = 0 ∧ ((getPetal s p).map (fun x => pdaInside x a n)).getD false = true ∧ keyPresent s p = true then some p else none
  | none => none

def cmdCounterSnapshot : Cmd :=
  ⟨0x0012, .any, true, 0x20, false, [(0x10, 0, 8), (0x10, 31, 1), (0x14, 0, 32), (0x18, 0, 48)], noObj⟩
def bodyCounterSnapshot (m : Mbx) (s : State) : State × Ans :=
  let s := fresh s
  let kind := mf m 0x10 0 8
  let inst := mf m 0x14 0 32
  if groupDefined kind = false then (s, ansErr stNotFound dtGroupUnknown)
  else if groupReadable m.page.val kind inst = false then (s, ansErr stNotPermitted dtGroupDenied)
  else if groupExists s kind inst = false then (s, ansErr stNotFound dtGroupUnknown)
  else
    let copy := snapshotBytes s kind inst
    match snapshotTarget s m.page.val (mf m 0x18 0 48) copy.length with
    | none => (s, ansErr stNotPermitted dtSnapshotPda)
    | some p =>
      let s := memPut s p (mf m 0x18 0 48) copy
      (if mf m 0x10 31 1 = 1 then { s with wrapped := del s.wrapped (grpKey kind inst) } else s, .reply (replyData s.elapsed.toNat 8))
/-- COUNTER_SNAPSHOT (R257, R258). -/
def execCounterSnapshot (m : Mbx) (s : State) : Host.Outcome State Fault Refusal :=
  .next (mailbox cmdCounterSnapshot bodyCounterSnapshot m s)

end Sys2Proof.Machine
end

