-- ==== Sys2Proof/Machine/Late.lean ====
section
/-!
DEFINITION. The table of every mailbox command by opcode (R308), the doorbell of a page whose request area stands as written, and the
late records of commands that answered PENDING (R296).
-/

namespace Sys2Proof.Machine

/-- What a command does once the checks of R295 have passed. -/
abbrev Meaning := Mbx → State → State × Ans

/-- Family 0x00xx (R308). -/
def tableSession : List (Cmd × Meaning) :=
  [(cmdHostHello, bodyHostHello), (cmdIdentify, bodyIdentify), (cmdLeaseRenew, bodyLeaseRenew),
   (cmdHostGoodbye, bodyHostGoodbye), (cmdEpochCommit, bodyEpochCommit), (cmdEpochDiscard, bodyEpochDiscard),
   (cmdCounterSnapshot, bodyCounterSnapshot), (cmdMsixAssign, bodyMsixAssign), (cmdSynRead, bodySynRead),
   (cmdSynAdd, bodySynAdd), (cmdSynWatchSet, bodySynWatchSet), (cmdSynWatchCancel, bodySynWatchCancel)]

/-- Family 0x01xx (R308). -/
def tablePetals : List (Cmd × Meaning) :=
  [(cmdCreatePetal, bodyCreatePetal), (cmdResizePetal, bodyResizePetal), (cmdQuiescePetal, bodyQuiescePetal),
   (cmdEnablePetal, bodyEnablePetal), (cmdResetPetal, bodyResetPetal), (cmdDestroyPetal, bodyDestroyPetal),
   (cmdQueryPetal, bodyQueryPetal), (cmdBindPetal, bodyBindPetal), (cmdAcceptBinding, bodyAcceptBinding),
   (cmdSetShares, bodySetShares)]

/-- Family 0x02xx (R308). -/
def tableMemory : List (Cmd × Meaning) :=
  [(cmdWinGrant, bodyWinGrant), (cmdWinMap, bodyWinMap), (cmdWinQuery, bodyWinQuery), (cmdMemPin, bodyMemPin),
   (cmdMemPolicySet, bodyMemPolicySet), (cmdMemPolicyGet, bodyMemPolicyGet), (cmdMemScrubSet, bodyMemScrubSet)]

/-- Family 0x03xx (R308). -/
def tableKernels : List (Cmd × Meaning) :=
  [(cmdImageRegister, bodyImageRegister), (cmdImageRelease, bodyImageRelease), (cmdQueueCreate, bodyQueueCreate),
   (cmdQueueDestroy, bodyQueueDestroy), (cmdLchAbort, bodyLchAbort)]

/-- Family 0x04xx (R308). -/
def tableCollectives : List (Cmd × Meaning) :=
  [(cmdCommCreate, bodyCommCreate), (cmdCommDestroy, bodyCommDestroy), (cmdColAbort, bodyColAbort)]

/-- Family 0x05xx (R308). -/
def tableAttention : List (Cmd × Meaning) :=
  [(cmdAtnCtxCreate, bodyAtnCtxCreate), (cmdAtnCtxDestroy, bodyAtnCtxDestroy), (cmdAtnRingCreate, bodyAtnRingCreate),
   (cmdAtnRingDestroy, bodyAtnRingDestroy), (cmdAtnSeqCreate, bodyAtnSeqCreate), (cmdAtnSeqDestroy, bodyAtnSeqDestroy),
   (cmdAtnAbort, bodyAtnAbort)]

/-- Family 0x06xx (R308). -/
def tableScroll : List (Cmd × Meaning) :=
  [(cmdSclQpCreate, bodySclQpCreate), (cmdSclQpDestroy, bodySclQpDestroy), (cmdSclVolCreate, bodySclVolCreate),
   (cmdSclVolDestroy, bodySclVolDestroy), (cmdSclAbort, bodySclAbort), (cmdSclGetLog, bodySclGetLog),
   (cmdSclRestart, bodySclRestart), (cmdSclSelfTest, bodySclSelfTest), (cmdSclIdentify, bodySclIdentify)]

/-- Family 0x07xx (R308). -/
def tableNetwork : List (Cmd × Meaning) :=
  [(cmdNetPortMode, bodyNetPortMode), (cmdNetPortSet, bodyNetPortSet), (cmdNetPortQuery, bodyNetPortQuery),
   (cmdPrsRuleSet, bodyPrsRuleSet), (cmdPrsRangeSet, bodyPrsRangeSet), (cmdPrsRuleGet, bodyPrsRuleGet),
   (cmdSchQueueSet, bodySchQueueSet), (cmdSchGateSet, bodySchGateSet), (cmdSchLimiterSet, bodySchLimiterSet),
   (cmdRdmAddrSet, bodyRdmAddrSet), (cmdRdmLabelSet, bodyRdmLabelSet), (cmdRdmCqCreate, bodyRdmCqCreate),
   (cmdRdmCqDestroy, bodyRdmCqDestroy), (cmdRdmQpCreate, bodyRdmQpCreate), (cmdRdmQpConnect, bodyRdmQpConnect),
   (cmdRdmQpDestroy, bodyRdmQpDestroy), (cmdRdmQpQuery, bodyRdmQpQuery), (cmdRdmMrReg, bodyRdmMrReg),
   (cmdRdmMrDereg, bodyRdmMrDereg)]

/-- Family 0x08xx (R308). -/
def tableKeys : List (Cmd × Meaning) :=
  [(cmdKeyAttest, bodyKeyAttest), (cmdKeyCert, bodyKeyCert), (cmdKeyInject, bodyKeyInject),
   (cmdKeySessionClose, bodyKeySessionClose), (cmdKeyDestroy, bodyKeyDestroy), (cmdKeyQuery, bodyKeyQuery),
   (cmdCphQueueCreate, bodyCphQueueCreate), (cmdCphQueueDestroy, bodyCphQueueDestroy), (cmdCphAbort, bodyCphAbort)]

/-- Family 0x09xx (R308). -/
def tablePower : List (Cmd × Meaning) :=
  [(cmdPwrRateSet, bodyPwrRateSet), (cmdPwrLevelSet, bodyPwrLevelSet), (cmdPwrQuery, bodyPwrQuery)]

/-- Family 0x0Axx (R308). -/
def tableManagement : List (Cmd × Meaning) :=
  [(cmdMgtLogRead, bodyMgtLogRead), (cmdMgtCalRead, bodyMgtCalRead), (cmdMgtCalWrite, bodyMgtCalWrite),
   (cmdMgtUpdateStage, bodyMgtUpdateStage), (cmdMgtUpdateActivate, bodyMgtUpdateActivate),
   (cmdMgtSensorRead, bodyMgtSensorRead), (cmdMgtAlertClear, bodyMgtAlertClear),
   (cmdMgtOutputStatus, bodyMgtOutputStatus), (cmdMgtModuleReset, bodyMgtModuleReset)]

/-- Family 0x0Bxx (R308). -/
def tableDebug : List (Cmd × Meaning) :=
  [(cmdDbgChallenge, bodyDbgChallenge), (cmdDbgAuthLoad, bodyDbgAuthLoad), (cmdDbgOpen, bodyDbgOpen),
   (cmdDbgClose, bodyDbgClose), (cmdDbgQuery, bodyDbgQuery), (cmdDbgNib, bodyDbgNib), (cmdDbgNibRead, bodyDbgNibRead),
   (cmdDbgScratchRead, bodyDbgScratchRead), (cmdDbgFwRead, bodyDbgFwRead), (cmdSynDebugSet, bodySynDebugSet),
   (cmdLifecycleRetire, bodyLifecycleRetire), (cmdDbgOperatorKeySet, bodyDbgOperatorKeySet)]

/-- R308: the commands by opcode. -/
def mbxTable : List (Cmd × Meaning) :=
  tableSession ++ tablePetals ++ tableMemory ++ tableKernels ++ tableCollectives ++ tableAttention ++ tableScroll ++ tableNetwork ++ tableKeys ++ tablePower ++ tableManagement ++ tableDebug

/-- The command of an opcode. -/
def findCommand (opcode : Nat) : Option (Cmd × Meaning) := mbxTable.find? (fun e => e.1.opcode == opcode)

/-- R294: a write to a page's doorbell: the command that its request area holds is served. -/
def ring (page : PageId) (s : State) : State :=
  let r := mbxOf page (getPage s page.val).req
  if pageAnswers s page.val = false then s
  else
    match findCommand r.1 with
    | some e => doorbell e.1 e.2 r.2 s
    | none => undefinedOpcode r.2 s

/-! ### LATE_RECORD_POST (R296) -/

/-- The opcode of MGT_UPDATE_STAGE, whose late record ends the update (R526). -/
def opUpdateStage : Nat := 0x0A20

/-- A pending request as it was taken. -/
def pendMbx (page : PageId) (q : Pend) : Mbx := ⟨page, q.irq, BitVec.ofNat 13 q.tag, BitVec.ofNat 16 q.length, 0, q.payload⟩

/-- R297: does an earlier command of the page that is still in progress hold the object of q? -/
def earlierHolds (pg : MPage) (q : Pend) : Bool :=
  q.obj.isSome && (pg.pends.takeWhile (fun x => x.slot != q.slot)).any (fun x => x.obj == q.obj && holdsObj x)

/-- A pending command acts again: its outcome is posted, or it goes on waiting. -/
def rerun (s : State) (page : PageId) (q : Pend) : State :=
  let setWhy (s : State) (why : PendWhy) (r : Option Reply) : State :=
    setPage s page.val { getPage s page.val with
      pends := (getPage s page.val).pends.map (fun x => if x.slot = q.slot then { x with why := why, outcome := r } else x) }
  match findCommand q.opcode with
  | none => s
  | some e =>
    match e.2 (pendMbx page q) s with
    | (s', .reply r) => postLate s' page.val q r
    | (s', .pend why) => if why = q.why then s else setWhy s' why none
    | (s', .late why r) => setWhy s' why (some r)

/-- R524, R526: the update that a MGT_UPDATE_STAGE began ends. -/
def postUpdate (s : State) (page : PageId) (q : Pend) : State :=
  match q.outcome, endUpdate s with
  | some r, (s', _) => postLate s' page.val q r
  | none, (s', some e) => postLate s' page.val q (replyErr e.1 e.2)
  | none, (s', none) => postLate s' page.val q replyOk

/-- R296: what a pending command waits for may have come: its outcome is posted, or nothing changes. `a` is the answer of a volume's
targets where the command waits for them. -/
def latePost (s : State) (page : PageId) (q : Pend) (a : Backing) : State :=
  if q.opcode = opUpdateStage ∧ q.why ≠ .deferred then postUpdate s page q
  else
    match q.outcome with
    | some r => postLate s page.val q r
    | none =>
      match q.why with
      | .backing p n =>
        let r := settleVol (fresh s) p n (sf q.payload 0x10 8 1 == 1) a
        postLate r.1 page.val q r.2
      | .fill => rerun s page q
      | .again => rerun s page q
      | .deferred => if earlierHolds (getPage s page.val) q then s else rerun s page q
      | _ => s

/-- LATE_RECORD_POST (R296): the command that holds a late slot of a page. -/
def execLateRecordPost (page : PageId) (slot : Fin 16) (a : Backing) (s : State) : Host.Outcome State Fault Refusal :=
  .next (match (getPage s page.val).pends.find? (fun q => q.slot == slot.val) with
    | some q => latePost s page q a
    | none => s)

end Sys2Proof.Machine
end

