-- ==== Sys2Proof/Machine/Hfi.lean ====
section
/-!
DEFINITION. BAR0 with its registers (R286 to R291), the writes to registers that have no row of their own (R2), and the requests to
PF0's BARs (R317 to R319).
-/

namespace Sys2Proof.Machine

/-! ### Values of the device page (R288, R289) -/

/-- R289: HFI_STATUS. -/
def hfiStatus (s : State) : Nat :=
  b2n s.ready + b2n s.board.slot * 2 + b2n (s.board.stage == .recovery) * 2 ^ 2 + b2n (degraded s) * 2 ^ 3 +
    s.pwr.module % 8 * 2 ^ 4 + s.sec.lifecycle.code * 2 ^ 8

/-- R288: the registers below the operator mailbox block. -/
def deviceReg (s : State) (off : Nat) : Option Nat :=
  match off with
  | 0x00 => some 0x46483159
  | 0x04 => some hfiVersion
  | 0x08 => some (fwBuild s).toNat
  | 0x0C => some (hfiStatus s)
  | 0x10 => some (Config.serial.toNat % 2 ^ 32)
  | 0x14 => some (Config.serial.toNat / 2 ^ 32)
  | 0x18 => some s.petals.length
  | _ => none

/-! ### Values of a petal page and of the operator mailbox block (R290, R291) -/

/-- R291: PTL_MBX_STATUS. -/
def mbxStatus (pg : MPage) : Nat :=
  pg.done.toNat + b2n pg.busy * 2 ^ 16 + b2n pg.overrun * 2 ^ 17 + pg.session.toNat * 2 ^ 18 +
    b2n ((List.range 16).any (holdsRecord pg)) * 2 ^ 20

/-- R290: PTL_LEASE_STATE; it reads 0 before any renewal. -/
def leaseState (s : State) (pg : MPage) : Nat :=
  (if pg.sessId = 0 then 0 else min 65535 ((s.elapsed.toNat - pg.lastRenew.toNat) / 100000)) + min 65535 pg.lateRenewals * 2 ^ 16

/-- R168: the four doorbell registers of a ring. -/
def ringReg (r : Ring) (i : Nat) : Nat :=
  match i with
  | 0 => r.sqTail
  | 1 => r.sqHead
  | 2 => r.cqHead
  | _ => r.cqTail

/-- The doorbell registers of a ring that may not exist; they then read 0. -/
def ringReg? (r : Option Ring) (off : Nat) : Nat := (r.map (fun x => ringReg x (off % 16 / 4))).getD 0

/-- R290: what a register of a petal page, or of the operator mailbox block (page 512), reads as; none at an offset without one. -/
def pageReg (s : State) (g off : Nat) : Option Nat :=
  let pg := getPage s g
  if off = 0x800 ∨ off = 0x808 ∨ off = 0xF00 then some 0
  else if off = 0x804 then some (mbxStatus pg)
  else if off = 0xF04 then some (leaseState s pg)
  else if g = devPage then none
  else if 0x1000 ≤ off ∧ off < 0x1400 then some (ringReg? (getQueue s g ((off - 0x1000) / 16)) off)
  else if off = 0x2000 then some 0
  else if off = 0x2004 then some (lookD s.sclIgnored g 0)
  else if 0x3000 ≤ off ∧ off < 0x3400 then some (ringReg? ((getComm s g ((off - 0x3000) / 16)).map (·.ring)) off)
  else if 0x4000 ≤ off ∧ off < 0x5000 then
    some (ringReg? (((getCtx s g ((off - 0x4000) / 256)).bind (fun c => look c.rings ((off - 0x4000) / 16 % 16))).map (·.ring)) off)
  else if 0x5000 ≤ off ∧ off < 0x5400 then some (ringReg? ((getCph s g ((off - 0x5000) / 16)).map (·.ring)) off)
  else if off = 0x6000 ∨ off = 0x6004 ∨ off = 0x6008 then some 0
  else if off = 0x600C then some (lookD s.rdma.ignored g 0)
  else none

/-- R290: the areas from 0x0000 to 0x07FF: request, response, late slots, late data. -/
def areaImage (pg : MPage) : List Byte :=
  leBytes 256 pg.req.toNat ++ leBytes 256 pg.rsp.toNat ++
    (List.range 16).flatMap (fun k => leBytes 32 (lookD pg.late k 0).toNat) ++
    (List.range 16).flatMap (fun k => leBytes 64 (lookD pg.lateData k 0).toNat)

/-- R287: bytes written to the areas: those of the request area are kept, the others discarded. -/
def areaWrite (pg : MPage) (off : Nat) (bs : List Byte) : MPage :=
  let kept := bs.take (256 - off)
  { pg with req := BitVec.ofNat 2048 (setBits pg.req.toNat (8 * off) (8 * kept.length) (leNat kept)) }

/-! ### Register writes (R2, R290) -/

/-- R2, R291: PTL_MBX_STATUS: a 1 clears overrun. -/
def statusWrite (s : State) (g v : Nat) : State :=
  if bitAt v 17 then setPage s g { getPage s g with overrun := false } else s

/-- A write to a ring's doorbell registers: +0x0 takes the tail, +0x8 the completion head; the other two are read-only (R168). -/
def ringWrite (off : Nat) (tail head : State → State) (s : State) : State :=
  if off % 16 = 0 then tail s else if off % 16 = 8 then head s else s

/-- A write to a doorbell register of a petal page. -/
def doorbellWrite (p : PetalId) (off : Nat) (v : W32) (s : State) : State :=
  let i64 : Fin 64 := Fin.ofNat 64 (off / 16)
  let i16 : Fin 16 := Fin.ofNat 16 (off / 16)
  let c16 : Fin 16 := Fin.ofNat 16 (off / 256)
  if 0x1000 ≤ off ∧ off < 0x1400 then ringWrite off (lchSqTail p i64 v) (lchCqHead p i64 v) s
  else if off = 0x2000 then
    (if bitAt v.toNat 12 then sclDbCqHead p (v.extractLsb' 0 12) (v.extractLsb' 13 3) (v.extractLsb' 16 16) s
     else sclDbSqTail p (v.extractLsb' 0 12) (v.extractLsb' 13 3) (v.extractLsb' 16 16) s)
  else if 0x3000 ≤ off ∧ off < 0x3400 then ringWrite off (colSqTail p i64 v) (colCqHead p i64 v) s
  else if 0x4000 ≤ off ∧ off < 0x5000 then ringWrite off (atnSqTail p c16 i16 v) (atnCqHead p c16 i16 v) s
  else if 0x5000 ≤ off ∧ off < 0x5400 then ringWrite off (cphSqTail p i64 v) (cphCqHead p i64 v) s
  else if off = 0x6000 then rdmSqDb p v s
  else if off = 0x6004 then rdmRqDb p v s
  else if off = 0x6008 then rdmCqDb p v s
  else s

/-- R290: a 4-byte write at an offset of a petal page, or of the operator mailbox block; where no register is, or a read-only one, it is
ignored. -/
def pageRegWrite (page : PageId) (off : Nat) (v : W32) (s : State) : State :=
  let g := page.val
  if off = 0x800 then ring page s
  else if off = 0x804 then statusWrite s g v.toNat
  else if off = 0x808 then lateAck s g (bitsOf v.toNat 0 4)
  else if off = 0xF00 then leaseWrite s g v
  else if h : g < 512 then doorbellWrite ⟨g, h⟩ off v s
  else s

/-- R286: the page of a BAR0 offset, and the offset in it. Device registers and the device page's reserved ranges have none. -/
def pageAt (o : Nat) : Option (PageId × Nat) :=
  if 0x1000 ≤ o ∧ o < 0x2000 then some (⟨512, by decide⟩, o - 0x1000)
  else if 0x100000 ≤ o ∧ o < 0x2100000 then some (Fin.ofNat 513 ((o - 0x100000) / 0x10000), o % 0x10000)
  else none

/-- A write to BAR0 as a register write: the areas take its four bytes. -/
def bar0Write (o : Nat) (v : W32) (s : State) : State :=
  match pageAt o with
  | none => s
  | some (g, off) =>
    if pageAnswers s g.val = false then s
    else
      let s := settleLease s g.val
      if off < 0x800 then setPage s g.val (areaWrite (getPage s g.val) off (leBytes 4 v.toNat))
      else if off % 4 = 0 then pageRegWrite g off v s
      else s

/-! ### The interrupt controller's registers (R437) -/

/-- R437: the processor's registers: threshold, end of service and the RW1C fault register; claim and stack are read-only. -/
def procWrite (k off : Nat) (v : W32) (s : State) : Option State :=
  match off with
  | 0x0 => some (setProc s k { getProc s k with threshold := bitsOf v.toNat 0 4 })
  | 0x4 => some s
  | 0x8 => some (endService s k (bitsOf v.toNat 0 12))
  | 0xC => some s
  | 0x10 => some (setProc s k { getProc s k with pfault := (getProc s k).pfault &&& ~~~v })
  | _ => none

/-- R437: a write at an offset from the controller's base; none where it has no register. -/
def hubWrite (o : Nat) (v : W32) (s : State) : Option State :=
  if o = 0 then some (raiseWrite s v)
  else if 0x1000 ≤ o ∧ o < 0x1000 + 0x40 * 65 then procWrite ((o - 0x1000) / 0x40) (o % 0x40) v s
  else if 0x10000 ≤ o ∧ o < 0x18000 ∧ o % 8 = 0 then some (configSource s ((o - 0x10000) / 8) v)
  else if 0x10000 ≤ o ∧ o < 0x18000 ∧ o % 8 = 4 then some s
  else none

/-! ### PF0's configuration (R314, R316, R322, R324, R327) -/

/-- R305: the pending messages of vectors that nothing masks or withholds any more are sent. -/
def retryMsix (s : State) : State :=
  ((s.msixPend.filter (fun e => e.2)).map (·.1)).foldl (fun s v => sendMsix { s with msixPend := del s.msixPend v } v) s

/-- R316: the writable bits of a BAR. -/
def barWrite (s : State) (i : Nat) (v : W32) : State :=
  match i with
  | 0 => { s with pcie := { s.pcie with bar0 := v &&& 0xFC000000 } }
  | 3 => { s with pcie := { s.pcie with bar2 := BitVec.ofNat 64 (v.toNat / 2 ^ 9 * 2 ^ 41) } }
  | 4 => { s with pcie := { s.pcie with bar4 := v &&& 0xFFFF0000 } }
  | _ => s

/-- A write to a configuration register of PF0, laid out as the PCI Express specification has it. -/
def pf0Write (r : Pf0Reg) (v : W32) (s : State) : State :=
  let w := v.toNat
  match r with
  | .command => retryMsix { s with busMaster := bitAt w 2, pcie := { s.pcie with memSpace := bitAt w 1 } }
  | .bar i => barWrite s i.val v
  | .msixControl => retryMsix { s with pcie := { s.pcie with msixEnable := bitAt w 15, msixMask := bitAt w 14 } }
  | .atsControl => { s with pcie := { s.pcie with ats := bitAt w 15, atc := if bitAt w 15 then s.pcie.atc else [] } }
  | .pasidControl => { s with pcie := { s.pcie with pasidOn := bitAt w 0 } }
  | .deviceControl => if bitAt w 15 then flrEffects s else s
  | .deviceControl2 => { s with pcie := { s.pcie with cto := BitVec.ofNat 4 (bitsOf w 0 4) } }
  | .aerStatus => if bitAt w 13 then { s with pcie := { s.pcie with aer := 0 } } else s

/-! ### The configuration of a switch port (R302, R326, R328 to R333, R336) -/

/-- R330: Power Controller Control takes a value. -/
def powerControl (s : State) (i : Nat) (off : Bool) : State :=
  let x := (swPort s i).slot
  if off && !x.pcc then
    modSlot (downLink s i) i (fun x => { x with pcc := true, perst := true, offAt := if x.pwren then some (x.offAt.getD s.elapsed) else none })
  else if !off && x.pcc then setCc (modSlot s i powerSlot) i
  else s

/-- Slot Control: enables, In-Band PD Disable, indicators and power. -/
def slotControl (s : State) (i w : Nat) : State :=
  let s := modSlot s i (fun x =>
    { x with abpEn := bitAt w 0, pdcEn := bitAt w 3, ccEn := bitAt w 4, hpie := bitAt w 5, dllscEn := bitAt w 12 })
  let s := slotPins s i { (swPort s i).slot with inBandOff := bitAt w 14 }
  powerControl (setIndicators s i (BitVec.ofNat 2 (bitsOf w 6 2)) (BitVec.ofNat 2 (bitsOf w 8 2))) i (bitAt w 10)

/-- Slot Status: a 1 clears Attention Button Pressed, Presence Detect Changed, Command Completed and Data Link Layer State Changed. -/
def slotStatus (s : State) (i w : Nat) : State :=
  modSlot s i (fun x =>
    { x with abp := x.abp && !bitAt w 0, pdc := x.pdc && !bitAt w 3, cc := x.cc && !bitAt w 4, dllsc := x.dllsc && !bitAt w 8 })

/-- A write to a register that downstream ports alone have. -/
def downstreamWrite (i : Nat) (r : PortReg) (v : W32) (s : State) : State :=
  let w := v.toNat
  match r with
  | .bridgeControl => if bitAt w 6 then downLink s i else s
  | .acsControl => modSwPort s i (fun x => { x with acs := BitVec.ofNat 7 (bitsOf w 0 7) })
  | .slotControl => slotControl s i w
  | .slotStatus => slotStatus s i w
  | .slotHealth => if bitAt w 1 then rearmSlot s i else s
  | _ => s

/-- A write to a configuration register of port i, laid out as the PCI Express specification has it, or of R336. -/
def portWrite (i : Nat) (r : PortReg) (v : W32) (s : State) : State :=
  let w := v.toNat
  match r with
  | .command => modSwPort s i (fun x => { x with memOn := bitAt w 1 })
  | .memWindow => modSwPort s i (fun x => { x with memWin := v &&& 0xFFF0FFF0 })
  | .pfWindow => modSwPort s i (fun x => { x with pfWin := v &&& 0xFFF0FFF0 })
  | .pfBaseHi => modSwPort s i (fun x => { x with pfBaseHi := v })
  | .pfLimitHi => modSwPort s i (fun x => { x with pfLimitHi := v })
  | .linkControl => modSwPort s i (fun x => { x with aspmL1 := bitAt w 1 })
  | .l1Control => modSwPort s i (fun x => { x with l12En := bitAt w 2, l11En := bitAt w 3 })
  | .deviceControl3 => modSwPort s i (fun x => { x with l0pEn := bitAt w 3 })
  | .aerStatus => if bitAt w 13 then modSwPort s i (fun x => { x with aer := 0 }) else s
  | .lanes => s
  | .polarity => s
  | r => if i = 0 then s else downstreamWrite i r v s

/-- R336: HFI_PORT_LANES, HFI_PORT_POLARITY and HFI_SLOT_HEALTH as they read. -/
def lanesReg (x : SwPort) : Nat := x.laneFault.toNat + b2n x.reversed * 2 ^ 16
def polarityReg (x : SwPort) : Nat := x.polarity.toNat
def slotHealthReg (s : State) (i : Nat) : Nat :=
  if i = 0 then 0
  else b2n (swPort s i).slot.unstable + min 31 (recentChanges s (swPort s i).slot).length * 2 ^ 8

/-- R326, R327: is a configuration request answered with Request Retry Status? -/
def configRetry (s : State) (pf0 : Bool) : Bool := s.pcie.retry && (pf0 || s.pcie.flr.isNone)

/-- A configuration write arrives over the upstream link. -/
def configWrite (s : State) (pf0 : Bool) (f : State → State) : State :=
  if (swPort s 0).up = false then s
  else
    let s := leaveL1 (awake s) 0
    if configRetry s pf0 then { s with sent := s.sent ++ [.completion 2 false []] } else f s

/-- REGISTER_WRITE (R2): a 32-bit write to a register. -/
def execRegisterWrite (r : Reg) (v : W32) (s : State) : Host.Outcome State Fault Refusal :=
  match r with
  | .bar0 o => .next (bar0Write o.toNat v (awake s))
  | .hub o =>
    match hubWrite o.toNat v s with
    | some t => .next t
    | none => .fault .noSuchRegister
  | .pf0 r => .next (configWrite s true (pf0Write r v))
  | .port i r => .next (configWrite s false (portWrite i.val r v))

/-! ### Requests to PF0 (R287, R317 to R319) -/

/-- R273: the requester ID and PASID of a request as bindings hold them. -/
def tlpTriple (t : Tlp) : Nat :=
  t.requester.toNat + (match t.pasid with | some q => 2 ^ 36 + q.toNat * 2 ^ 16 | none => 0)

/-- R273: does a request match a binding of a petal in force? -/
def tlpMatches (x : Petal) (t : Tlp) : Bool := x.bindings.any (fun b => bindValid b.toNat && bindTriple b.toNat == tlpTriple t)

/-- R319: the petal whose binding a request matches. -/
def tlpPetal (s : State) (t : Tlp) : Option Nat := (s.petals.find? (fun e => tlpMatches e.2 t)).map (·.1)

/-- The bytes that a request reads or writes. -/
def tlpLen (t : Tlp) : Nat := match t.op with | .read n => n.val | .write l => l.length

/-- R318: a request is refused with Unsupported Request, or with Completer Abort: it is logged in AER and counted at its port. -/
def refuse (s : State) (t : Tlp) (abort : Bool) : State :=
  let s := count (aerPf0 s) kPort t.port.val (if abort then 3 else 2) 1
  match t.op with
  | .read _ => { s with sent := s.sent ++ [.completion (if abort then 4 else 1) false []] }
  | .write _ => s

/-- A read is completed with data. -/
def complete (s : State) (t : Tlp) (data : List Byte) : State :=
  let s := count s kPort t.port.val 1 data.length
  { s with sent := s.sent ++ [.completion 0 false data] }

/-- R285: payload bytes charged to a petal. -/
def chargeTlp (s : State) (p : Nat) (t : Tlp) : State :=
  match t.op with
  | .read n => count s kPtl p 1 n.val
  | .write l => count s kPtl p 0 l.length

/-- R337: payload bytes that a port receives. -/
def receiveTlp (s : State) (t : Tlp) : State :=
  let s := leaveL1 s t.port.val
  match t.op with
  | .read _ => s
  | .write l => count s kPort t.port.val 0 l.length

/-- The dwords that an access touches. -/
def dwordsOf (off n : Nat) : List Nat := if n = 0 then [] else (List.range ((off + n - 1) / 4 + 1 - off / 4)).map (fun i => (off / 4 + i) * 4)

/-- R287: the registers that an access reaches: an aligned one of 4 bytes, or of 8 that covers two. -/
def regAccess (isReg : Nat → Bool) (off n : Nat) : Option (List Nat) :=
  if n = 4 ∧ off % 4 = 0 then some [off]
  else if n = 8 ∧ off % 8 = 0 ∧ isReg off = true ∧ isReg (off + 4) = true then some [off, off + 4]
  else none

/-- R287: a malformed access is counted where it touches a register. -/
def countMalformed (isReg : Nat → Bool) (g off n : Nat) (s : State) : State :=
  if (dwordsOf off n).any isReg then setPage s g { getPage s g with malformed := (getPage s g).malformed + 1 } else s

/-- R287: an access to registers: `val` reads one, `wr` writes one, and `g` is the page whose malformed accesses are counted. -/
def regTlp (val : State → Nat → Option Nat) (wr : Nat → W32 → State → State) (g off : Nat) (t : Tlp) (s : State) : State :=
  let isReg := fun o => (val s o).isSome
  match regAccess isReg off (tlpLen t), t.op with
  | some l, .read _ => complete s t (l.flatMap (fun o => leBytes 4 ((val s o).getD 0)))
  | some l, .write bs => l.foldl (fun s o => wr o (BitVec.ofNat 32 (leNat ((bs.drop (o - off)).take 4))) s) s
  | none, .read n => complete (countMalformed isReg g off n.val s) t (zeros n.val)
  | none, .write bs => countMalformed isReg g off bs.length s

/-- R287: an access to a page: its areas take any size and alignment, its registers do not. -/
def pageTlp (page : PageId) (off : Nat) (t : Tlp) (s : State) : State :=
  let s := settleLease s page.val
  if off + tlpLen t ≤ 0x800 then
    match t.op with
    | .read n => complete s t (((areaImage (getPage s page.val)).drop off).take n.val)
    | .write bs => setPage s page.val (areaWrite (getPage s page.val) off bs)
  else regTlp (fun s o => pageReg s page.val o) (pageRegWrite page) page.val off t s

/-- R287, R273, R533: may a request reach a page? -/
def pageOpen (s : State) (page : PageId) (t : Tlp) : Bool :=
  if page.val = devPage then decide (t.port.val = 0) && t.pasid.isNone
  else pageAnswers s page.val && ((getPetal s page.val).map (fun x => tlpMatches x t)).getD false

/-- R501: at W2 and W3 the always-on domain answers reads of device-page registers, PTL_MBX_STATUS and PTL_LEASE_STATE, and writes to
PTL_LEASE_RENEW without a wake. -/
def quietBar0 (s : State) (o : Nat) (t : Tlp) : Bool :=
  (s.pwr.module == 2 || s.pwr.module == 3) &&
    (match t.op, pageAt o with
     | .read _, none => decide (o < 0x1C)
     | .read _, some (_, off) => off == 0x804 || off == 0xF04
     | .write _, some (_, off) => off == 0xF00
     | .write _, none => false)

/-- R286 to R288: a request to BAR0. -/
def bar0Tlp (o : Nat) (t : Tlp) (s : State) : State :=
  if s.pcie.memSpace = false then refuse s t false
  else
    match pageAt o with
    | some (g, off) =>
      if pageOpen s g t = false then refuse s t false
      else pageTlp g off t (if g.val = devPage then s else chargeTlp s g.val t)
    | none =>
      if 0x10000 ≤ o then (match t.op with | .read n => complete s t (zeros n.val) | .write _ => s)
      else if t.port.val ≠ 0 ∨ t.pasid.isSome = true then refuse s t false
      else regTlp deviceReg (fun _ _ s => s) devPage o t s
/-- BAR0_REQUEST (R287, R318). -/
def execBar0Request (t : Tlp) (o : BitVec 26) (s : State) : Host.Outcome State Fault Refusal :=
  .next (if (swPort s t.port.val).up then bar0Tlp o.toNat t (receiveTlp (if quietBar0 s o.toNat t then s else awake s) t) else s)

/-! ### BAR2 (R317, R318) -/

/-- R318: the first row that refuses a BAR2 request: false Unsupported Request, true Completer Abort. -/
def bar2Refusal (s : State) (o : Nat) (t : Tlp) : Option Bool :=
  let w := windowOf s (o / 2 ^ 32)
  let e := w.entry.toNat
  match getPetal s w.owner with
  | none => some false
  | some x =>
    if s.pcie.memSpace = false ∨ s.board.stage = .recovery then some false
    else if tlpMatches x t = false ∨ bitAt e 18 = false then some false
    else if (match t.op with | .read _ => bitAt e 16 | .write _ => bitAt e 17) = false then some true
    else if pdaInside x (bitsOf e 0 16 * 2 ^ 32 + o % 2 ^ 32) (tlpLen t) = false then some true
    else if keyPresent s w.owner = false then some true
    else none

/-- R317: the petal and the PDA of a BAR2 offset. -/
def bar2Place (s : State) (o : Nat) : Nat × Nat :=
  let w := windowOf s (o / 2 ^ 32)
  (w.owner, bitsOf w.entry.toNat 0 16 * 2 ^ 32 + o % 2 ^ 32)

/-- R318: the lines of a write that poison discards: those that it covers in part. -/
def discarded (s : State) (p a : Nat) (bs : List Byte) : Nat :=
  ((linePieces a bs).filter (fun e => look s.poison (memKey p e.1 / 64) == some true && decide (e.2.length < 64))).length

/-- R318: a request that passes every check is served: a read that meets a poisoned line completes with EP and without data; a partial
write to a poisoned line is discarded and counted. -/
def bar2Serve (s : State) (o : Nat) (t : Tlp) : State :=
  let w := bar2Place s o
  let s := chargeTlp s w.1 t
  match t.op with
  | .read n =>
    let s := touch s w.1 w.2 n.val
    if (poisonIn s w.1 w.2 n.val).isSome then
      { count s kPort t.port.val 4 1 with sent := s.sent ++ [.completion 0 true []] }
    else complete s t (memRead s w.1 w.2 n.val)
  | .write bs => memPut (count s kPort t.port.val 4 (discarded s w.1 w.2 bs)) w.1 w.2 bs

/-- A request to BAR2. -/
def bar2Tlp (o : Nat) (t : Tlp) (s : State) : State :=
  match bar2Refusal s o t with
  | some abort => refuse s t abort
  | none => bar2Serve (fresh s) o t
/-- BAR2_REQUEST (R317, R318). -/
def execBar2Request (t : Tlp) (o : BitVec 41) (s : State) : Host.Outcome State Fault Refusal :=
  .next (if (swPort s t.port.val).up then bar2Tlp o.toNat t (receiveTlp (awake s) t) else s)

/-! ### BAR4 (R305, R319) -/

/-- R319: what a requester may reach: every vector (2^16), the vectors of a petal, or nothing. -/
def bar4Reach (s : State) (t : Tlp) : Option Nat :=
  if s.pcie.memSpace = false ∨ s.board.stage = .recovery then none
  else if t.port.val = 0 ∧ t.pasid = none then some (2 ^ 16)
  else tlpPetal s t

/-- R319: may the requester reach a vector? -/
def reaches (s : State) (who vec : Nat) : Bool := who == 2 ^ 16 || look s.msixOwner vec == some who

/-- The table entries that an access covers. -/
def entriesOf (o n : Nat) : List Nat :=
  if n = 0 then [] else ((List.range ((o + n - 1) / 16 + 1 - o / 16)).map (fun i => o / 16 + i)).filter (fun v => decide (v < 2048))

/-- R305: the entry of a vector; a masked one with zero address and data where nothing has been written. -/
def msixEntry (s : State) (v : Nat) : BitVec 128 := lookD s.msixTable v (1 <<< 96)

/-- The bytes of BAR4 as a requester sees them: the table, then the pending bits, those of vectors it does not reach as zero. -/
def bar4Byte (s : State) (who o : Nat) : Byte :=
  if o < 0x8000 then BitVec.ofNat 8 ((msixEntry s (o / 16)).toNat / 2 ^ (8 * (o % 16)))
  else if o < 0x8100 then
    BitVec.ofNat 8 (((List.range 8).map (fun i =>
      let v := (o - 0x8000) * 8 + i
      b2n (reaches s who v && (look s.msixPend v).getD false) * 2 ^ i)).foldl (· + ·) 0)
  else 0

/-- A byte of a table entry is written; address bits [1:0] and the vector control's bits above the mask read zero. -/
def entryByte (e : BitVec 128) (i : Nat) (b : Byte) : BitVec 128 :=
  BitVec.ofNat 128 (setBits e.toNat (8 * i) 8 b.toNat) &&& 0x00000001FFFFFFFFFFFFFFFFFFFFFFFC

/-- The bytes of a write from BAR4 offset o on. -/
def tableWrite (s : State) : Nat → List Byte → State
  | _, [] => s
  | o, b :: bs =>
    tableWrite (if o < 0x8000 then { s with msixTable := put s.msixTable (o / 16) (entryByte (msixEntry s (o / 16)) (o % 16) b) } else s)
      (o + 1) bs

/-- R319: a request to BAR4. -/
def bar4Tlp (o : Nat) (t : Tlp) (s : State) : State :=
  match bar4Reach s t with
  | none => refuse s t false
  | some who =>
    if (entriesOf o (tlpLen t)).all (reaches s who) = false then refuse s t false
    else
      let s := if who < 512 then chargeTlp s who t else s
      match t.op with
      | .read n => complete s t ((List.range n.val).map (fun i => bar4Byte s who (o + i)))
      | .write bs => retryMsix (tableWrite s o bs)
/-- BAR4_REQUEST (R319). -/
def execBar4Request (t : Tlp) (o : BitVec 16) (s : State) : Host.Outcome State Fault Refusal :=
  .next (if (swPort s t.port.val).up then bar4Tlp o.toNat t (receiveTlp (awake s) t) else s)

end Sys2Proof.Machine
end

