-- ==== Sys2Proof/Machine/Side.lean ====
section
/-!
DEFINITION. The sideband (R525 to R527): MCTP control and PLDM, and the JTAG port (R483). Command codes, response layouts and completion
codes are those of DSP0236, DSP0240, DSP0248 and DSP0267, which R525 and R527 name; the manual does not print them.
-/

namespace Sys2Proof.Machine

/-! ### Requests on the sideband -/

/-- The Inkstand's answer to a command of a layer: 0 MCTP control, else the PLDM type plus 1. -/
def sideReply (s : State) (layer command : Nat) (data : List Byte) : State :=
  { s with sent := s.sent ++ [.sideband layer command data] }

/-- R500, R503: a request wakes the module from W1 to W3; at module W4 it starts a module reset. -/
def sideWake (s : State) : State := if s.pwr.module = 4 then resetStart s .exitW4 s.board.refSel else awake s

/-- R527, R529: MCTP control and PLDM base commands are answered wherever the Inkstand runs, its ROM included. -/
def sideBase (s : State) (f : State → State) : State :=
  let s := sideWake s
  if inkUp s && s.ink.restarting.isNone then f s else s

/-- The other PLDM types are answered by its firmware. -/
def sideFull (s : State) (f : State → State) : State :=
  let s := sideWake s
  if inkFirmware s && s.ink.restarting.isNone then f s else s

/-- R525, R533: firmware update is served by the firmware, and by the ROM in recovery. -/
def sideUpdate (s : State) (f : State → State) : State :=
  let s := sideWake s
  if (inkFirmware s || s.board.stage == .recovery) && s.ink.restarting.isNone then f s else s

/-- Bytes that the manual does not fix. -/
def sideBytes (s : State) (k n : Nat) : List Byte := (List.range n).map (fun i => BitVec.ofNat 8 (freeVal s (k + i)))

/-! ### MCTP control (DSP0236) -/

/-- Set Endpoint ID: operations 0 and 1 set it; the special values 0 and 0xFF are invalid data. -/
def setEid (op : BitVec 2) (eid : BitVec 8) (s : State) : State :=
  if 1 < op.toNat ∨ eid = 0 ∨ eid = 0xFF then sideReply s 0 0x01 [0x02]
  else
    let s := { s with ink := { s.ink with side := { s.ink.side with eid := eid } } }
    sideReply s 0 0x01 [0x00, 0x00, eid, 0x00]
/-- SET_ENDPOINT_ID (R527). -/
def execSetEndpointId (op : BitVec 2) (eid : BitVec 8) (s : State) : Host.Outcome State Fault Refusal := .next (sideBase s (setEid op eid))

/-- GET_ENDPOINT_ID (R527): the endpoint ID of a simple endpoint. -/
def execGetEndpointId (s : State) : Host.Outcome State Fault Refusal :=
  .next (sideBase s (fun s => sideReply s 0 0x02 [0x00, s.ink.side.eid, 0x00, 0x00]))

/-- GET_MCTP_VERSION_SUPPORT (R527): one version of the base specification, of control messages and of PLDM; which one is open. -/
def execGetMctpVersionSupport (type : BitVec 8) (s : State) : Host.Outcome State Fault Refusal :=
  .next (sideBase s (fun s =>
    let s := fresh s
    sideReply s 0 0x04 (if type = 0xFF ∨ type = 0 ∨ type = 1 then [0x00, 0x01] ++ sideBytes s (16 * type.toNat) 4 else [0x80])))

/-- GET_MESSAGE_TYPE_SUPPORT (R527): PLDM. -/
def execGetMessageTypeSupport (s : State) : Host.Outcome State Fault Refusal :=
  .next (sideBase s (fun s => sideReply s 0 0x05 [0x00, 0x01, 0x01]))

/-- GET_ENDPOINT_UUID (R527). -/
def execGetEndpointUuid (s : State) : Host.Outcome State Fault Refusal :=
  .next (sideBase s (fun s => sideReply s 0 0x03 (0x00 :: leBytes 16 Config.uuid.toNat)))

/-- I3C_DYNAMIC_ADDRESS (R527): without a dynamic address the sideband is on SMBus at 0x5A. -/
def execI3cDynamicAddress (a : Option (BitVec 7)) (s : State) : Host.Outcome State Fault Refusal :=
  .next { s with ink := { s.ink with side := { s.ink.side with i3c := a } } }

/-- R527: the SMBus address that the sideband answers at; none while it is on I3C. -/
def smbusAddress (s : State) : Option Nat := if s.ink.side.i3c.isSome then none else some 0x5A

/-! ### PLDM base (DSP0240) -/

/-- GETTID (R527). -/
def execGettid (s : State) : Host.Outcome State Fault Refusal := .next (sideBase s (fun s => sideReply s 1 0x02 [0x00, s.ink.side.tid]))

/-- SETTID (R527): 0 and 0xFF are invalid data. -/
def execSettid (tid : BitVec 8) (s : State) : Host.Outcome State Fault Refusal :=
  .next (sideBase s (fun s =>
    if tid = 0 ∨ tid = 0xFF then sideReply s 1 0x01 [0x02]
    else sideReply { s with ink := { s.ink with side := { s.ink.side with tid := tid } } } 1 0x01 [0x00]))

/-- R527: the PLDM types served: 0, 2 and 5. -/
def pldmTypes : List Nat := [0, 2, 5]

/-- R525: the version of type 5 is 1.1; the others' are open. -/
def pldmVersion (s : State) (type : Nat) : List Byte := if type = 5 then [0x00, 0xF0, 0xF1, 0xF1] else sideBytes s (16 * type) 4

/-- GETPLDMVERSION (R527). -/
def execGetpldmversion (type : BitVec 6) (s : State) : Host.Outcome State Fault Refusal :=
  .next (sideBase s (fun s =>
    let s := fresh s
    let v := pldmVersion s type.toNat
    sideReply s 1 0x03 (if pldmTypes.contains type.toNat then [0x00, 0, 0, 0, 0, 0x05] ++ v ++ leBytes 4 (crc32 v) else [0x83])))

/-- GETPLDMTYPES (R527): a bit for each type. -/
def execGetpldmtypes (s : State) : Host.Outcome State Fault Refusal :=
  .next (sideBase s (fun s => sideReply s 1 0x04 (0x00 :: leBytes 8 0x25)))

/-- R527: the command codes that a type serves. -/
def pldmCommands (type : Nat) : List Nat :=
  match type with
  | 0 => [0x01, 0x02, 0x03, 0x04, 0x05]
  | 2 => [0x04, 0x0A, 0x11, 0x21, 0x50, 0x51]
  | 5 => [0x01, 0x02, 0x10, 0x13, 0x14, 0x1A, 0x1B, 0x1C, 0x1D]
  | _ => []

/-- GETPLDMCOMMANDS (R527): a bit for each command code. -/
def execGetpldmcommands (type : BitVec 6) (s : State) : Host.Outcome State Fault Refusal :=
  .next (sideBase s (fun s =>
    sideReply s 1 0x05 (if pldmTypes.contains type.toNat then
        0x00 :: leBytes 32 ((pldmCommands type.toNat).foldl (fun a c => a + 2 ^ c) 0)
      else [0x83])))

/-! ### PLDM monitoring (DSP0248) -/

/-- GETPDRREPOSITORYINFO (R527): available; its times, sizes and counts are open. -/
def execGetpdrrepositoryinfo (s : State) : Host.Outcome State Fault Refusal :=
  .next (sideFull s (fun s => let s := fresh s; sideReply s 3 0x50 ([0x00, 0x00] ++ sideBytes s 0 39)))

/-- GETPDR (R527): the manual does not print the records; a record's length and bytes are open. -/
def execGetpdr (_record : W32) (s : State) : Host.Outcome State Fault Refusal :=
  .next (sideFull s (fun s => let s := fresh s; sideReply s 3 0x51 (0x00 :: sideBytes s 1 (11 + freeVal s 0 % 256))))

/-- R527: the reading of a numeric sensor as DSP0248 data size and bytes, and its operational state (0 enabled, 4 failed). -/
def numericSensor (s : State) (id : Nat) : Option (Nat × Nat × List Byte) :=
  let x := s.ink.sample
  if 0x100 ≤ id ∧ id < 0x160 then
    let t := ((x.temps[id - 0x100]?).getD 0)
    some (3, if tempStatus t = 0 then 0 else 4, leBytes 2 t.toNat)
  else if 0x200 ≤ id ∧ id < 0x240 then
    let v := ((x.volts[id - 0x200]?).getD 0)
    some (2, if bitAt v.toNat 16 then 4 else 0, leBytes 2 v.toNat)
  else if 0x300 ≤ id ∧ id < 0x310 then some (4, 0, leBytes 4 (((x.rails.take 11)[id - 0x300]?).getD 0).toNat)
  else if id = 0x400 then some (4, 0, leBytes 4 x.inputMw)
  else if id = 0x401 then some (4, 0, leBytes 4 x.inputMv)
  else if id = 0x402 then some (4, 0, leBytes 4 x.inputMa)
  else none

/-- GETSENSORREADING (R527): event enables and states are open. -/
def execGetsensorreading (id : W16) (s : State) : Host.Outcome State Fault Refusal :=
  .next (sideFull s (fun s =>
    let s := fresh s
    match numericSensor s id.toNat with
    | some (size, state, bytes) => sideReply s 3 0x11 ([0x00, BitVec.ofNat 8 size, BitVec.ofNat 8 state] ++ sideBytes s 0 4 ++ bytes)
    | none => sideReply s 3 0x11 [0x80]))

/-- R527, R514: an alarm bit as a field of the composite state sensor 0x0500: enabled, its present state 2 while latched and 1
otherwise; previous and event states are open. -/
def alarmField (s : State) (i : Nat) : List Byte :=
  [0x00, if bitAt s.ink.latched.toNat i then 2 else 1] ++ sideBytes s (2 * i) 2

/-- GETSTATESENSORREADINGS (R527). -/
def execGetstatesensorreadings (id : W16) (s : State) : Host.Outcome State Fault Refusal :=
  .next (sideFull s (fun s =>
    let s := fresh s
    sideReply s 3 0x21 (if id = 0x500 then [0x00, 0x08] ++ (List.range 8).flatMap (alarmField s) else [0x80])))

/-- SETEVENTRECEIVER (R527): a global enable of 0 names none. -/
def execSeteventreceiver (enable : BitVec 8) (a : BitVec 8) (s : State) : Host.Outcome State Fault Refusal :=
  .next (sideFull s (fun s =>
    sideReply { s with ink := { s.ink with side := { s.ink.side with receiver := if enable = 0 then none else some a } } } 3 0x04 [0x00]))

/-! ### PLDM firmware update (DSP0267, R525, R526) -/

/-- R525: VerifyComplete reports the outcome of steps 1 and 3: 0 success, 1 a failure, 2 a version, 3 a security check. -/
def verifyResult (e : Option (Nat × Nat)) : Byte :=
  match e with
  | none => 0
  | some (_, d) => if d = dtUpdateRollback then 2 else if d = dtUpdateAuth then 3 else 1

/-- REQUESTUPDATE (R525, R526): with the component that the update agent serves to RequestFirmwareData. A busy path answers
ALREADY_IN_UPDATE_MODE. Where step 1 fails, VerifyComplete says so at once. -/
def requestUpdate (l : List Byte) (s : State) : State :=
  if s.ink.update.isSome then sideReply s 6 0x10 [0x81]
  else
    let f := imageFail s l
    let s := sideReply (beginUpdate s true l) 6 0x10 [0x00, 0x00, 0x00, 0x00]
    if f.isSome then sideReply s 6 0x17 [verifyResult f] else s
def execRequestupdate (l : List Byte) (s : State) : Host.Outcome State Fault Refusal := .next (sideUpdate s (requestUpdate l))

/-- Does a sideband update hold the path? -/
def sideUpdating (s : State) : Bool := match s.ink.update with | some u => u.sideband | none => false

/-- ACTIVATEFIRMWARE (R525): steps 2 to 4 have run, VerifyComplete has reported them, and the slot becomes the boot preference as by
MGT_UPDATE_ACTIVATE. Self-contained activation is not accepted. -/
def activateFirmware (selfContained : Bool) (s : State) : State :=
  if sideUpdating s = false then sideReply s 6 0x1A [0x80]
  else if selfContained then sideReply s 6 0x1A [0x8C]
  else if updateWrites s = false then sideReply s 6 0x1A [0x85]
  else
    let r := endUpdate s
    let s := sideReply r.1 6 0x17 [verifyResult r.2]
    if r.2.isSome then sideReply s 6 0x1A [0x85] else sideReply (activateSlot s) 6 0x1A [0x00, 0x00, 0x00]
def execActivatefirmware (selfContained : Bool) (s : State) : Host.Outcome State Fault Refusal :=
  .next (sideUpdate s (activateFirmware selfContained))

/-- CANCELUPDATE (R525): the slot that was being written stays empty. -/
def cancelUpdate (s : State) : State :=
  if sideUpdating s then
    sideReply { s with ink := { s.ink with update := none } } 6 0x1D (0x00 :: zeros 9)
  else sideReply s 6 0x1D [0x80]
def execCancelupdate (s : State) : Host.Outcome State Fault Refusal := .next (sideUpdate s cancelUpdate)

/-! ### JTAG (R483) -/

/-- R483: the IDCODE register. -/
def idcode : W32 := 0x179105AF

/-- R483: are the instructions beyond BYPASS and IDCODE available? -/
def jtagPermitted (s : State) : Bool := s.sec.lifecycle == .manufacture || deviceLevel s == 3

/-- What an instruction does to the pins (IEEE 1149.1). -/
def jtagPinsOf : JtagIr → JtagPins
  | .extest => .boundary | .intest => .boundary | .clamp => .clamped | .highz => .highz | _ => .untouched

/-- An instruction is selected: where it is not available, the bypass register, and no pin changes. -/
def jtagSelect (s : State) (i : JtagIr) : State :=
  if i = .idcode ∨ i = .bypass ∨ jtagPermitted s = true then { s with jtag := ⟨i, i, jtagPinsOf i⟩ }
  else { s with jtag := ⟨i, .bypass, .untouched⟩ }

/-- R483: the register that a data scan captures, where the manual gives it: IDCODE, or the single bypass bit. -/
def jtagCapture (s : State) : Option W32 :=
  match s.jtag.selected with
  | .idcode => some idcode
  | .bypass => some 0
  | _ => none

/-- JTAG_TAP_RESET (R483). -/
def execJtagTapReset (s : State) : Host.Outcome State Fault Refusal := .next { s with jtag := Jtag.new }
/-- IDCODE (R483). -/
def execIdcode (s : State) : Host.Outcome State Fault Refusal := .next (jtagSelect s .idcode)
/-- BYPASS (R483). -/
def execBypass (s : State) : Host.Outcome State Fault Refusal := .next (jtagSelect s .bypass)
/-- SAMPLE_PRELOAD (R483). -/
def execSamplePreload (s : State) : Host.Outcome State Fault Refusal := .next (jtagSelect s .samplePreload)
/-- EXTEST (R483). -/
def execExtest (s : State) : Host.Outcome State Fault Refusal := .next (jtagSelect s .extest)
/-- INTEST (R483). -/
def execIntest (s : State) : Host.Outcome State Fault Refusal := .next (jtagSelect s .intest)
/-- CLAMP (R483). -/
def execClamp (s : State) : Host.Outcome State Fault Refusal := .next (jtagSelect s .clamp)
/-- HIGHZ (R483). -/
def execHighz (s : State) : Host.Outcome State Fault Refusal := .next (jtagSelect s .highz)

end Sys2Proof.Machine
end

