-- ==== Sys2Proof/Machine/Dispatch.lean ====
section
/-!
DEFINITION. The dispatch: each command has one arm, which calls its meaning.
-/

namespace Sys2Proof.Machine

/-- The effect of a command on everything but the queue. -/
def exec (i : Instr) (s : State) : Host.Outcome State Fault Refusal :=
  match i with
  | .mov n stop f => Sys2Proof.Machine.execMov n stop f s
  | .add n stop f => Sys2Proof.Machine.execAdd n stop f s
  | .sub n stop f => Sys2Proof.Machine.execSub n stop f s
  | .andS n stop f => Sys2Proof.Machine.execAndS n stop f s
  | .orS n stop f => Sys2Proof.Machine.execOrS n stop f s
  | .xorS n stop f => Sys2Proof.Machine.execXorS n stop f s
  | .andn n stop f => Sys2Proof.Machine.execAndn n stop f s
  | .shl n stop f => Sys2Proof.Machine.execShl n stop f s
  | .shr n stop f => Sys2Proof.Machine.execShr n stop f s
  | .sra n stop f => Sys2Proof.Machine.execSra n stop f s
  | .rol n stop f => Sys2Proof.Machine.execRol n stop f s
  | .mul n stop f => Sys2Proof.Machine.execMul n stop f s
  | .mulhu n stop f => Sys2Proof.Machine.execMulhu n stop f s
  | .mulhs n stop f => Sys2Proof.Machine.execMulhs n stop f s
  | .min n stop f => Sys2Proof.Machine.execMin n stop f s
  | .max n stop f => Sys2Proof.Machine.execMax n stop f s
  | .minu n stop f => Sys2Proof.Machine.execMinu n stop f s
  | .maxu n stop f => Sys2Proof.Machine.execMaxu n stop f s
  | .clz n stop f => Sys2Proof.Machine.execClz n stop f s
  | .popc n stop f => Sys2Proof.Machine.execPopc n stop f s
  | .cmpeq n stop f => Sys2Proof.Machine.execCmpeq n stop f s
  | .cmpne n stop f => Sys2Proof.Machine.execCmpne n stop f s
  | .cmplt n stop f => Sys2Proof.Machine.execCmplt n stop f s
  | .cmpltu n stop f => Sys2Proof.Machine.execCmpltu n stop f s
  | .cmple n stop f => Sys2Proof.Machine.execCmple n stop f s
  | .cmpleu n stop f => Sys2Proof.Machine.execCmpleu n stop f s
  | .addi n stop f => Sys2Proof.Machine.execAddi n stop f s
  | .andi n stop f => Sys2Proof.Machine.execAndi n stop f s
  | .ori n stop f => Sys2Proof.Machine.execOri n stop f s
  | .xori n stop f => Sys2Proof.Machine.execXori n stop f s
  | .shli n stop f => Sys2Proof.Machine.execShli n stop f s
  | .shri n stop f => Sys2Proof.Machine.execShri n stop f s
  | .srai n stop f => Sys2Proof.Machine.execSrai n stop f s
  | .roli n stop f => Sys2Proof.Machine.execRoli n stop f s
  | .slti n stop f => Sys2Proof.Machine.execSlti n stop f s
  | .movi n stop f => Sys2Proof.Machine.execMovi n stop f s
  | .movhi n stop f => Sys2Proof.Machine.execMovhi n stop f s
  | .mfc n stop f => Sys2Proof.Machine.execMfc n stop f s
  | .mtc n stop f => Sys2Proof.Machine.execMtc n stop f s
  | .ldb n stop f => Sys2Proof.Machine.execLdb n stop f s
  | .ldbu n stop f => Sys2Proof.Machine.execLdbu n stop f s
  | .ldh n stop f => Sys2Proof.Machine.execLdh n stop f s
  | .ldhu n stop f => Sys2Proof.Machine.execLdhu n stop f s
  | .ldw n stop f => Sys2Proof.Machine.execLdw n stop f s
  | .stb n stop f => Sys2Proof.Machine.execStb n stop f s
  | .sth n stop f => Sys2Proof.Machine.execSth n stop f s
  | .stw n stop f => Sys2Proof.Machine.execStw n stop f s
  | .vld64 n stop f => Sys2Proof.Machine.execVld64 n stop f s
  | .vld128 n stop f => Sys2Proof.Machine.execVld128 n stop f s
  | .vld256 n stop f => Sys2Proof.Machine.execVld256 n stop f s
  | .vst64 n stop f => Sys2Proof.Machine.execVst64 n stop f s
  | .vst128 n stop f => Sys2Proof.Machine.execVst128 n stop f s
  | .vst256 n stop f => Sys2Proof.Machine.execVst256 n stop f s
  | .vldx n stop f => Sys2Proof.Machine.execVldx n stop f s
  | .vstx n stop f => Sys2Proof.Machine.execVstx n stop f s
  | .vadd n stop f => Sys2Proof.Machine.execVadd n stop f s
  | .vsub n stop f => Sys2Proof.Machine.execVsub n stop f s
  | .vmul n stop f => Sys2Proof.Machine.execVmul n stop f s
  | .vmin n stop f => Sys2Proof.Machine.execVmin n stop f s
  | .vmax n stop f => Sys2Proof.Machine.execVmax n stop f s
  | .vabs n stop f => Sys2Proof.Machine.execVabs n stop f s
  | .vneg n stop f => Sys2Proof.Machine.execVneg n stop f s
  | .vcmpeq n stop f => Sys2Proof.Machine.execVcmpeq n stop f s
  | .vcmplt n stop f => Sys2Proof.Machine.execVcmplt n stop f s
  | .vcmple n stop f => Sys2Proof.Machine.execVcmple n stop f s
  | .vand n stop f => Sys2Proof.Machine.execVand n stop f s
  | .vor n stop f => Sys2Proof.Machine.execVor n stop f s
  | .vxor n stop f => Sys2Proof.Machine.execVxor n stop f s
  | .vshl n stop f => Sys2Proof.Machine.execVshl n stop f s
  | .vshr n stop f => Sys2Proof.Machine.execVshr n stop f s
  | .vsra n stop f => Sys2Proof.Machine.execVsra n stop f s
  | .vfma n stop f => Sys2Proof.Machine.execVfma n stop f s
  | .vmov n stop f => Sys2Proof.Machine.execVmov n stop f s
  | .vcvt n stop f => Sys2Proof.Machine.execVcvt n stop f s
  | .vmxs n stop f => Sys2Proof.Machine.execVmxs n stop f s
  | .vmxq n stop f => Sys2Proof.Machine.execVmxq n stop f s
  | .vmxd n stop f => Sys2Proof.Machine.execVmxd n stop f s
  | .exps n stop f => Sys2Proof.Machine.execExps n stop f s
  | .maxrun n stop f => Sys2Proof.Machine.execMaxrun n stop f s
  | .vrsum n stop f => Sys2Proof.Machine.execVrsum n stop f s
  | .vrmax n stop f => Sys2Proof.Machine.execVrmax n stop f s
  | .vrmin n stop f => Sys2Proof.Machine.execVrmin n stop f s
  | .vbcast n stop f => Sys2Proof.Machine.execVbcast n stop f s
  | .vext n stop f => Sys2Proof.Machine.execVext n stop f s
  | .vins n stop f => Sys2Proof.Machine.execVins n stop f s
  | .vshuf n stop f => Sys2Proof.Machine.execVshuf n stop f s
  | .vsplati n stop f => Sys2Proof.Machine.execVsplati n stop f s
  | .vsel n stop f => Sys2Proof.Machine.execVsel n stop f s
  | .xmul n stop f => Sys2Proof.Machine.execXmul n stop f s
  | .xmacLa n stop f => Sys2Proof.Machine.execXmacLa n stop f s
  | .xaddLa n stop f => Sys2Proof.Machine.execXaddLa n stop f s
  | .xclrLa n stop f => Sys2Proof.Machine.execXclrLa n stop f s
  | .prd n stop f => Sys2Proof.Machine.execPrd n stop f s
  | .lard n stop f => Sys2Proof.Machine.execLard n stop f s
  | .lard1 n stop f => Sys2Proof.Machine.execLard1 n stop f s
  | .xmulv n stop f => Sys2Proof.Machine.execXmulv n stop f s
  | .xdot n stop f => Sys2Proof.Machine.execXdot n stop f s
  | .xResultLand n => Sys2Proof.Machine.execXResultLand n s
  | .endS n stop f => Sys2Proof.Machine.execEndS n stop f s
  | .trap n stop f => Sys2Proof.Machine.execTrap n stop f s
  | .ret n stop f => Sys2Proof.Machine.execRet n stop f s
  | .call n stop f => Sys2Proof.Machine.execCall n stop f s
  | .callr n stop f => Sys2Proof.Machine.execCallr n stop f s
  | .br n stop f => Sys2Proof.Machine.execBr n stop f s
  | .bc n stop f => Sys2Proof.Machine.execBc n stop f s
  | .brr n stop f => Sys2Proof.Machine.execBrr n stop f s
  | .dbnz n stop f => Sys2Proof.Machine.execDbnz n stop f s
  | .beq n stop f => Sys2Proof.Machine.execBeq n stop f s
  | .bne n stop f => Sys2Proof.Machine.execBne n stop f s
  | .blt n stop f => Sys2Proof.Machine.execBlt n stop f s
  | .bltu n stop f => Sys2Proof.Machine.execBltu n stop f s
  | .sfencea n stop f => Sys2Proof.Machine.execSfencea n stop f s
  | .sfencet n stop f => Sys2Proof.Machine.execSfencet n stop f s
  | .sfence n stop f => Sys2Proof.Machine.execSfence n stop f s
  | .stream n stop f => Sys2Proof.Machine.execStream n stop f s
  | .signal n stop f => Sys2Proof.Machine.execSignal n stop f s
  | .signali n stop f => Sys2Proof.Machine.execSignali n stop f s
  | .consume n stop f => Sys2Proof.Machine.execConsume n stop f s
  | .wait n stop f => Sys2Proof.Machine.execWait n stop f s
  | .waitc n stop f => Sys2Proof.Machine.execWaitc n stop f s
  | .evpost n stop f => Sys2Proof.Machine.execEvpost n stop f s
  | .streamComplete n tag => Sys2Proof.Machine.execStreamComplete n tag s
  | .lchSqTail p q v => Sys2Proof.Machine.execLchSqTail p q v s
  | .lchCqHead p q v => Sys2Proof.Machine.execLchCqHead p q v s
  | .launchAccept p q => Sys2Proof.Machine.execLaunchAccept p q s
  | .launchStart p tag => Sys2Proof.Machine.execLaunchStart p tag s
  | .launchHeadReserve p q => Sys2Proof.Machine.execLaunchHeadReserve p q s
  | .launchComplete p tag => Sys2Proof.Machine.execLaunchComplete p tag s
  | .launchTimeout p tag => Sys2Proof.Machine.execLaunchTimeout p tag s
  | .lchImageRegister m => Sys2Proof.Machine.execLchImageRegister m s
  | .lchImageRelease m => Sys2Proof.Machine.execLchImageRelease m s
  | .lchQueueCreate m => Sys2Proof.Machine.execLchQueueCreate m s
  | .lchQueueDestroy m => Sys2Proof.Machine.execLchQueueDestroy m s
  | .lchAbort m => Sys2Proof.Machine.execLchAbort m s
  | .hostHello m => Sys2Proof.Machine.execHostHello m s
  | .identify m => Sys2Proof.Machine.execIdentify m s
  | .leaseRenew m => Sys2Proof.Machine.execLeaseRenew m s
  | .hostGoodbye m => Sys2Proof.Machine.execHostGoodbye m s
  | .epochCommit m => Sys2Proof.Machine.execEpochCommit m s
  | .epochCommitPoint page => Sys2Proof.Machine.execEpochCommitPoint page s
  | .epochDrainComplete page => Sys2Proof.Machine.execEpochDrainComplete page s
  | .epochDrainOverdue page => Sys2Proof.Machine.execEpochDrainOverdue page s
  | .epochDiscard m => Sys2Proof.Machine.execEpochDiscard m s
  | .counterSnapshot m => Sys2Proof.Machine.execCounterSnapshot m s
  | .msixAssign m => Sys2Proof.Machine.execMsixAssign m s
  | .ptlMbxLateAck page v => Sys2Proof.Machine.execPtlMbxLateAck page v s
  | .ptlLeaseRenew page v => Sys2Proof.Machine.execPtlLeaseRenew page v s
  | .lateRecordPost page slot a => Sys2Proof.Machine.execLateRecordPost page slot a s
  | .leaseExpiry p => Sys2Proof.Machine.execLeaseExpiry p s
  | .deviceLeaseExpiry => Sys2Proof.Machine.execDeviceLeaseExpiry s
  | .registerWrite r v => Sys2Proof.Machine.execRegisterWrite r v s
  | .createPetal m => Sys2Proof.Machine.execCreatePetal m s
  | .resizePetal m => Sys2Proof.Machine.execResizePetal m s
  | .quiescePetal m => Sys2Proof.Machine.execQuiescePetal m s
  | .petalQuiesced p => Sys2Proof.Machine.execPetalQuiesced p s
  | .quiesceDrainExpiry p => Sys2Proof.Machine.execQuiesceDrainExpiry p s
  | .enablePetal m => Sys2Proof.Machine.execEnablePetal m s
  | .resetPetal m => Sys2Proof.Machine.execResetPetal m s
  | .destroyPetal m => Sys2Proof.Machine.execDestroyPetal m s
  | .queryPetal m => Sys2Proof.Machine.execQueryPetal m s
  | .bindPetal m => Sys2Proof.Machine.execBindPetal m s
  | .acceptBinding m => Sys2Proof.Machine.execAcceptBinding m s
  | .setShares m => Sys2Proof.Machine.execSetShares m s
  | .winGrant m => Sys2Proof.Machine.execWinGrant m s
  | .winMap m => Sys2Proof.Machine.execWinMap m s
  | .winQuery m => Sys2Proof.Machine.execWinQuery m s
  | .memPin m => Sys2Proof.Machine.execMemPin m s
  | .memUnpin m => Sys2Proof.Machine.execMemUnpin m s
  | .memPolicySet m => Sys2Proof.Machine.execMemPolicySet m s
  | .memPolicyGet m => Sys2Proof.Machine.execMemPolicyGet m s
  | .memScrubSet m => Sys2Proof.Machine.execMemScrubSet m s
  | .startUpFillComplete lpddr => Sys2Proof.Machine.execStartUpFillComplete lpddr s
  | .heatInterval p => Sys2Proof.Machine.execHeatInterval p s
  | .pageMoveStart p page => Sys2Proof.Machine.execPageMoveStart p page s
  | .pageMoveSwitch p page => Sys2Proof.Machine.execPageMoveSwitch p page s
  | .pageMoveRelease p page => Sys2Proof.Machine.execPageMoveRelease p page s
  | .blotterScrubLine w found decoded => Sys2Proof.Machine.execBlotterScrubLine w found decoded s
  | .scratchScrub k bank => Sys2Proof.Machine.execScratchScrub k bank s
  | .colCommCreate m => Sys2Proof.Machine.execColCommCreate m s
  | .colCommDestroy m => Sys2Proof.Machine.execColCommDestroy m s
  | .colAbort m => Sys2Proof.Machine.execColAbort m s
  | .colSqTail p n v => Sys2Proof.Machine.execColSqTail p n v s
  | .colCqHead p n v => Sys2Proof.Machine.execColCqHead p n v s
  | .colOpAccept p n => Sys2Proof.Machine.execColOpAccept p n s
  | .colOpStart p tag => Sys2Proof.Machine.execColOpStart p tag s
  | .colOpComplete p tag revoked => Sys2Proof.Machine.execColOpComplete p tag revoked s
  | .colOpTimeout p tag => Sys2Proof.Machine.execColOpTimeout p tag s
  | .colJoinTimeout p n => Sys2Proof.Machine.execColJoinTimeout p n s
  | .join p qp m => Sys2Proof.Machine.execJoin p qp m s
  | .broken p qp m => Sys2Proof.Machine.execBroken p qp m s
  | .step p qp m => Sys2Proof.Machine.execStep p qp m s
  | .atnCtxCreate m => Sys2Proof.Machine.execAtnCtxCreate m s
  | .atnCtxDestroy m => Sys2Proof.Machine.execAtnCtxDestroy m s
  | .atnRingCreate m => Sys2Proof.Machine.execAtnRingCreate m s
  | .atnRingDestroy m => Sys2Proof.Machine.execAtnRingDestroy m s
  | .atnSeqCreate m => Sys2Proof.Machine.execAtnSeqCreate m s
  | .atnSeqDestroy m => Sys2Proof.Machine.execAtnSeqDestroy m s
  | .atnAbort m => Sys2Proof.Machine.execAtnAbort m s
  | .atnSqTail p n k v => Sys2Proof.Machine.execAtnSqTail p n k v s
  | .atnCqHead p n k v => Sys2Proof.Machine.execAtnCqHead p n k v s
  | .atnEntryAccept p n k => Sys2Proof.Machine.execAtnEntryAccept p n k s
  | .atnEntryStart p tag ok => Sys2Proof.Machine.execAtnEntryStart p tag ok s
  | .atnEntryComplete p tag ok => Sys2Proof.Machine.execAtnEntryComplete p tag ok s
  | .atnEntryTimeout p tag => Sys2Proof.Machine.execAtnEntryTimeout p tag s
  | .atnSpill p n => Sys2Proof.Machine.execAtnSpill p n s
  | .atnSpillWriteDone p n ok => Sys2Proof.Machine.execAtnSpillWriteDone p n ok s
  | .sclQpCreate m => Sys2Proof.Machine.execSclQpCreate m s
  | .sclQpDestroy m => Sys2Proof.Machine.execSclQpDestroy m s
  | .sclVolCreate m => Sys2Proof.Machine.execSclVolCreate m s
  | .sclVolDestroy m => Sys2Proof.Machine.execSclVolDestroy m s
  | .sclAbort m => Sys2Proof.Machine.execSclAbort m s
  | .sclGetLog m => Sys2Proof.Machine.execSclGetLog m s
  | .sclRestartQueue m => Sys2Proof.Machine.execSclRestartQueue m s
  | .sclSelfTest m => Sys2Proof.Machine.execSclSelfTest m s
  | .sclSelfTestResume p n => Sys2Proof.Machine.execSclSelfTestResume p n s
  | .sclSelfTestComplete p n bad => Sys2Proof.Machine.execSclSelfTestComplete p n bad s
  | .sclIdentify m => Sys2Proof.Machine.execSclIdentify m s
  | .sclDbSqTail p qp rsv index => Sys2Proof.Machine.execSclDbSqTail p qp rsv index s
  | .sclDbCqHead p qp rsv index => Sys2Proof.Machine.execSclDbCqHead p qp rsv index s
  | .sclCmdAccept p n => Sys2Proof.Machine.execSclCmdAccept p n s
  | .sclCmdBegin p tag => Sys2Proof.Machine.execSclCmdBegin p tag s
  | .sclCmdComplete p tag ok => Sys2Proof.Machine.execSclCmdComplete p tag ok s
  | .sclTargetTimeout p tag => Sys2Proof.Machine.execSclTargetTimeout p tag s
  | .sclDestageStart p n ok => Sys2Proof.Machine.execSclDestageStart p n ok s
  | .sclDestageRetry p n ok => Sys2Proof.Machine.execSclDestageRetry p n ok s
  | .sclKeepAlive p n => Sys2Proof.Machine.execSclKeepAlive p n s
  | .sclConnectTimeout p n => Sys2Proof.Machine.execSclConnectTimeout p n s
  | .sclVolIdle p n => Sys2Proof.Machine.execSclVolIdle p n s
  | .netPortMode m => Sys2Proof.Machine.execNetPortMode m s
  | .netPortSet m => Sys2Proof.Machine.execNetPortSet m s
  | .netPortQuery m => Sys2Proof.Machine.execNetPortQuery m s
  | .prsRuleSet m => Sys2Proof.Machine.execPrsRuleSet m s
  | .prsRangeSet m => Sys2Proof.Machine.execPrsRangeSet m s
  | .prsRuleGet m => Sys2Proof.Machine.execPrsRuleGet m s
  | .schQueueSet m => Sys2Proof.Machine.execSchQueueSet m s
  | .schGateSet m => Sys2Proof.Machine.execSchGateSet m s
  | .schLimiterSet m => Sys2Proof.Machine.execSchLimiterSet m s
  | .ethFrameReceive j f => Sys2Proof.Machine.execEthFrameReceive j f s
  | .ethFrameTransmit j pick => Sys2Proof.Machine.execEthFrameTransmit j pick s
  | .slowPathFrame j => Sys2Proof.Machine.execSlowPathFrame j s
  | .portLinkUp j failed cr accepts => Sys2Proof.Machine.execPortLinkUp j failed cr accepts s
  | .portLinkDown j => Sys2Proof.Machine.execPortLinkDown j s
  | .ptpClockAdjust j offset ppb => Sys2Proof.Machine.execPtpClockAdjust j offset ppb s
  | .gateEntryExpiry j => Sys2Proof.Machine.execGateEntryExpiry j s
  | .gateListTakeover j => Sys2Proof.Machine.execGateListTakeover j s
  | .limiterRelease j => Sys2Proof.Machine.execLimiterRelease j s
  | .wheelCascade j => Sys2Proof.Machine.execWheelCascade j s
  | .rdmAddrSet m => Sys2Proof.Machine.execRdmAddrSet m s
  | .rdmLabelSet m => Sys2Proof.Machine.execRdmLabelSet m s
  | .rdmCqCreate m => Sys2Proof.Machine.execRdmCqCreate m s
  | .rdmCqDestroy m => Sys2Proof.Machine.execRdmCqDestroy m s
  | .rdmQpCreate m => Sys2Proof.Machine.execRdmQpCreate m s
  | .rdmQpConnect m => Sys2Proof.Machine.execRdmQpConnect m s
  | .rdmQpDestroy m => Sys2Proof.Machine.execRdmQpDestroy m s
  | .rdmQpQuery m => Sys2Proof.Machine.execRdmQpQuery m s
  | .rdmMrReg m => Sys2Proof.Machine.execRdmMrReg m s
  | .rdmMrDereg m => Sys2Proof.Machine.execRdmMrDereg m s
  | .rdmSqDb p v => Sys2Proof.Machine.execRdmSqDb p v s
  | .rdmRqDb p v => Sys2Proof.Machine.execRdmRqDb p v s
  | .rdmCqDb p v => Sys2Proof.Machine.execRdmCqDb p v s
  | .rdmSendStart p n => Sys2Proof.Machine.execRdmSendStart p n s
  | .rdmPacketReceive j => Sys2Proof.Machine.execRdmPacketReceive j s
  | .remoteSignal j => Sys2Proof.Machine.execRemoteSignal j s
  | .rdmAckReceive j => Sys2Proof.Machine.execRdmAckReceive j s
  | .rdmNakReceive j => Sys2Proof.Machine.execRdmNakReceive j s
  | .cnp j => Sys2Proof.Machine.execCnp j s
  | .rdmRetransmitTimeout p n => Sys2Proof.Machine.execRdmRetransmitTimeout p n s
  | .rdmRnrTimer p n => Sys2Proof.Machine.execRdmRnrTimer p n s
  | .rdmAckTimer p n => Sys2Proof.Machine.execRdmAckTimer p n s
  | .rdmMessageAbandon p n => Sys2Proof.Machine.execRdmMessageAbandon p n s
  | .rdmContextFetch p n => Sys2Proof.Machine.execRdmContextFetch p n s
  | .counterUpdateApply k => Sys2Proof.Machine.execCounterUpdateApply k s
  | .watchTimeout p w => Sys2Proof.Machine.execWatchTimeout p w s
  | .synRead m => Sys2Proof.Machine.execSynRead m s
  | .synAdd m => Sys2Proof.Machine.execSynAdd m s
  | .synWatchSet m => Sys2Proof.Machine.execSynWatchSet m s
  | .synWatchCancel m => Sys2Proof.Machine.execSynWatchCancel m s
  | .synDebugSet m => Sys2Proof.Machine.execSynDebugSet m s
  | .irqRaise v => Sys2Proof.Machine.execIrqRaise v s
  | .irqClaim k => Sys2Proof.Machine.execIrqClaim k s
  | .irqEoi k n => Sys2Proof.Machine.execIrqEoi k n s
  | .irqSrcRearm n v => Sys2Proof.Machine.execIrqSrcRearm n v s
  | .irqStuckRearm n => Sys2Proof.Machine.execIrqStuckRearm n s
  | .alertNSense => Sys2Proof.Machine.execAlertNSense s
  | .keyAttest m => Sys2Proof.Machine.execKeyAttest m s
  | .keyCert m => Sys2Proof.Machine.execKeyCert m s
  | .keyInject m => Sys2Proof.Machine.execKeyInject m s
  | .keySessionClose m => Sys2Proof.Machine.execKeySessionClose m s
  | .keySessionTimeout p => Sys2Proof.Machine.execKeySessionTimeout p s
  | .keyDestroy m => Sys2Proof.Machine.execKeyDestroy m s
  | .keyQuery m => Sys2Proof.Machine.execKeyQuery m s
  | .cphQueueCreate m => Sys2Proof.Machine.execCphQueueCreate m s
  | .cphQueueDestroy m => Sys2Proof.Machine.execCphQueueDestroy m s
  | .cphAbort m => Sys2Proof.Machine.execCphAbort m s
  | .cphSqTail p q v => Sys2Proof.Machine.execCphSqTail p q v s
  | .cphCqHead p q v => Sys2Proof.Machine.execCphCqHead p q v s
  | .cphRequestAccept p q => Sys2Proof.Machine.execCphRequestAccept p q s
  | .cphRequestStart p tag => Sys2Proof.Machine.execCphRequestStart p tag s
  | .cphRequestComplete p tag => Sys2Proof.Machine.execCphRequestComplete p tag s
  | .rollbackRaise => Sys2Proof.Machine.execRollbackRaise s
  | .pwrRateSet m => Sys2Proof.Machine.execPwrRateSet m s
  | .pwrLevelSet m => Sys2Proof.Machine.execPwrLevelSet m s
  | .pwrLevelAuto m => Sys2Proof.Machine.execPwrLevelAuto m s
  | .pwrQuery m => Sys2Proof.Machine.execPwrQuery m s
  | .unitIdleEntry kind u => Sys2Proof.Machine.execUnitIdleEntry kind u s
  | .unitWake kind u => Sys2Proof.Machine.execUnitWake kind u s
  | .moduleLevelEntry => Sys2Proof.Machine.execModuleLevelEntry s
  | .moduleWake => Sys2Proof.Machine.execModuleWake s
  | .moduleIdleReturn => Sys2Proof.Machine.execModuleIdleReturn s
  | .thermalLimitStep r => Sys2Proof.Machine.execThermalLimitStep r s
  | .powerLimitStep => Sys2Proof.Machine.execPowerLimitStep s
  | .mgtLogRead m => Sys2Proof.Machine.execMgtLogRead m s
  | .mgtCalRead m => Sys2Proof.Machine.execMgtCalRead m s
  | .mgtCalWrite m => Sys2Proof.Machine.execMgtCalWrite m s
  | .mgtUpdateStage m => Sys2Proof.Machine.execMgtUpdateStage m s
  | .mgtUpdateActivate m => Sys2Proof.Machine.execMgtUpdateActivate m s
  | .mgtSensorRead m => Sys2Proof.Machine.execMgtSensorRead m s
  | .mgtAlertClear m => Sys2Proof.Machine.execMgtAlertClear m s
  | .mgtOutputStatus m => Sys2Proof.Machine.execMgtOutputStatus m s
  | .mgtModuleReset m => Sys2Proof.Machine.execMgtModuleReset m s
  | .quillHeartbeat k => Sys2Proof.Machine.execQuillHeartbeat k s
  | .heartbeatMiss k own => Sys2Proof.Machine.execHeartbeatMiss k own s
  | .journalTakeover k lost => Sys2Proof.Machine.execJournalTakeover k lost s
  | .quillReturn k => Sys2Proof.Machine.execQuillReturn k s
  | .inkstandWdRefresh => Sys2Proof.Machine.execInkstandWdRefresh s
  | .inkstandWdExpiry => Sys2Proof.Machine.execInkstandWdExpiry s
  | .inkstandRestartDone intact => Sys2Proof.Machine.execInkstandRestartDone intact s
  | .sensorSample x => Sys2Proof.Machine.execSensorSample x s
  | .energyInterval x => Sys2Proof.Machine.execEnergyInterval x s
  | .logFlush => Sys2Proof.Machine.execLogFlush s
  | .dbgChallenge m => Sys2Proof.Machine.execDbgChallenge m s
  | .dbgNonceLapse page => Sys2Proof.Machine.execDbgNonceLapse page s
  | .dbgAuthLoad m => Sys2Proof.Machine.execDbgAuthLoad m s
  | .dbgOpen m => Sys2Proof.Machine.execDbgOpen m s
  | .dbgD2DrainExpiry => Sys2Proof.Machine.execDbgD2DrainExpiry s
  | .dbgClose m => Sys2Proof.Machine.execDbgClose m s
  | .dbgSessionExpiry page => Sys2Proof.Machine.execDbgSessionExpiry page s
  | .dbgQuery m => Sys2Proof.Machine.execDbgQuery m s
  | .dbgNibHalt m => Sys2Proof.Machine.execDbgNibHalt m s
  | .dbgNibResume m => Sys2Proof.Machine.execDbgNibResume m s
  | .dbgNibRead m => Sys2Proof.Machine.execDbgNibRead m s
  | .dbgScratchRead m => Sys2Proof.Machine.execDbgScratchRead m s
  | .dbgFwRead m => Sys2Proof.Machine.execDbgFwRead m s
  | .lifecycleRetire m => Sys2Proof.Machine.execLifecycleRetire m s
  | .dbgOperatorKeySet m => Sys2Proof.Machine.execDbgOperatorKeySet m s
  | .bar2Request t o => Sys2Proof.Machine.execBar2Request t o s
  | .bar4Request t o => Sys2Proof.Machine.execBar4Request t o s
  | .pcieCompletionReceive j tag ok => Sys2Proof.Machine.execPcieCompletionReceive j tag ok s
  | .pcieCompletionTimeout tag => Sys2Proof.Machine.execPcieCompletionTimeout tag s
  | .pcieTagHoldExpiry tag => Sys2Proof.Machine.execPcieTagHoldExpiry tag s
  | .atsInvalidation everyPasid pasid page => Sys2Proof.Machine.execAtsInvalidation everyPasid pasid page s
  | .functionLevelReset => Sys2Proof.Machine.execFunctionLevelReset s
  | .flrComplete => Sys2Proof.Machine.execFlrComplete s
  | .hotReset dlDown => Sys2Proof.Machine.execHotReset dlDown s
  | .secondaryBusReset j => Sys2Proof.Machine.execSecondaryBusReset j s
  | .perstAssert => Sys2Proof.Machine.execPerstAssert s
  | .perstDeassert sel => Sys2Proof.Machine.execPerstDeassert sel s
  | .linkTraining j failed swapped polarity flit => Sys2Proof.Machine.execLinkTraining j failed swapped polarity flit s
  | .linkL1Entry j => Sys2Proof.Machine.execLinkL1Entry j s
  | .linkWidthChange j log => Sys2Proof.Machine.execLinkWidthChange j log s
  | .slotPowerOn j => Sys2Proof.Machine.execSlotPowerOn j s
  | .slotPowerOff j => Sys2Proof.Machine.execSlotPowerOff j s
  | .slotPowerOffDone j => Sys2Proof.Machine.execSlotPowerOffDone j s
  | .slotIndicatorSet j attn pwr => Sys2Proof.Machine.execSlotIndicatorSet j attn pwr s
  | .presenceChange j prsnt inBand => Sys2Proof.Machine.execPresenceChange j prsnt inBand s
  | .attentionButton j low => Sys2Proof.Machine.execAttentionButton j low s
  | .rearm j => Sys2Proof.Machine.execRearm j s
  | .surpriseRemoval j => Sys2Proof.Machine.execSurpriseRemoval j s
  | .inputValid sel => Sys2Proof.Machine.execInputValid sel s
  | .regulatorsUp => Sys2Proof.Machine.execRegulatorsUp s
  | .firmwareReady => Sys2Proof.Machine.execFirmwareReady s
  | .bootAttemptFail why => Sys2Proof.Machine.execBootAttemptFail why s
  | .recoveryEntry why => Sys2Proof.Machine.execRecoveryEntry why s
  | .moduleReset sel => Sys2Proof.Machine.execModuleReset sel s
  | .inputUndervoltage second => Sys2Proof.Machine.execInputUndervoltage second s
  | .inputOvervoltage => Sys2Proof.Machine.execInputOvervoltage s
  | .inputReturn sel => Sys2Proof.Machine.execInputReturn sel s
  | .pwrEnLow => Sys2Proof.Machine.execPwrEnLow s
  | .pwrEnHigh sel => Sys2Proof.Machine.execPwrEnHigh sel s
  | .outputOvercurrent j => Sys2Proof.Machine.execOutputOvercurrent j s
  | .refclkLoss r => Sys2Proof.Machine.execRefclkLoss r s
  | .refclkReturn r => Sys2Proof.Machine.execRefclkReturn r s
  | .thermtrip j t => Sys2Proof.Machine.execThermtrip j t s
  | .memoryDeviceFailure u lost => Sys2Proof.Machine.execMemoryDeviceFailure u lost s
  | .setEndpointId op eid => Sys2Proof.Machine.execSetEndpointId op eid s
  | .getEndpointId => Sys2Proof.Machine.execGetEndpointId s
  | .getMctpVersionSupport type => Sys2Proof.Machine.execGetMctpVersionSupport type s
  | .getMessageTypeSupport => Sys2Proof.Machine.execGetMessageTypeSupport s
  | .getEndpointUuid => Sys2Proof.Machine.execGetEndpointUuid s
  | .gettid => Sys2Proof.Machine.execGettid s
  | .settid tid => Sys2Proof.Machine.execSettid tid s
  | .getpldmversion type => Sys2Proof.Machine.execGetpldmversion type s
  | .getpldmtypes => Sys2Proof.Machine.execGetpldmtypes s
  | .getpldmcommands type => Sys2Proof.Machine.execGetpldmcommands type s
  | .getpdrrepositoryinfo => Sys2Proof.Machine.execGetpdrrepositoryinfo s
  | .getpdr record => Sys2Proof.Machine.execGetpdr record s
  | .getsensorreading id => Sys2Proof.Machine.execGetsensorreading id s
  | .getstatesensorreadings id => Sys2Proof.Machine.execGetstatesensorreadings id s
  | .seteventreceiver enable a => Sys2Proof.Machine.execSeteventreceiver enable a s
  | .requestupdate l => Sys2Proof.Machine.execRequestupdate l s
  | .activatefirmware selfContained => Sys2Proof.Machine.execActivatefirmware selfContained s
  | .cancelupdate => Sys2Proof.Machine.execCancelupdate s
  | .jtagTapReset => Sys2Proof.Machine.execJtagTapReset s
  | .idcode => Sys2Proof.Machine.execIdcode s
  | .bypass => Sys2Proof.Machine.execBypass s
  | .samplePreload => Sys2Proof.Machine.execSamplePreload s
  | .extest => Sys2Proof.Machine.execExtest s
  | .intest => Sys2Proof.Machine.execIntest s
  | .clamp => Sys2Proof.Machine.execClamp s
  | .highz => Sys2Proof.Machine.execHighz s
  | .calibrationRefresh channel => Sys2Proof.Machine.execCalibrationRefresh channel s
  | .clkreqNChange j deasserted => Sys2Proof.Machine.execClkreqNChange j deasserted s
  | .integratedSwitchRoute source a n posted => Sys2Proof.Machine.execIntegratedSwitchRoute source a n posted s
  | .bar0Request t o => Sys2Proof.Machine.execBar0Request t o s
  | .delayRequest j seq => Sys2Proof.Machine.execDelayRequest j seq s
  | .i3cDynamicAddress a => Sys2Proof.Machine.execI3cDynamicAddress a s

end Sys2Proof.Machine
end

