-- ==== Sys2Proof/Safety.lean ====
section
/-!
DEFINITION. The terms in which claims are made: a step that runs, a Nib that issues one syllable as a bundle of its own, what such a
bundle leaves, and a mailbox command that is served.
-/

namespace Sys2Proof.Machine

/-- A step that neither faults nor is refused. -/
def runs (s : State) : Prop := ∃ t, step s = .next t

/-! ### Nibs -/

/-- The Nib as its next bundle reads it: every due result has landed (R90). -/
def readyNib (s : State) (n : Nat) : Nib := landDue (getNib s n)

/-- What the bundle of the one syllable x reads (R90). -/
def loneCtx (s : State) (n : Nat) (x : Syl) : Ctx := bundleCtx s n (sylBytes x)

/-- Nib n can issue the bundle of the one syllable x: it is RUNNING and not HALTED, it fetches nothing else, no stream or unit error
waits to be raised, and the syllable lies inside the code region in words without errors (R38, R43, R51, R53, R57). -/
abbrev Issues (s : State) (n : Nat) (x : Syl) : Prop :=
  (getNib s n).st = .running ∧ (getNib s n).halted = false ∧ (getNib s n).openSyls = [] ∧ (getNib s n).streamErr = none ∧
  (getNib s n).unitErr = none ∧ (getCore s (n / 4)).codeBase ≤ (readyNib s n).pc.toNat ∧
  (readyNib s n).pc.toNat + sylBytes x ≤ (getCore s (n / 4)).codeBase + (getCore s (n / 4)).codeBytes ∧
  scratchErrs (getCore s (n / 4)) (readyNib s n).pc.toNat (sylBytes x) = []

/-- The scratch offset past the bundle of the one syllable x. -/
def pcPast (s : State) (n : Nat) (x : Syl) : Nat := (readyNib s n).pc.toNat + sylBytes x

/-- The Nib r after a bundle of one syllable that stores nothing, leaves its results in y and continues at pc: one bundle more is
issued, and the g file that it read is the one that early reads see (R35, R61, R98). -/
def issued (r y : Nib) (pc : Nat) : Nib :=
  { y with
    bundles := r.bundles + 1
    gEarly := r.g
    undo := []
    openSyls := []
    pc := BitVec.ofNat 32 pc }

/-- Between two states only the registers of Nib n differ: no other Nib, no core, and nothing else of the module. -/
def OnlyNib (s t : State) (n : Nat) : Prop :=
  t = { s with nibs := t.nibs, cores := t.cores } ∧ (∀ k, getCore t k = getCore s k) ∧ ∀ m, m ≠ n → getNib t m = getNib s m

/-! ### Mailbox commands -/

/-- The state in which the meaning of a mailbox command finds the module: it has left a level from W1 to W3, an expired lease has been
settled, the request stands in the page and the doorbell is counted (R285, R294, R301, R500). -/
def begun (c : Cmd) (m : Mbx) (s : State) : State :=
  let b := writeRequest c.opcode m (settleLease (awake s) m.page.val)
  if m.page.val = devPage then b else count b kPtl m.page.val 8 1

/-- A command is served: its page answers and is not busy, the checks of R295 pass, and no earlier command in progress holds its
object (R297). -/
abbrev Served (c : Cmd) (m : Mbx) (s : State) : Prop :=
  pageAnswers s m.page.val = true ∧ (getPage (begun c m s) m.page.val).busy = false ∧ mbxRefusal c m (begun c m s) = none ∧
  (c.canPend && objHeld (getPage (begun c m s) m.page.val) (c.obj m)) = false

/-- The state once the final response to a command has been posted (R294). -/
def answered (m : Mbx) (r : Reply) (t : State) : State := respond t m.page.val m.tag.toNat m.irq r

/-- A mailbox command that leaves t and answers r. -/
def Answers (i : Instr) (m : Mbx) (s t : State) (r : Reply) : Prop := exec i s = .next (answered m r t)

end Sys2Proof.Machine
end

