-- ==== Sys2Proof/Certificates/Slice0/Terms.lean ====
section
/-!
DEFINITION. The tables in which the statements list commands of one shape: each row is a command with what the manual says it
delivers.
-/

namespace Sys2Proof.Claims

open Sys2Proof.Machine

/-! ### Nib syllables -/

/-- A syllable with its command: the instruction, the syllable and its value. -/
structure SylRow (F V : Type) where
  ins : NibId → Bool → F → Instr
  syl : F → Syl
  val : V

/-- R114, R115: the operands of an S-ALU syllable: destination and sources. -/
def aluRegs : AluForm → Nat × Nat × Nat
  | .short f => (f.a.toNat, f.a.toNat, f.b.toNat)
  | .long f => (f.d.toNat, f.a.toNat, f.b.toNat)

def wordIf (b : Bool) : W32 := if b then 1 else 0

/-- R115: the S-ALU syllables that have a short form too. -/
def aluRows : List (SylRow AluForm (W32 → W32 → W32)) := [
  ⟨.add, .add, fun a b => a + b⟩,
  ⟨.sub, .sub, fun a b => a - b⟩,
  ⟨.andS, .andS, fun a b => a &&& b⟩,
  ⟨.orS, .orS, fun a b => a ||| b⟩,
  ⟨.xorS, .xorS, fun a b => a ^^^ b⟩,
  ⟨.shl, .shl, fun a b => a <<< (b.toNat % 32)⟩,
  ⟨.shr, .shr, fun a b => a >>> (b.toNat % 32)⟩,
  ⟨.sra, .sra, fun a b => a.sshiftRight (b.toNat % 32)⟩,
  ⟨.cmpeq, .cmpeq, fun a b => wordIf (a == b)⟩,
  ⟨.cmplt, .cmplt, fun a b => wordIf (decide (a.toInt < b.toInt))⟩]

/-- R115: the S-ALU syllables with the long form only. -/
def rrRows : List (SylRow RR (W32 → W32 → W32)) := [
  ⟨.andn, .andn, fun a b => a &&& ~~~b⟩,
  ⟨.rol, .rol, fun a b => a.rotateLeft (b.toNat % 32)⟩,
  ⟨.mul, .mul, fun a b => BitVec.ofNat 32 (a.toNat * b.toNat)⟩,
  ⟨.mulhu, .mulhu, fun a b => BitVec.ofNat 32 (a.toNat * b.toNat / 2 ^ 32)⟩,
  ⟨.mulhs, .mulhs, fun a b => BitVec.ofInt 32 (a.toInt * b.toInt / 2 ^ 32)⟩,
  ⟨.min, .min, fun a b => if a.toInt < b.toInt then a else b⟩,
  ⟨.max, .max, fun a b => if a.toInt < b.toInt then b else a⟩,
  ⟨.minu, .minu, fun a b => if a.toNat < b.toNat then a else b⟩,
  ⟨.maxu, .maxu, fun a b => if a.toNat < b.toNat then b else a⟩,
  ⟨.cmpne, .cmpne, fun a b => wordIf (a != b)⟩,
  ⟨.cmpltu, .cmpltu, fun a b => wordIf (decide (a.toNat < b.toNat))⟩,
  ⟨.cmple, .cmple, fun a b => wordIf (decide (a.toInt ≤ b.toInt))⟩,
  ⟨.cmpleu, .cmpleu, fun a b => wordIf (decide (a.toNat ≤ b.toNat))⟩]

/-- R115: the count of leading zeros of a word. -/
def leadingZeros (a : W32) : Nat := ((List.range 32).takeWhile (fun i => !a.toNat.testBit (31 - i))).length

/-- R115: the count of set bits of a word. -/
def setBitsOf (a : W32) : Nat := ((List.range 32).filter (fun i => a.toNat.testBit i)).length

/-- R115: the counts, whose field b must be 0. -/
def countRows : List (SylRow RR (W32 → Nat)) := [⟨.clz, .clz, leadingZeros⟩, ⟨.popc, .popc, setBitsOf⟩]

/-- R116: the immediate syllables of format LI, whose value is of g[a] and the immediate. -/
def immRows : List (SylRow LI (W32 → BitVec 14 → W32)) := [
  ⟨.andi, .andi, fun a i => a &&& i.setWidth 32⟩,
  ⟨.ori, .ori, fun a i => a ||| i.setWidth 32⟩,
  ⟨.xori, .xori, fun a i => a ^^^ i.setWidth 32⟩,
  ⟨.slti, .slti, fun a i => wordIf (decide (a.toInt < i.toInt))⟩]

/-- R116: shifts by an immediate amount. -/
def shiftImmRows : List (SylRow ShiftImm (W32 → Nat → W32)) := [
  ⟨.shli, .shli, fun a n => a <<< n⟩,
  ⟨.shri, .shri, fun a n => a >>> n⟩,
  ⟨.srai, .srai, fun a n => a.sshiftRight n⟩,
  ⟨.roli, .roli, fun a n => a.rotateLeft n⟩]

/-- R32: the value that MFC reads of a control register of the Nib r; offsets without a register read zero. -/
def crValue (s : State) (r : Nib) (o : Nat) : W32 :=
  (look [(0, r.pc), (1, r.sp), (2, r.stackLo), (3, r.stackHi), (4, r.nibSelf), (5, r.coreCount), (6, wordIf r.compat),
    (7, BitVec.ofNat 32 r.flags), (8, r.rmode), (9, r.seed.setWidth 32), (10, (r.seed >>> 32).setWidth 32),
    (11, s.elapsed.setWidth 32), (12, r.timeHi),
    (13, BitVec.ofNat 32 ((r.streams.map (fun t => 2 ^ t.tag)).foldl (· ||| ·) 0)), (14, r.launchTag.setWidth 32)] o).getD 0

/-- R117: what an MTC of x to offset o lands; a write of flags clears the bits that are 1. -/
def crLand (r : Nib) (o : Nat) (x : W32) : Land :=
  if o = 7 then .clearFlags (if r.compat then x.toNat % 256 else x.toNat) else .cr o x

/-! Scratch (R118, R119) -/

/-- R98: a g register as an address or a Y operand reads it. -/
def addrReg (r : Nib) (i : Nat) : W32 := gGet (if r.compat then r.gEarly else r.g) i

/-- R118: the effective address of a long form with accesses of n bytes. -/
def addrLI (r : Nib) (f : LI) (n : Nat) : Nat := (addrReg r f.a.toNat + f.imm.signExtend 32 * BitVec.ofNat 32 n).toNat

/-- R37: an access of n bytes at an offset is inside scratch and aligned. -/
def accessOk (ea n : Nat) : Prop := ea < 2 ^ 20 ∧ ea % n = 0

/-- R119: loads into a g register in format LI: bytes, and the extension of what they spell. -/
def loadRows : List (SylRow LI (Nat × (Nat → W32))) := [
  ⟨.ldb, .ldb, 1, fun x => (BitVec.ofNat 8 x).signExtend 32⟩,
  ⟨.ldbu, .ldbu, 1, fun x => BitVec.ofNat 32 x⟩,
  ⟨.ldh, .ldh, 2, fun x => (BitVec.ofNat 16 x).signExtend 32⟩,
  ⟨.ldhu, .ldhu, 2, fun x => BitVec.ofNat 32 x⟩]

/-- R119: loads into a v register in format LI. -/
def loadVRows : List (SylRow LI Nat) := [⟨.vld64, .vld64, 64⟩, ⟨.vld128, .vld128, 128⟩]

/-- R119: stores in format LI: bytes, and the number whose low bytes are stored. -/
def storeRows : List (SylRow LI (Nat × (Nib → Nat → Nat))) := [
  ⟨.stb, .stb, 1, fun r d => (gGet r.g d).toNat⟩,
  ⟨.sth, .sth, 2, fun r d => (gGet r.g d).toNat⟩,
  ⟨.vst64, .vst64, 64, fun r d => (r.v[d]?.getD 0).toNat⟩,
  ⟨.vst128, .vst128, 128, fun r d => (r.v[d]?.getD 0).toNat⟩]

/-- Between two states the bundle of Nib n has issued with the stores of n bytes of x at ea, and nothing else of the module differs:
the stored bytes read as stored, every other byte of the core's scratch reads as before, and every other field of the core but its
owner tags and the errors of the words written stays. -/
def Stored (s t : State) (n : Nat) (x : Syl) (ea k v : Nat) : Prop :=
  t = { s with nibs := t.nibs, cores := t.cores } ∧
  (∀ m, m ≠ n → getNib t m = getNib s m) ∧ (∀ m, m ≠ n / 4 → getCore t m = getCore s m) ∧
  (∃ u, getNib t n = { issued (readyNib s n) (readyNib s n) (pcPast s n x) with undo := u }) ∧
  (getCore t (n / 4) = { getCore s (n / 4) with
    scratch := (getCore t (n / 4)).scratch, tags := (getCore t (n / 4)).tags, errs := (getCore t (n / 4)).errs }) ∧
  (∀ a, a < ea ∨ ea + k ≤ a → scratchByte (getCore t (n / 4)) a = scratchByte (getCore s (n / 4)) a) ∧
  (∀ j, j < k → scratchByte (getCore t (n / 4)) (ea + j) = BitVec.ofNat 8 (v / 256 ^ j))

/-- The words of an access hold no cell error, and the access does not touch the code region (R38, R43). -/
def cleanAccess (s : State) (n ea k : Nat) : Prop := scratchErrs (getCore s (n / 4)) ea k = []
def outsideCode (s : State) (n ea k : Nat) : Prop :=
  overlaps ea k (getCore s (n / 4)).codeBase (getCore s (n / 4)).codeBytes = false

/-! V class (R120 to R123) -/

def vNat (r : Nib) (i : Nat) : Nat := (r.v[i]?.getD 0).toNat

/-- R65: the rounding mode of rmode. -/
def modeOf (r : Nib) : RMode := RMode.ofCode (r.rmode.toNat % 8)

/-- R67: the draw of a lane, from the generator state after its one advance. -/
def drawOf (r : Nib) (md : RMode) (i : Nat) : Nat := if md = .stochastic then seedDraw (seedNext r.seed) i else 0

/-- R67: a stochastic syllable advances the generator once. -/
def seeded (r : Nib) (md : RMode) : Nib := if md = .stochastic then { r with seed := seedNext r.seed } else r

def withFlags (r : Nib) (f : Flags) : Nib := { r with flags := r.flags ||| f }

/-- The Nib r after results for elements k onward of width w of v[d] (all of the register where they fill it) by class c, rounded
under md. -/
def vectorResult (r : Nib) (d w k : Nat) (rs : List (Nat × Flags)) (c : Nat) (md : RMode) : Nib :=
  withFlags (landAt (seeded r md) c (.v d (BitVec.ofNat 2048 (elemMask w k rs.length)) (BitVec.ofNat 2048 (ofElems w (rs.map (·.1)) * 2 ^ (w * k)))))
    ((rs.map (·.2)).foldl (· ||| ·) 0)

/-- The same for one result into g[d]. -/
def scalarResult (r : Nib) (d : Nat) (z : Nat × Flags) (c : Nat) (md : RMode) : Nib :=
  withFlags (landAt (seeded r md) c (.g d (BitVec.ofNat 32 z.1))) z.2

/-- R120: element i of operand b: of v[b], or the low bits of g[b]. -/
def elemB (r : Nib) (x : LaneArgs) (i : Nat) : Nat :=
  if x.bg then (gGet r.g (x.b % 32)).toNat % 2 ^ x.fmt.width else elem (vNat r x.b) x.fmt.width i

/-- R121: a binary operation on elements, integer and floating. -/
def arith (op : Int → Int → Int) (fop : XV → XV → XV × Flags) (m : Fmt) (md : RMode) (r x y : Nat) : Nat × Flags :=
  if m.isInt then (wrapN m.width (op (sInt m.width x) (sInt m.width y)), 0)
  else roundOp m md r [decodeX m x, decodeX m y] (fop (decodeX m x) (decodeX m y))

/-- R121: the V-lane syllables that round, and those that do not. -/
def laneArithRows : List (SylRow LaneForm (Fmt → RMode → Nat → Nat → Nat → Nat × Flags)) := [
  ⟨.vadd, .vadd, arith (· + ·) addX⟩,
  ⟨.vsub, .vsub, arith (· - ·) (fun a b => addX a (negX b))⟩,
  ⟨.vmul, .vmul, arith (· * ·) mulX⟩]

def laneExactRows : List (SylRow LaneForm (Fmt → Nat → Nat → Nat × Flags)) := [
  ⟨.vmin, .vmin, pickMin false⟩,
  ⟨.vmax, .vmax, pickMin true⟩,
  ⟨.vcmpeq, .vcmpeq, cmpLane eqX⟩,
  ⟨.vcmplt, .vcmplt, cmpLane ltX⟩,
  ⟨.vcmple, .vcmple, cmpLane (fun a b => ltX a b || eqX a b)⟩,
  ⟨.vand, .vand, fun _ x y => (x &&& y, 0)⟩,
  ⟨.vor, .vor, fun _ x y => (x ||| y, 0)⟩,
  ⟨.vxor, .vxor, fun _ x y => (x ^^^ y, 0)⟩]

/-- R121: the sign operations, whose fields b and bg are 0. -/
def laneSignRows : List (SylRow LaneForm (Fmt → Nat → Nat × Flags)) := [
  ⟨.vabs, .vabs, fun m x => if m.isInt then (wrapN m.width (sInt m.width x).natAbs, 0) else signOp m (fun b => b % 2 ^ (m.width - 1)) x⟩,
  ⟨.vneg, .vneg, fun m x => if m.isInt then (wrapN m.width (-(sInt m.width x)), 0) else signOp m (fun b => b ^^^ 2 ^ (m.width - 1)) x⟩]

/-- R121: the shifts, on INT32 and INT8 elements. -/
def laneShiftRows : List (SylRow LaneForm (Nat → Nat → Nat → Nat)) := [
  ⟨.vshl, .vshl, fun w x n => x * 2 ^ n % 2 ^ w⟩,
  ⟨.vshr, .vshr, fun _ x n => x / 2 ^ n⟩,
  ⟨.vsra, .vsra, fun w x n => wrapN w (sInt w x / (2 ^ n : Nat))⟩]

/-! X class (R73 to R80, R124 to R127) -/

/-- R94: an X result of class d into a p or la register is in flight for d bundles. -/
def inFlight (r : Nib) (d : Nat) (l : Land) : Nib := { r with flight := r.flight ++ [⟨r.bundles + d, l⟩] }

/-- R35: an X-class result for the register is still in flight; in native mode a read of it sets the stale flag (R97). -/
def staleOf (r : Nib) (la : Bool) (i : Nat) : Flags :=
  if !r.compat && r.flight.any (fun f => match f.land with | .p q _ => !la && q == i | .la q _ => la && q == i | _ => false) then 1 else 0

def laRow (r : Nib) (i : Nat) : List LaLane := (r.la[i]?.getD (Vector.replicate 64 LaLane.zero)).toList
def pRow (r : Nib) (i : Nat) : List (BitVec 96) := (r.p[i]?.getD (Vector.replicate 64 0)).toList

/-- R94, R98: the class of a readout. -/
def readoutClass (r : Nib) : Nat := if r.compat then 2 else 1

/-- R78, R127: a rounded readout of 64 lanes with their flags under the fields of fn. -/
def readoutOf (r : Nib) (fn d : Nat) (t : Fmt) (xs : List (XV × Flags)) (stale : Flags) : Nib :=
  let md := RMode.ofCode (fn / 8 % 8)
  let rs := xs.mapIdx (fun i x =>
    let z := roundTo t md (bitAt fn 6) (drawOf r md i) x.1
    (z.1, z.2 ||| x.2))
  withFlags (vectorResult r d t.width (64 * (fn / 128 % 4)) rs (readoutClass r) md) stale

/-- R127: the fields of a rounded readout are none of them reserved. -/
def readoutOk (f : LR) (t : Fmt) : Prop :=
  readFmt (f.fn.toNat % 8) = some t ∧ f.fn.toNat / 8 % 8 ≤ 4 ∧ (bitAt f.fn.toNat 6 = true → t = .e4m3 ∨ t = .e5m2) ∧
  64 * (f.fn.toNat / 128 % 4 + 1) * t.width ≤ 2048 ∧ f.b = 0

/-! B class (R100 to R105, R128) -/

/-- R87: a target in halfwords from the bundle's first byte. -/
def target {w : Nat} (r : Nib) (off : BitVec w) : Nat := (r.pc + off.signExtend 32 * 2).toNat

/-- R128: the compare and branch syllables with their conditions. -/
def branchRows : List (SylRow LY (W32 → W32 → Prop)) := [
  ⟨.beq, .beq, fun a b => a = b⟩,
  ⟨.bne, .bne, fun a b => a ≠ b⟩,
  ⟨.blt, .blt, fun a b => a.toInt < b.toInt⟩,
  ⟨.bltu, .bltu, fun a b => a.toNat < b.toNat⟩]

/-- R128: the conditions of BC by their code. -/
def branchCond (cond : Nat) (x : Int) : Prop :=
  (cond = 0 ∧ x = 0) ∨ (cond = 1 ∧ x ≠ 0) ∨ (cond = 2 ∧ x < 0) ∨ (cond = 3 ∧ 0 ≤ x) ∨ (cond = 4 ∧ 0 < x) ∨ (cond = 5 ∧ x ≤ 0)

/-- R101: the mask of a call: g1 to g31 as the mask register names them. -/
def callMask (r : Nib) (a : BitVec 5) : Nat := (gGet r.g a.toNat).toNat / 2 * 2

/-- R101: sp is aligned and inside the stack, which has room for the frame. -/
def callOk (r : Nib) (mask : Nat) : Prop :=
  r.sp.toNat % 16 = 0 ∧ r.stackLo.toNat + frameSize mask ≤ r.sp.toNat ∧ r.sp.toNat ≤ r.stackHi.toNat

/-- R101, R102: between two states the call of Nib n has issued: the frame of the saved registers lies below the old sp, sp points at
it, and the Nib continues at the target; the frame's first words are the return offset, the mask and the old sp, and the saved
registers follow in ascending order. -/
def Called (s t : State) (n : Nat) (x : Syl) (mask dest : Nat) : Prop :=
  let r := readyNib s n
  let base := r.sp.toNat - frameSize mask
  let k := getCore t (n / 4)
  t = { s with nibs := t.nibs, cores := t.cores } ∧
  (∀ m, m ≠ n → getNib t m = getNib s m) ∧ (∀ m, m ≠ n / 4 → getCore t m = getCore s m) ∧
  (∃ u, getNib t n = { issued r (landAt r 1 (.sp (BitVec.ofNat 32 base))) dest with undo := u }) ∧
  (∀ a, a < base ∨ r.sp.toNat ≤ a → scratchByte k a = scratchByte (getCore s (n / 4)) a) ∧
  leNat (scratchRead k base 4) = pcPast s n x % 2 ^ 32 ∧
  leNat (scratchRead k (base + 4) 4) = mask ∧
  leNat (scratchRead k (base + 8) 4) = r.sp.toNat ∧
  leNat (scratchRead k (base + 12) 4) = 0 ∧
  ∀ j i, (onesOf 32 mask)[j]? = some i → leNat (scratchRead k (base + 16 + 4 * j) 4) = (gGet r.g i).toNat

/-! Y class (R44 to R47, R130, R179) -/

/-- R130: the updates that SIGNAL, SIGNALI and CONSUME send: the amount, from the Nib's registers and the syllable. -/
def signalRows : List (SylRow LY ((LY → Prop) × (Nib → LY → Int))) := [
  ⟨.signal, .signal, fun f => f.imm = 0, fun r f => (addrReg r f.b.toNat).toInt⟩,
  ⟨.signali, .signali, fun f => f.b = 0, fun _ f => f.imm.toNat⟩,
  ⟨.consume, .consume, fun f => f.imm = 0, fun r f => -(addrReg r f.b.toNat).toInt⟩]

/-- The sync counters of the petal that Nib n's core belongs to (R420). -/
def petalCounters (s : State) (n : Nat) : Nat :=
  match getPetal s (petalOfNib s n) with
  | some q => recCounters q.record
  | none => 0

/-- R130: the 64-bit operand of a wait, g[b+1]:g[b]. -/
def waitTarget (r : Nib) (b : Nat) : W64 := addrReg r (b + 1) ++ addrReg r b

end Sys2Proof.Claims
end

