-- ==== Sys2Proof/WellFormed.lean ====
section
/-!
DEFINITION. Which commands are well formed. Most operand types hold exactly what the manual allows, so a check is left only where an
operand holds a list, or bytes at an offset.
-/

namespace Sys2Proof

/-- R317: a memory request of at least one byte does not cross a 4 KiB boundary, and a write carries at most the 512 bytes of Max
Payload Size (R314). -/
def tlpOk (t : Tlp) (o : Nat) : Bool :=
  match t.op with
  | .read n => decide (0 < n.val) && decide (o % 4096 + n.val ≤ 4096)
  | .write l => decide (0 < l.length) && decide (l.length ≤ 512) && decide (o % 4096 + l.length ≤ 4096)

/-- A frame on the wire is a non-empty list of bytes; what its length does to it is the receiver's business (R368). -/
def frameOk (f : List Byte) : Bool := f != []

/-- R111: the operand of MOV that stands for a word without a mnemonic holds such a word, of the length its long bit says. -/
def movOk : MovForm → Bool
  | .short _ => true
  | .unassigned w l => Machine.bitAt w.toNat 3 == l && (Machine.decodeSyl (Machine.sylEnc (.mov (.unassigned w l))).1).isNone

/-- R122: which short forms an operation of the V lanes has. -/
def laneOk (shortF shortI : Bool) : LaneForm → Bool
  | .shortF _ => shortF
  | .shortI _ => shortI
  | .long .. => true

/-- Is a command well formed? -/
def WellFormed (i : Instr) : Bool :=
  match i with
  | .add .. | .sub .. | .andS .. | .orS .. | .xorS .. | .andn .. | .shl .. | .shr .. | .sra .. | .rol .. | .mul .. | .mulhu ..
  | .mulhs .. | .min .. | .max .. | .minu .. | .maxu .. | .clz .. | .popc .. | .cmpeq .. | .cmpne .. | .cmplt .. | .cmpltu ..
  | .cmple .. | .cmpleu .. | .addi .. | .andi .. | .ori .. | .xori .. | .shli .. | .shri .. | .srai .. | .roli .. | .slti ..
  | .movi .. | .movhi .. | .mfc .. | .mtc .. | .ldb .. | .ldbu .. => true
  | .ldh .. | .ldhu .. | .ldw .. | .stb .. | .sth .. | .stw .. | .vld64 .. | .vld128 .. | .vld256 .. | .vst64 .. | .vst128 ..
  | .vst256 .. | .vldx .. | .vstx .. | .vfma .. | .vmov .. | .vcvt .. | .vmxs .. | .vmxq .. | .vmxd .. | .exps .. | .maxrun ..
  | .vrsum .. | .vrmax .. | .vrmin .. | .vbcast .. | .vext .. | .vins .. | .vshuf .. | .vsplati .. | .vsel .. | .xmul ..
  | .xmacLa .. | .xaddLa .. | .xclrLa .. | .prd .. | .lard .. | .lard1 .. | .xmulv .. | .xdot .. => true
  | .xResultLand _ | .endS .. | .trap .. | .ret .. | .call .. | .callr .. | .br .. | .bc .. | .brr .. | .dbnz .. | .beq ..
  | .bne .. | .blt .. | .bltu .. | .sfencea .. | .sfencet .. | .sfence .. | .stream .. | .signal .. | .signali .. | .consume ..
  | .wait .. | .waitc .. | .evpost .. | .streamComplete _ _ | .lchSqTail .. | .lchCqHead .. | .launchAccept _ _
  | .launchStart _ _ | .launchHeadReserve _ _ | .launchComplete _ _ | .launchTimeout _ _ | .lchImageRegister _
  | .lchImageRelease _ | .lchQueueCreate _ | .lchQueueDestroy _ | .lchAbort _ | .hostHello _ | .identify _ | .leaseRenew _ => true
  | .hostGoodbye _ | .epochCommit _ | .epochCommitPoint _ | .epochDrainComplete _ | .epochDrainOverdue _ | .epochDiscard _
  | .counterSnapshot _ | .msixAssign _ | .ptlMbxLateAck _ _ | .ptlLeaseRenew _ _ | .lateRecordPost .. | .leaseExpiry _
  | .deviceLeaseExpiry | .registerWrite _ _ | .createPetal _ | .resizePetal _ | .quiescePetal _ | .petalQuiesced _
  | .quiesceDrainExpiry _ | .enablePetal _ | .resetPetal _ | .destroyPetal _ | .queryPetal _ | .bindPetal _ | .acceptBinding _
  | .setShares _ | .winGrant _ | .winMap _ | .winQuery _ | .memPin _ | .memUnpin _ | .memPolicySet _ | .memPolicyGet _
  | .memScrubSet _ | .startUpFillComplete _ | .heatInterval _ | .pageMoveStart _ _ | .pageMoveSwitch _ _ | .pageMoveRelease _ _
  | .blotterScrubLine .. => true
  | .scratchScrub _ _ | .colCommCreate _ | .colCommDestroy _ | .colAbort _ | .colSqTail .. | .colCqHead .. | .colOpAccept _ _
  | .colOpStart _ _ | .colOpComplete .. | .colOpTimeout _ _ | .colJoinTimeout _ _ | .join .. | .broken .. | .step ..
  | .atnCtxCreate _ | .atnCtxDestroy _ | .atnRingCreate _ | .atnRingDestroy _ | .atnSeqCreate _ | .atnSeqDestroy _ | .atnAbort _
  | .atnSqTail .. | .atnCqHead .. | .atnEntryAccept .. | .atnEntryStart .. | .atnEntryComplete .. | .atnEntryTimeout _ _
  | .atnSpill _ _ | .atnSpillWriteDone .. | .sclQpCreate _ | .sclQpDestroy _ | .sclVolCreate _ | .sclVolDestroy _ | .sclAbort _
  | .sclGetLog _ | .sclRestartQueue _ | .sclSelfTest _ | .sclSelfTestResume _ _ | .sclSelfTestComplete .. | .sclIdentify _ => true
  | .sclDbSqTail .. | .sclDbCqHead .. | .sclCmdAccept _ _ | .sclCmdBegin _ _ | .sclCmdComplete .. | .sclTargetTimeout _ _
  | .sclDestageStart .. | .sclDestageRetry .. | .sclKeepAlive _ _ | .sclConnectTimeout _ _ | .sclVolIdle _ _ | .netPortMode _
  | .netPortSet _ | .netPortQuery _ | .prsRuleSet _ | .prsRangeSet _ | .prsRuleGet _ | .schQueueSet _ | .schGateSet _
  | .schLimiterSet _ | .ethFrameTransmit _ _ | .slowPathFrame _ | .portLinkUp .. | .portLinkDown _ | .ptpClockAdjust ..
  | .gateEntryExpiry _ | .gateListTakeover _ | .limiterRelease _ | .wheelCascade _ | .rdmAddrSet _ | .rdmLabelSet _
  | .rdmCqCreate _ | .rdmCqDestroy _ | .rdmQpCreate _ | .rdmQpConnect _ | .rdmQpDestroy _ | .rdmQpQuery _ | .rdmMrReg _
  | .rdmMrDereg _ | .rdmSqDb _ _ => true
  | .rdmRqDb _ _ | .rdmCqDb _ _ | .rdmSendStart _ _ | .rdmPacketReceive _ | .remoteSignal _ | .rdmAckReceive _ | .rdmNakReceive _
  | .cnp _ | .rdmRetransmitTimeout _ _ | .rdmRnrTimer _ _ | .rdmAckTimer _ _ | .rdmMessageAbandon _ _ | .rdmContextFetch _ _
  | .counterUpdateApply _ | .watchTimeout _ _ | .synRead _ | .synAdd _ | .synWatchSet _ | .synWatchCancel _ | .synDebugSet _
  | .irqRaise _ | .irqClaim _ | .irqEoi _ _ | .irqSrcRearm _ _ | .irqStuckRearm _ | .alertNSense | .keyAttest _ | .keyCert _
  | .keyInject _ | .keySessionClose _ | .keySessionTimeout _ | .keyDestroy _ | .keyQuery _ | .cphQueueCreate _
  | .cphQueueDestroy _ | .cphAbort _ | .cphSqTail .. | .cphCqHead .. | .cphRequestAccept _ _ | .cphRequestStart _ _ => true
  | .cphRequestComplete _ _ | .rollbackRaise | .pwrRateSet _ | .pwrLevelSet _ | .pwrLevelAuto _ | .pwrQuery _
  | .unitIdleEntry _ _ | .unitWake _ _ | .moduleLevelEntry | .moduleWake | .moduleIdleReturn | .thermalLimitStep _
  | .powerLimitStep | .mgtLogRead _ | .mgtCalRead _ | .mgtCalWrite _ | .mgtUpdateStage _ | .mgtUpdateActivate _
  | .mgtSensorRead _ | .mgtAlertClear _ | .mgtOutputStatus _ | .mgtModuleReset _ | .quillHeartbeat _ | .heartbeatMiss _ _
  | .journalTakeover _ _ | .quillReturn _ | .inkstandWdRefresh | .inkstandWdExpiry | .inkstandRestartDone _ | .logFlush
  | .dbgChallenge _ | .dbgNonceLapse _ | .dbgAuthLoad _ | .dbgOpen _ | .dbgD2DrainExpiry | .dbgClose _ | .dbgSessionExpiry _
  | .dbgQuery _ | .dbgNibHalt _ | .dbgNibResume _ => true
  | .dbgNibRead _ | .dbgScratchRead _ | .dbgFwRead _ | .lifecycleRetire _ | .dbgOperatorKeySet _ | .pcieCompletionReceive ..
  | .pcieCompletionTimeout _ | .pcieTagHoldExpiry _ | .atsInvalidation .. | .functionLevelReset | .flrComplete | .hotReset _
  | .secondaryBusReset _ | .perstAssert | .perstDeassert _ | .linkTraining .. | .linkL1Entry _ | .linkWidthChange _ _
  | .slotPowerOn _ | .slotPowerOff _ | .slotPowerOffDone _ | .slotIndicatorSet .. | .presenceChange .. | .attentionButton _ _
  | .rearm _ | .surpriseRemoval _ | .inputValid _ | .regulatorsUp | .firmwareReady | .bootAttemptFail _ | .recoveryEntry _
  | .moduleReset _ | .inputUndervoltage _ | .inputOvervoltage | .inputReturn _ | .pwrEnLow | .pwrEnHigh _ | .outputOvercurrent _
  | .refclkLoss _ | .refclkReturn _ => true
  | .thermtrip _ _ | .memoryDeviceFailure _ _ | .setEndpointId _ _ | .getEndpointId | .getMctpVersionSupport _
  | .getMessageTypeSupport | .getEndpointUuid | .gettid | .settid _ | .getpldmversion _ | .getpldmtypes | .getpldmcommands _
  | .getpdrrepositoryinfo | .getpdr _ | .getsensorreading _ | .getstatesensorreadings _ | .seteventreceiver _ _
  | .activatefirmware _ | .cancelupdate | .jtagTapReset | .idcode | .bypass | .samplePreload | .extest | .intest | .clamp
  | .highz | .calibrationRefresh _ | .clkreqNChange _ _ | .delayRequest _ _ | .i3cDynamicAddress _ => true
  | .bar0Request t o => tlpOk t o.toNat
  | .bar2Request t o => tlpOk t o.toNat
  | .bar4Request t o => tlpOk t o.toNat
  | .integratedSwitchRoute _ a n _ => decide (a.toNat % 4096 + n.val ≤ 4096)
  | .sensorSample x => x.temps.length == 96 && x.volts.length == 64 && x.rails.length == 11
  | .energyInterval x => x.rails.length == 11 && x.other.length == 11
  | .ethFrameReceive _ f => frameOk f
  | .mov _ _ f => movOk f
  | .vadd _ _ f => laneOk true true f
  | .vsub _ _ f => laneOk true true f
  | .vmul _ _ f => laneOk true false f
  | .vmax _ _ f => laneOk true false f
  | .vand _ _ f => laneOk true false f
  | .vor _ _ f => laneOk true false f
  | .vxor _ _ f => laneOk true false f
  | .vmin _ _ f => laneOk false false f
  | .vabs _ _ f => laneOk false false f
  | .vneg _ _ f => laneOk false false f
  | .vcmpeq _ _ f => laneOk false false f
  | .vcmplt _ _ f => laneOk false false f
  | .vcmple _ _ f => laneOk false false f
  | .vshl _ _ f => laneOk false false f
  | .vshr _ _ f => laneOk false false f
  | .vsra _ _ f => laneOk false false f
  | .requestupdate l => decide (l.length ≤ 100663296)

end Sys2Proof
end

