-- ==== Sys2Proof/Certificates/Slice0/Views.lean ====
section
/-!
DEFINITION. The terms of the statements about the mailbox, the services and the links: what a command asks for, and what can be seen
of the module after it.
-/

namespace Sys2Proof.Claims

open Sys2Proof.Machine

/-! Staged settings (R250, R253) -/

/-- R306, R310, R274, R283, R146, R155, R366, R387, R370, R388, R389, R386, R394: the commands that stage their request, each with the
conditions on its fields. -/
def stageRows : List (Cmd × (State → Mbx → Bool)) := [
  (cmdMsixAssign, fun _ m => decide (1 ≤ mf m 0x10 16 12 ∧ mf m 0x10 0 11 + mf m 0x10 16 12 ≤ 2048 ∧
    (mf m 0x14 0 10 ≤ 0x200 ∨ mf m 0x14 0 10 = 0x3FF))),
  (cmdWinGrant, fun _ m => decide (1 ≤ mf m 0x10 16 10 ∧ mf m 0x10 0 9 + mf m 0x10 16 10 ≤ 512 ∧
    (mf m 0x14 0 10 ≤ 511 ∨ mf m 0x14 0 10 = 0x3FF))),
  (cmdWinMap, fun s m => decide ((windowOf s (mf m 0x10 0 9)).owner = m.page.val)),
  (cmdBindPetal, fun s m => (getPetal s (mf m 0x10 0 9)).isSome && !bindConflict s (mf m 0x10 0 9) [mf m 0x18 0 64]),
  (cmdSetShares, fun s m => (getPetal s (mf m 0x10 0 9)).isSome && recShares.all (fun f => decide (shareOf (recordIn m) f ≤ 32768))),
  (cmdMemPolicySet, fun s m => policyRanges (policyIn m.payload) &&
    (match getPetal s (mf m 0x10 0 9) with | some x => ceilingOk x (policyIn m.payload) | none => false)),
  (cmdMemScrubSet, fun _ _ => true),
  (cmdNetPortMode, fun _ _ => true),
  (cmdNetPortSet, fun s m => decide (mf m 0x10 9 2 ≠ 3) && portInRange s (mf m 0x10 0 5) && portInRange s (mf m 0x10 11 5)),
  (cmdPrsRuleSet, fun s m => ruleOk (mf m 0x20 0 1024) && ruleRange s (mf m 0x20 0 1024)),
  (cmdPrsRangeSet, fun _ m => decide (bitsOf (mf m 0x18 0 64) 0 4 ≤ 4 ∧ bitsOf (mf m 0x18 0 64) 4 12 = 0 ∧
    bitsOf (mf m 0x18 0 64) 48 16 = 0)),
  (cmdSchQueueSet, fun s m => portInRange s (mf m 0x10 0 5) && decide (mf m 0x10 8 5 ≤ 23) &&
    queueOk (mf m 0x10 8 5) (mf m 0x14 0 13) (mf m 0x18 0 32) (mf m 0x1C 0 32) (mf m 0x20 0 32)),
  (cmdSchGateSet, fun s m => (controlPetal s).isSome && portInRange s (mf m 0x10 0 5) &&
    decide (mf m 0x10 8 1 = 0 ∧ mf m 0x10 16 11 = 0 ∧ mf m 0x18 0 192 = 0)),
  (cmdSchLimiterSet, fun _ m => decide (1 ≤ mf m 0x14 0 32 ∧ mf m 0x14 0 32 ≤ 1600000 ∧ 9620 ≤ mf m 0x18 0 32 ∧
    mf m 0x18 0 32 ≤ 16777216)),
  (cmdRdmAddrSet, fun _ m => decide ((mf m 0x14 0 10 ≤ 511 ∨ mf m 0x14 0 10 = 0x3FF) ∧ (mf m 0x10 13 1 = 1 ∨ mf m 0x1C 0 96 = 0)))]

/-- The commands of these rows by opcode (R308). -/
def Stages (opcode : Nat) (m : Mbx) (i : Instr) : Prop :=
  (opcode, i) ∈ [(0x0020, .msixAssign m), (0x0200, .winGrant m), (0x0201, .winMap m), (0x0110, .bindPetal m), (0x0112, .setShares m),
    (0x0211, .memPolicySet m), (0x0213, .memScrubSet m), (0x0700, .netPortMode m), (0x0701, .netPortSet m), (0x0710, .prsRuleSet m),
    (0x0711, .prsRangeSet m), (0x0720, .schQueueSet m), (0x0721, .schGateSet m), (0x0722, .schLimiterSet m), (0x0740, .rdmAddrSet m)]

/-- The area g of a state with one request more at the end of its stage. -/
def stagedOn (s : State) (g : Nat) (i : Staged) : State := setArea s g { areaOf s g with stage := (areaOf s g).stage ++ [i] }

/-- R251, R253: the oldest accepted commit of area g, not yet at its commit point, holds the one setting i and can be applied alone. -/
def CommitsOne (s : State) (g : Nat) (tag : Nat) (i : Staged) (cs : List Commit) : Prop :=
  (areaOf s g).commits = ⟨tag, [i], none⟩ :: cs ∧ waitsConsent (fresh s) i = false ∧ sharesOver s = [] ∧ triplesTwice s = []

/-- R251: the area after the commit point: the epoch advances by one and the commit drains. -/
def Committed (s t : State) (g tag : Nat) (cs : List Commit) : Prop :=
  areaOf t g = { areaOf s g with epoch := (areaOf s g).epoch + 1, commits := ⟨tag, [], some s.elapsed⟩ :: cs }

/-! Doorbells of rings (R168, R169) -/

/-- A write of v to the tail doorbell of the ring r answers o: it is taken where it is inside the ring and not behind the entries offered,
and otherwise leaves the state `ignored`. -/
def TailWrite (r : Ring) (v : Nat) (take : Ring → State) (ignored : State) (o : Host.Outcome State Fault Refusal) : Prop :=
  (v < 2 ^ r.sqLog → ringOffered r ≤ (v + 2 ^ r.sqLog - r.sqHead) % 2 ^ r.sqLog → o = .next (take { r with sqTail := v })) ∧
  (2 ^ r.sqLog ≤ v ∨ (v + 2 ^ r.sqLog - r.sqHead) % 2 ^ r.sqLog < ringOffered r → o = .next ignored)

/-- The same for the head doorbell: it is taken where it frees no more entries than hold a record. -/
def HeadWrite (r : Ring) (v : Nat) (take : Ring → State) (ignored : State) (o : Host.Outcome State Fault Refusal) : Prop :=
  let d := (v + 2 ^ r.cqLog - r.cqHead) % 2 ^ r.cqLog
  (v < 2 ^ r.cqLog → d ≤ r.cqUsed → o = .next (take { r with cqHead := v, cqUsed := r.cqUsed - d })) ∧
  (2 ^ r.cqLog ≤ v ∨ r.cqUsed < d → o = .next ignored)

/-- The state once a completion record has been written at the completion tail of a ring (R170, R307). -/
def recorded (s : State) (p : Nat) (r : Ring) (queue tag status result detail : Nat) : State :=
  memPut s p (r.cqPda + 32 * r.cqTail) (leBytes 32 (record tag status queue result r.seq detail r.phase))

/-- The ring after that record, which uses an entry that accepted work reserved. -/
def recordedRing (r : Ring) : Ring := { ringAdvance r with reserved := r.reserved - 1 }

/-- A buffer address names petal memory (R197). -/
def inPda (addr : Nat) : Prop := bufAddr addr = .pda addr

/-! Services (R460, R462) -/

/-- What a request delivers (R460, R462): buffers and bytes, or none where its tag does not match. -/
def CphDelivers (key : List Byte) (e : Nat) (src aad : List Byte) (l : Option (List (Nat × List Byte))) : Prop :=
  let iv := (leBytes 16 (ceIv e)).take 12
  (ceAlg e = 1 ∧ l = some [(ceDst e, (gcmEncrypt key iv aad src).1), (ceTagAddr e, (gcmEncrypt key iv aad src).2)]) ∨
  (ceAlg e = 2 ∧ l = (gcmDecrypt key iv aad src (leBytes 16 (ceTagIn e))).map (fun pt => [(ceDst e, pt)])) ∨
  (ceAlg e = 3 ∧ l = some [(ceDst e,
    xtsUnits false (key.take 32) (key.drop 32) (ceUnit e) (ceLen e / ceUnit e) (ceIv e) src)]) ∨
  (ceAlg e = 4 ∧ l = some [(ceDst e,
    xtsUnits true (key.take 32) (key.drop 32) (ceUnit e) (ceLen e / ceUnit e) (ceIv e) src)]) ∨
  (ceAlg e = 5 ∧ l = some [(ceTagAddr e, cmac key src)]) ∨
  (ceAlg e = 6 ∧ l = if cmac key src = leBytes 16 (ceTagIn e) then some [] else none) ∨
  (ceAlg e = 7 ∧ l = some [(ceDst e, sha3 src)])

/-! Requests to PF0 (R317 to R319, R501) -/

/-- The module once a memory request has come in at its port: it has left a low level, unless the always-on domain answers a request to
BAR0 (R501), and the port has left L1 and counted the payload. -/
def arrived (s : State) (t : Tlp) (quiet : Bool) : State := receiveTlp (if quiet then s else awake s) t

/-- The canonical form of what the module holds by address: petal memory, the bus as it wrote it, and the poisoned lines. -/
abbrev Canonical (s : State) : Prop := Memory.wf s.mem ∧ Memory.wf s.bus ∧ rising s.poison = true

/-- R437: an offset from the interrupt controller's base at which the manual gives no register. -/
abbrev NoHubRegister (o : Nat) : Prop :=
  (0 < o ∧ o < 0x1000) ∨ (0x1000 ≤ o ∧ o < 0x2040 ∧ o % 0x40 ∉ [0, 4, 8, 0xC, 0x10]) ∨ (0x2040 ≤ o ∧ o < 0x10000) ∨
    (0x10000 ≤ o ∧ o < 0x18000 ∧ o % 4 ≠ 0) ∨ 0x18000 ≤ o

/-! The RDMA engine (R395, R404, R414) -/

/-- The frame f of ingress queue g is the next that port j hands to the engine, its packet is of a kind, and the queue pair q takes it (R374,
R395, R415); the petal's key is present, the queue pair owes nothing, its egress queue has room, and no rule or withdrawal acts. -/
def Arrives (s : State) (j g : Nat) (f : RxFrame) (kind : PktKind) (q : Qp) : Prop :=
  headIngress s j = some (g, f) ∧ pktKind f.pkt = kind ∧ f.pkt.ce = false ∧ qpOfWire s f.pkt.destQp.toNat = some q ∧ getQp s q.petal q.num = some q ∧
  accepts s j q f.pkt = true ∧ q.st = .ready ∧ q.resident = true ∧ keyPresent s q.petal = true ∧ q.owed = [] ∧ s.net.rules = [] ∧
  qRoom s q = true ∧ ∀ e ∈ s.rdma.regions, e.2.closing = false

/-- Between two states the queue pair q became q', no other one changed, and its egress queue gained these frames of its petal (R376, R393). -/
def QpStep (s t : State) (q q' : Qp) (frames : List (List Byte)) : Prop :=
  getQp t q.petal q.num = some q' ∧ (∀ k, k ≠ qpKey q.petal q.num → look t.rdma.qps k = look s.rdma.qps k) ∧
  (getPort t (qPort q)).egress =
    modV (getPort s (qPort q)).egress (qQueue s q) (fun e => { e with frames := e.frames ++ frames.map (fun f => ⟨q.petal, f⟩) })

/-- An acknowledgement, or a NAK, of the queue pair q (R393, R414). -/
def ackFrame (s : State) (q : Qp) (psn syndrome msn : Nat) : List Byte := roceFrame s q 0x11 false psn 0 (aeth syndrome msn) []

/-- The state once a completion record of the queue pair's completion queue has been written (R405). -/
def cqRecorded (s : State) (q : Qp) (c : RdmCq) (tag status bytes detail : Nat) (receive : Bool) : State :=
  memPut s q.petal (cqAddr c + 32 * c.cqTail)
    (leBytes 32 (record tag status (qCq q) (bytes + q.num * 2 ^ 32 + (if receive then 2 ^ 52 else 0)) c.seq detail c.phase))

/-- That completion queue after the record, which used a reserved entry (R169, R170). -/
def cqNext (c : RdmCq) : RdmCq :=
  { c with
    cqTail := (c.cqTail + 1) % cqSize c
    used := c.used + 1
    reserved := c.reserved - 1
    seq := c.seq + 1
    phase := if (c.cqTail + 1) % cqSize c = 0 then !c.phase else c.phase }

/-! Start, resets and the log (R326, R327, R519, R530, R534) -/

/-- The event log takes one more entry without losing one (R520). -/
abbrev LogRoom (s : State) : Prop := s.logLost = 0 ∧ s.logBuf.length < 1024

/-- The entry that an event makes now (R519). -/
def logged (s : State) (source severity : Nat) (what : String) (inst petal : Nat) (payload : List Byte) : LogEntry :=
  ⟨s.logSeq, s.elapsed, s.boots, severity, source, what, inst, petal, payload⟩

/-- The state with that entry at the end of its buffer. -/
def withEntry (s : State) (source severity : Nat) (what : String) (inst petal : Nat) (payload : List Byte) : State :=
  { s with
    logBuf := s.logBuf ++ [logged s source severity what inst petal payload]
    logSeq := s.logSeq + 1 }

/-- R534, R539, R549: every rail but the always-on rail has been off between two states: fuses, flash, the log in flash and what lies outside
the module stay, and everything else is as after reset. -/
def PowerLost (s t : State) : Prop :=
  t.petals = [] ∧ t.mem = [] ∧ t.pages = [] ∧ t.launches = [] ∧ t.nibs = [] ∧ t.cores = [] ∧ t.ctr = [] ∧ t.windows = [] ∧ t.comms = [] ∧
  t.ctxs = [] ∧ t.sclQps = [] ∧ t.net = Net.new ∧ t.rdma = Rdma.new ∧ t.pwr = Pwr.new ∧ t.irq = ⟨[], []⟩ ∧ t.ready = false ∧ t.unitFailed = [] ∧
  t.poison = [] ∧ t.keysWithdrawn = false ∧ t.retired = s.retired ∧ t.bus = s.bus ∧ (∀ i, (swPort t i).up = false) ∧
  t.sec = { s.sec with
    sessions := []
    nonces := []
    authBuf := []
    d2 := none }

/-- R534: a module reset of s for a cause leaves t; its first entry names the cause. -/
def ModuleReset (s t : State) (cause : ResetCause) : Prop :=
  PowerLost s t ∧ t.elapsed = 0 ∧ t.boots = s.boots + 1 ∧ t.logFlash = s.logFlash ∧
  t.logBuf.head? = some ⟨s.logSeq, 0, s.boots + 1, 1, 0, causeText cause s.board.overVoltage, 0, 0xFFFF, []⟩ ∧
  t.board = { s.board with
    stage := .aux
    cause := cause
    t0 := 0
    readyAt := 0
    raised := false
    resetAt := none
    overVoltage := false
    needReturn := false
    latched := 0 }

/-- R530, R523, R541, R554, R330: the start at t0 takes s to t: the preferred slot is tried, the calibration table of the flash is in force, the
level of REFCLK_SEL is sampled, slots have power, and configuration requests are answered with a retry. -/
def Booting (s t : State) (sel : Bool) (t0 : W64) : Prop :=
  let good (r : Nat) : Bool := s.board.refGood.toNat.testBit r
  t.board = { s.board with
    stage := .booting false
    t0 := t0
    slot := s.sec.bootPref
    refSel := sel
    refUsed := if good (if sel then 1 else 0) then (if sel then 1 else 0) else if good (if sel then 0 else 1) then (if sel then 0 else 1) else 2 } ∧
  t.sec = { s.sec with
    calLoaded := s.sec.calFlash
    calDefaults := t.sec.calDefaults } ∧
  (t.sec.calDefaults = false ↔ ∀ i < 6, Config.sectionPasses (calBytes s.sec.calFlash) i = true) ∧ t.pcie.retry = true ∧
  (∀ i, 1 ≤ i → i ≤ 8 → (swPort t i).slot = { (swPort s i).slot with
    pcc := false
    pwren := true
    offAt := none }) ∧
  (∀ i, (swPort t i).up = (swPort s i).up) ∧ t.petals = s.petals ∧ t.mem = s.mem ∧ t.elapsed = s.elapsed ∧ t.boots = s.boots ∧
  t.ready = s.ready ∧ (s.logBuf.length ≤ 1000 → s.logBuf <+: t.logBuf)

/-- The petal x once the host is cut off from it by a reset of PF0 (R302, R327). -/
def cutOff (x : Petal) : Petal :=
  { x with
    causeFlr := true
    upstreamHeld := true
    msixHeld := true
    st := if x.st = .active then .quiescing else x.st
    drainForced := if x.st = .active then false else x.drainForced }

/-- R327: a reset of PF0 between s and t: its configuration, its MSI-X table and every translation are gone, open sessions end, every petal is
withheld from the host, and requests toward the upstream port are dropped. -/
def HostCut (s t : State) : Prop :=
  t.busMaster = false ∧ t.msixTable = [] ∧ t.msixPend = s.msixPend ∧ t.pcie.memSpace = false ∧ t.pcie.bar0 = 0 ∧ t.pcie.bar2 = 0 ∧
  t.pcie.bar4 = 0 ∧ t.pcie.msixEnable = false ∧ t.pcie.ats = false ∧ t.pcie.pasidOn = false ∧ t.pcie.cto = 0 ∧ t.pcie.atc = [] ∧
  t.pcie.flr = some s.elapsed ∧ t.pcie.retry = true ∧ (∀ r ∈ t.pcie.reqs, r.port ≠ 0) ∧
  (∀ g, (getPage s g).session = 1 → getPage t g = { getPage s g with session := 2 }) ∧
  (∀ p x, getPetal s p = some x → getPetal t p = some (cutOff x)) ∧ t.mem = s.mem ∧ t.cores = s.cores ∧ t.launches = s.launches

/-- R326: the switch ports of t are at their reset configuration; downstream links are down, and slots have power. -/
def PortsReset (s t : State) (perst : Bool) : Prop :=
  (∀ i, 1 ≤ i → i ≤ 8 → (swPort t i).up = false ∧ (swPort t i).memOn = false ∧ (swPort t i).acs = 0 ∧ (swPort t i).slot.pcc = false ∧
    (swPort t i).slot.pwren = true ∧ (swPort t i).slot.hpie = false ∧ (swPort t i).slot.unstable = false ∧
    (swPort t i).slot.prsnt = (swPort s i).slot.prsnt ∧ (perst = true → (swPort t i).slot.perst = true)) ∧
  (∀ r ∈ s.pcie.reqs, 1 ≤ r.port → r.port ≤ 8 → (r.petal, r.task) ∈ t.pcie.failed ∧ r ∉ t.pcie.reqs)

/-! PCI Express requests and slots (R323, R325, R330, R333) -/

/-- R323: an invalidation still waits for a request issued under its translation (2^21 names every PASID). -/
def InvWaits (s : State) (v : Nat × Nat) : Prop := ∃ r ∈ s.pcie.reqs, (v.1 = 2 ^ 21 ∨ r.pasid = v.1) ∧ r.page = v.2

/-- R323: of the invalidations of s those that wait in t are still there, and each other one has been completed. -/
def InvsSettled (s t : State) : Prop :=
  (∀ v, v ∈ t.pcie.invs ↔ v ∈ s.pcie.invs ∧ InvWaits t v) ∧ ∀ v ∈ s.pcie.invs, InvWaits t v ∨ Out.invalidated v.1 v.2 ∈ t.sent

/-- R333, R332: the slot of port i reports an event whose enable is `en`: one MSI where Hot-Plug Interrupt Enable and the event's enable are
set and the slot is stable, and nothing otherwise. -/
def slotSent (s : State) (i : Nat) (en : Bool) : List Out :=
  let x := (swPort s i).slot
  if x.hpie = true ∧ en = true ∧ x.unstable = false then s.sent ++ [.slotMsi i] else s.sent

/-- Only the slot of port i differs between s, awake, and t; it is y in t (R330 to R333). -/
def SlotNow (s t : State) (i : Nat) (y : Slot) : Prop :=
  swPort t i = { swPort (awake s) i with slot := y } ∧ (∀ j, j ≠ i → swPort t j = swPort (awake s) j) ∧ t.petals = s.petals ∧ t.mem = s.mem

/-- R334: link i of s, which is up, is down in t: its requests have failed, and its slot notes the change unless it is unstable. -/
def LinkLost (s t : State) (i : Nat) : Prop :=
  let x := (swPort s i).slot
  swPort t i = { swPort s i with
    up := false
    width := 0
    active := 0
    l1 := 0
    slot := { x with dllsc := x.dllsc || !x.unstable } } ∧
  (∀ j, j ≠ i → swPort t j = swPort (awake s) j) ∧ t.pcie.reqs = s.pcie.reqs.filter (fun r => r.port != i) ∧
  t.pcie.failed = s.pcie.failed ++ (s.pcie.reqs.filter (fun r => r.port == i)).map (fun r => (r.petal, r.task)) ∧ InvsSettled s t ∧
  (x.hpie = true → x.dllscEn = true → x.unstable = false → Out.slotMsi i ∈ t.sent) ∧ t.petals = s.petals ∧ t.mem = s.mem

/-! Debug sessions (R477, R478, R481) -/

/-- R478, R480, R481: the session d of page g has closed between s and t: the entry is written; a D1 session's Nibs are no longer HALTED; with a D2
session keys return and the petals that only it quiesced are ACTIVE; with a D3 session the TAP's restricted instructions select the bypass register. -/
def SessionClosed (s t : State) (g : Nat) (d : DbgSess) : Prop :=
  sessionOf t g = none ∧ (∀ j, j ≠ g → sessionOf t j = sessionOf s j) ∧
  (LogRoom s → logged s 7 1 "debug session closed" d.level (if d.level = 1 then g else 0xFFFF) [] ∈ t.logBuf) ∧
  (d.level = 1 → ∀ n ∈ petalNibs s g, (getNib t n).halted = false) ∧
  (d.level = 2 → t.keysWithdrawn = false ∧ t.sec.d2 = none ∧ ∀ p x, getPetal s p = some x → x.causeDebug = true → x.causeCmd = false →
    x.causeLease = false → x.causeFlr = false → x.st = .quiesced →
    getPetal t p = some { x with
      causeDebug := false
      st := .active
      upstreamHeld := false
      drainAt := none
      drainForced := false }) ∧
  (d.level = 3 → s.sec.lifecycle ≠ .manufacture → s.jtag.ir ≠ .idcode → s.jtag.ir ≠ .bypass → t.jtag = ⟨s.jtag.ir, .bypass, .untouched⟩) ∧
  (d.level ≠ 1 → t.mem = s.mem)

/-- R477: the state once the live nonce of a page has been consumed. -/
def nonceUsed (s : State) (g : Nat) : State := { s with sec := { s.sec with nonces := del s.sec.nonces g } }

/-! Syllables (R113) -/

/-- A syllable of the opcode map: no word without a mnemonic, and only the short forms that its operation has (R113, R122). -/
def sylOk : Syl → Bool
  | .mov (.unassigned _ _) => false
  | .vadd f => laneOk true true f
  | .vsub f => laneOk true true f
  | .vmul f => laneOk true false f
  | .vmax f => laneOk true false f
  | .vand f => laneOk true false f
  | .vor f => laneOk true false f
  | .vxor f => laneOk true false f
  | .vmin f => laneOk false false f
  | .vabs f => laneOk false false f
  | .vneg f => laneOk false false f
  | .vcmpeq f => laneOk false false f
  | .vcmplt f => laneOk false false f
  | .vcmple f => laneOk false false f
  | .vshl f => laneOk false false f
  | .vshr f => laneOk false false f
  | .vsra f => laneOk false false f
  | _ => true

end Sys2Proof.Claims
end

