-- ==== Sys2Proof/Certificates/Slice0/Obligations.lean ====
section
/-!
DEFINITION. The statements about the model.
-/

open Sys2Proof Sys2Proof.Machine Sys2Proof.Claims

/-- R114, R115, R28, R95, R98: an S-ALU syllable that a Nib issues as a bundle of its own writes its value into its destination, by class
L1, moves past itself, and changes nothing else of the module; a destination g0 keeps nothing. Where the rules leave it open, it states the
choices of log entry 11, which are the model's. -/
def Obligations.ScalarArithmetic : Prop :=
  (∀ o ∈ aluRows, ∀ (s : State) (n : NibId) (f : AluForm), Issues s n.val (o.syl f) →
    let r := readyNib s n.val
    ∃ t, exec (o.ins n true f) s = .next t ∧ OnlyNib s t n.val ∧
      getNib t n.val = issued r (landAt r 1 (.g (aluRegs f).1 (o.val (gGet r.g (aluRegs f).2.1) (gGet r.g (aluRegs f).2.2))))
        (pcPast s n.val (o.syl f))) ∧
  (∀ o ∈ rrRows, ∀ (s : State) (n : NibId) (f : RR), Issues s n.val (o.syl f) →
    let r := readyNib s n.val
    ∃ t, exec (o.ins n true f) s = .next t ∧ OnlyNib s t n.val ∧
      getNib t n.val = issued r (landAt r 1 (.g f.d.toNat (o.val (gGet r.g f.a.toNat) (gGet r.g f.b.toNat))))
        (pcPast s n.val (o.syl f))) ∧
  (∀ o ∈ countRows, ∀ (s : State) (n : NibId) (f : RR), Issues s n.val (o.syl f) → f.b = 0 →
    let r := readyNib s n.val
    ∃ t, exec (o.ins n true f) s = .next t ∧ OnlyNib s t n.val ∧
      getNib t n.val = issued r (landAt r 1 (.g f.d.toNat (BitVec.ofNat 32 (o.val (gGet r.g f.a.toNat))))) (pcPast s n.val (o.syl f)))

/-- R114, R116, R117, R32: MOV and the immediate S syllables, and the reads and writes of control registers, write their values by classes
L1 and L2, move past themselves, and change nothing else; a read of time_lo also latches time_hi, and a write of flags clears. Where the
rules leave it open, it states the choices of log entry 11, which are the model's. -/
def Obligations.ScalarMoves : Prop :=
  (∀ (s : State) (n : NibId) (f : SA), Issues s n.val (.mov (.short f)) →
    let r := readyNib s n.val
    ∃ t, exec (.mov n true (.short f)) s = .next t ∧ OnlyNib s t n.val ∧
      getNib t n.val = issued r (landAt r 1 (.g f.a.toNat (gGet r.g f.b.toNat))) (pcPast s n.val (.mov (.short f)))) ∧
  (∀ o ∈ immRows, ∀ (s : State) (n : NibId) (f : LI), Issues s n.val (o.syl f) →
    let r := readyNib s n.val
    ∃ t, exec (o.ins n true f) s = .next t ∧ OnlyNib s t n.val ∧
      getNib t n.val = issued r (landAt r 1 (.g f.d.toNat (o.val (gGet r.g f.a.toNat) f.imm))) (pcPast s n.val (o.syl f))) ∧
  (∀ o ∈ shiftImmRows, ∀ (s : State) (n : NibId) (f : ShiftImm), Issues s n.val (o.syl f) → f.top = 0 →
    let r := readyNib s n.val
    ∃ t, exec (o.ins n true f) s = .next t ∧ OnlyNib s t n.val ∧
      getNib t n.val = issued r (landAt r 1 (.g f.d.toNat (o.val (gGet r.g f.a.toNat) f.amount.toNat))) (pcPast s n.val (o.syl f))) ∧
  (∀ (s : State) (n : NibId) (f : SAorLI), Issues s n.val (.addi f) →
    let r := readyNib s n.val
    ∃ t, exec (.addi n true f) s = .next t ∧ OnlyNib s t n.val ∧
      getNib t n.val = issued r (landAt r 1 (match f with
        | .short f => .g f.a.toNat (gGet r.g f.a.toNat + f.b.signExtend 32)
        | .long f => .g f.d.toNat (gGet r.g f.a.toNat + f.imm.signExtend 32))) (pcPast s n.val (.addi f))) ∧
  (∀ (s : State) (n : NibId) (f : SAorLU), Issues s n.val (.movi f) →
    let r := readyNib s n.val
    ∃ t, exec (.movi n true f) s = .next t ∧ OnlyNib s t n.val ∧
      getNib t n.val = issued r (landAt r 1 (match f with
        | .short f => .g f.a.toNat (f.b.signExtend 32)
        | .long f => .g f.d.toNat (f.imm.signExtend 32))) (pcPast s n.val (.movi f))) ∧
  (∀ (s : State) (n : NibId) (f : LU), Issues s n.val (.movhi f) →
    let r := readyNib s n.val
    ∃ t, exec (.movhi n true f) s = .next t ∧ OnlyNib s t n.val ∧
      getNib t n.val = issued r (landAt r 1 (.g f.d.toNat (f.imm.setWidth 32 <<< 13))) (pcPast s n.val (.movhi f))) ∧
  (∀ (s : State) (n : NibId) (f : SAorLI), Issues s n.val (.mfc f) →
    (∀ x, f = .long x → x.a = 0 ∧ x.imm.toNat ≤ 0x3F) →
    let r := readyNib s n.val
    let d := match f with | .short x => x.a.toNat | .long x => x.d.toNat
    let o := match f with | .short x => x.b.toNat | .long x => x.imm.toNat
    ∃ t, exec (.mfc n true f) s = .next t ∧ OnlyNib s t n.val ∧
      getNib t n.val = issued r
        { landAt r 2 (.g d (crValue s r o)) with timeHi := if o = 0x0B then (s.elapsed >>> 32).setWidth 32 else r.timeHi }
        (pcPast s n.val (.mfc f))) ∧
  (∀ (s : State) (n : NibId) (f : SAorLI), Issues s n.val (.mtc f) →
    (∀ x, f = .long x → x.d = 0 ∧ x.imm.toNat ≤ 0x3F) →
    let r := readyNib s n.val
    let o := match f with | .short x => x.a.toNat | .long x => x.imm.toNat
    let v := match f with | .short x => gGet r.g x.b.toNat | .long x => gGet r.g x.a.toNat
    ∃ t, exec (.mtc n true f) s = .next t ∧ OnlyNib s t n.val ∧
      getNib t n.val = issued r (landAt r 2 (crLand r o v)) (pcPast s n.val (.mtc f)))

/-- R37, R118, R119, R98: an M load inside scratch and aligned reads its bytes, by class L3, into its register; the bytes of a v register
above those loaded become zero; nothing else changes. Where the rules leave it open, it states the choices of log entry 11, which are the
model's. -/
def Obligations.ScratchLoads : Prop :=
  (∀ o ∈ loadRows, ∀ (s : State) (n : NibId) (f : LI), Issues s n.val (o.syl f) →
    let r := readyNib s n.val
    let ea := addrLI r f o.val.1
    accessOk ea o.val.1 → cleanAccess s n.val ea o.val.1 →
    ∃ t, exec (o.ins n true f) s = .next t ∧ OnlyNib s t n.val ∧
      getNib t n.val = issued r
        (landAt r 3 (.g f.d.toNat (o.val.2 (leNat (scratchRead (getCore s (n.val / 4)) ea o.val.1))))) (pcPast s n.val (o.syl f))) ∧
  (∀ (s : State) (n : NibId) (f : SAorLI), Issues s n.val (.ldw f) →
    let r := readyNib s n.val
    let ea := match f with | .short x => (addrReg r x.b.toNat).toNat | .long x => addrLI r x 4
    let d := match f with | .short x => x.a.toNat | .long x => x.d.toNat
    accessOk ea 4 → cleanAccess s n.val ea 4 →
    ∃ t, exec (.ldw n true f) s = .next t ∧ OnlyNib s t n.val ∧
      getNib t n.val = issued r
        (landAt r 3 (.g d (BitVec.ofNat 32 (leNat (scratchRead (getCore s (n.val / 4)) ea 4))))) (pcPast s n.val (.ldw f))) ∧
  (∀ o ∈ loadVRows, ∀ (s : State) (n : NibId) (f : LI), Issues s n.val (o.syl f) →
    let r := readyNib s n.val
    let ea := addrLI r f o.val
    accessOk ea o.val → cleanAccess s n.val ea o.val →
    ∃ t, exec (o.ins n true f) s = .next t ∧ OnlyNib s t n.val ∧
      getNib t n.val = issued r
        (landAt r 3 (.v f.d.toNat (BitVec.allOnes 2048) (BitVec.ofNat 2048 (leNat (scratchRead (getCore s (n.val / 4)) ea o.val)))))
        (pcPast s n.val (o.syl f))) ∧
  (∀ (s : State) (n : NibId) (f : SAorLI), Issues s n.val (.vld256 f) →
    let r := readyNib s n.val
    let ea := match f with | .short x => (addrReg r x.b.toNat).toNat | .long x => addrLI r x 256
    let d := match f with | .short x => x.a.toNat | .long x => x.d.toNat
    accessOk ea 256 → cleanAccess s n.val ea 256 →
    ∃ t, exec (.vld256 n true f) s = .next t ∧ OnlyNib s t n.val ∧
      getNib t n.val = issued r
        (landAt r 3 (.v d (BitVec.allOnes 2048) (BitVec.ofNat 2048 (leNat (scratchRead (getCore s (n.val / 4)) ea 256)))))
        (pcPast s n.val (.vld256 f))) ∧
  (∀ (s : State) (n : NibId) (f : IndexForm), Issues s n.val (.vldx f) → 3 ≤ f.log.toNat → f.log.toNat ≤ 8 → f.top = 0 →
    let r := readyNib s n.val
    let ea := (addrReg r f.a.toNat + addrReg r f.b.toNat).toNat
    accessOk ea (2 ^ f.log.toNat) → cleanAccess s n.val ea (2 ^ f.log.toNat) →
    ∃ t, exec (.vldx n true f) s = .next t ∧ OnlyNib s t n.val ∧
      getNib t n.val = issued r
        (landAt r 3 (.v f.d.toNat (BitVec.allOnes 2048)
          (BitVec.ofNat 2048 (leNat (scratchRead (getCore s (n.val / 4)) ea (2 ^ f.log.toNat)))))) (pcPast s n.val (.vldx f)))

/-- R37, R38, R39, R118, R119: an M store inside scratch, aligned and outside the code region, stores the low bytes of its register at the
address that R118 computes; every other byte of the core's scratch reads as before, and nothing else of the module changes but the Nib's own
counts and pc. -/
def Obligations.ScratchStores : Prop :=
  (∀ o ∈ storeRows, ∀ (s : State) (n : NibId) (f : LI), Issues s n.val (o.syl f) →
    let r := readyNib s n.val
    let ea := addrLI r f o.val.1
    accessOk ea o.val.1 → cleanAccess s n.val ea o.val.1 → outsideCode s n.val ea o.val.1 →
    ∃ t, exec (o.ins n true f) s = .next t ∧ Stored s t n.val (o.syl f) ea o.val.1 (o.val.2 r f.d.toNat)) ∧
  (∀ (s : State) (n : NibId) (f : SAorLI), Issues s n.val (.stw f) →
    let r := readyNib s n.val
    let ea := match f with | .short x => (addrReg r x.b.toNat).toNat | .long x => addrLI r x 4
    let v := match f with | .short x => gGet r.g x.a.toNat | .long x => gGet r.g x.d.toNat
    accessOk ea 4 → cleanAccess s n.val ea 4 → outsideCode s n.val ea 4 →
    ∃ t, exec (.stw n true f) s = .next t ∧ Stored s t n.val (.stw f) ea 4 v.toNat) ∧
  (∀ (s : State) (n : NibId) (f : SAorLI), Issues s n.val (.vst256 f) →
    let r := readyNib s n.val
    let ea := match f with | .short x => (addrReg r x.b.toNat).toNat | .long x => addrLI r x 256
    let d := match f with | .short x => x.a.toNat | .long x => x.d.toNat
    accessOk ea 256 → cleanAccess s n.val ea 256 → outsideCode s n.val ea 256 →
    ∃ t, exec (.vst256 n true f) s = .next t ∧ Stored s t n.val (.vst256 f) ea 256 (vNat r d)) ∧
  (∀ (s : State) (n : NibId) (f : IndexForm), Issues s n.val (.vstx f) → 3 ≤ f.log.toNat → f.log.toNat ≤ 8 → f.top = 0 →
    let r := readyNib s n.val
    let ea := (addrReg r f.a.toNat + addrReg r f.b.toNat).toNat
    accessOk ea (2 ^ f.log.toNat) → cleanAccess s n.val ea (2 ^ f.log.toNat) → outsideCode s n.val ea (2 ^ f.log.toNat) →
    ∃ t, exec (.vstx n true f) s = .next t ∧ Stored s t n.val (.vstx f) ea (2 ^ f.log.toNat) (vNat r f.d.toNat))

/-- R120, R121, R122, R65, R67: a V-lane syllable writes the result of its operation on every pair of elements into v[d], by class L2, ORs
the flags of all elements into the flags, advances the generator once where it rounds stochastically, and changes nothing else. VMOV copies.
Where the rules leave it open, it states the choices of log entry 11, which are the model's. -/
def Obligations.VectorLanes : Prop :=
  (∀ o ∈ laneArithRows, ∀ (s : State) (n : NibId) (f : LaneForm) (x : LaneArgs), Issues s n.val (o.syl f) → laneArgs f = some x →
    let r := readyNib s n.val
    let w := x.fmt.width
    let md := if x.fmt.isInt then RMode.nearestEven else modeOf r
    ∃ t, exec (o.ins n true f) s = .next t ∧ OnlyNib s t n.val ∧
      getNib t n.val = issued r (vectorResult r x.d w 0
        ((List.range (2048 / w)).map (fun i => o.val x.fmt md (drawOf r md i) (elem (vNat r x.a) w i) (elemB r x i))) 2 md)
        (pcPast s n.val (o.syl f))) ∧
  (∀ o ∈ laneExactRows, ∀ (s : State) (n : NibId) (f : LaneForm) (x : LaneArgs), Issues s n.val (o.syl f) → laneArgs f = some x →
    let r := readyNib s n.val
    let w := x.fmt.width
    ∃ t, exec (o.ins n true f) s = .next t ∧ OnlyNib s t n.val ∧
      getNib t n.val = issued r (vectorResult r x.d w 0
        ((List.range (2048 / w)).map (fun i => o.val x.fmt (elem (vNat r x.a) w i) (elemB r x i))) 2 .nearestEven)
        (pcPast s n.val (o.syl f))) ∧
  (∀ o ∈ laneSignRows, ∀ (s : State) (n : NibId) (f : LaneForm) (x : LaneArgs), Issues s n.val (o.syl f) → laneArgs f = some x →
    x.b = 0 → x.bg = false →
    let r := readyNib s n.val
    let w := x.fmt.width
    ∃ t, exec (o.ins n true f) s = .next t ∧ OnlyNib s t n.val ∧
      getNib t n.val = issued r (vectorResult r x.d w 0
        ((List.range (2048 / w)).map (fun i => o.val x.fmt (elem (vNat r x.a) w i))) 2 .nearestEven) (pcPast s n.val (o.syl f))) ∧
  (∀ o ∈ laneShiftRows, ∀ (s : State) (n : NibId) (f : LaneForm) (x : LaneArgs), Issues s n.val (o.syl f) → laneArgs f = some x →
    x.fmt.isInt = true →
    let r := readyNib s n.val
    let w := x.fmt.width
    ∃ t, exec (o.ins n true f) s = .next t ∧ OnlyNib s t n.val ∧
      getNib t n.val = issued r (vectorResult r x.d w 0
        ((List.range (2048 / w)).map (fun i => (o.val w (elem (vNat r x.a) w i) (elemB r x i % w), 0))) 2 .nearestEven)
        (pcPast s n.val (o.syl f))) ∧
  (∀ (s : State) (n : NibId) (f : SA), Issues s n.val (.vmov f) →
    let r := readyNib s n.val
    ∃ t, exec (.vmov n true f) s = .next t ∧ OnlyNib s t n.val ∧
      getNib t n.val = issued r (landAt r 2 (.v f.a.toNat (BitVec.allOnes 2048) (r.v[f.b.toNat]?.getD 0))) (pcPast s n.val (.vmov f)))

/-- R81, R120, R122, R123, R72: the conversions, MX syllables, reductions, EXPS, MAXRUN, moves and selections of the V class write their
results by their classes, OR their flags into the flags, and change nothing else. Where the rules leave it open, it states the choices of
log entries 11, 12 and 13, which are the model's. -/
def Obligations.VectorConversions : Prop :=
  (∀ (s : State) (n : NibId) (f : LR) (m : Fmt), Issues s n.val (.vfma f) → laneFmt (bitsOf f.fn.toNat 4 3) = some m →
    f.fn.toNat % 16 = 0 → bitAt f.fn.toNat 8 = false →
    let r := readyNib s n.val
    let w := m.width
    let md := if m.isInt then RMode.nearestEven else modeOf r
    let x : LaneArgs := ⟨f.d.toNat, f.a.toNat, f.b.toNat, m, bitAt f.fn.toNat 7⟩
    ∃ t, exec (.vfma n true f) s = .next t ∧ OnlyNib s t n.val ∧
      getNib t n.val = issued r (vectorResult r f.d.toNat w 0
        ((List.range (2048 / w)).map (fun i =>
          let d := elem (vNat r f.d.toNat) w i
          let a := elem (vNat r f.a.toNat) w i
          let b := elemB r x i
          if m.isInt then (wrapN w (sInt w d + sInt w a * sInt w b), 0)
          else
            let p := mulX (decodeX m a) (decodeX m b)
            let y := addX (decodeX m d) p.1
            roundOp m md (drawOf r md i) [decodeX m a, decodeX m b, decodeX m d] (y.1, y.2 ||| p.2))) 2 md)
        (pcPast s n.val (.vfma f))) ∧
  (∀ (s : State) (n : NibId) (f : LR) (a b : Fmt), Issues s n.val (.vcvt f) → cvtFmt (f.fn.toNat % 16) = some a →
    cvtFmt (f.fn.toNat / 16 % 16) = some b → bitAt f.fn.toNat 8 = false → f.b.toNat < 16 →
    64 * (f.b.toNat % 4 + 1) * a.width ≤ 2048 → 64 * (f.b.toNat / 4 + 1) * b.width ≤ 2048 →
    let r := readyNib s n.val
    let md := modeOf r
    ∃ t, exec (.vcvt n true f) s = .next t ∧ OnlyNib s t n.val ∧
      getNib t n.val = issued r (vectorResult r f.d.toNat b.width (64 * (f.b.toNat / 4))
        ((List.range 64).map (fun i =>
          roundTo b md (bitAt r.rmode.toNat 3) (drawOf r md i) (decodeX a (elem (vNat r f.a.toNat) a.width (64 * (f.b.toNat % 4) + i))))) 4 md)
        (pcPast s n.val (.vcvt f))) ∧
  (∀ (s : State) (n : NibId) (f : LR) (m : Fmt), Issues s n.val (.vmxs f) → mxFmt f.fn.toNat = some m → f.b = 0 →
    let r := readyNib s n.val
    let block (k : Nat) := mxScale m ((List.range 32).map (fun i => elem (vNat r f.a.toNat) 32 (32 * k + i)))
    ∃ t, exec (.vmxs n true f) s = .next t ∧ OnlyNib s t n.val ∧
      getNib t n.val = issued r (landAt r 4 (.g f.d.toNat (BitVec.ofNat 32 (block 0 + 256 * block 1)))) (pcPast s n.val (.vmxs f))) ∧
  (∀ (s : State) (n : NibId) (f : LR) (m : Fmt), Issues s n.val (.vmxq f) → mxFmt (f.fn.toNat % 16) = some m → f.fn.toNat < 128 →
    64 * (f.fn.toNat / 16 + 1) * m.width ≤ 2048 →
    let r := readyNib s n.val
    let md := modeOf r
    let scale (i : Nat) := (gGet r.g f.b.toNat).toNat / (if i < 32 then 1 else 256) % 256
    ∃ t, exec (.vmxq n true f) s = .next t ∧ OnlyNib s t n.val ∧
      getNib t n.val = issued r (vectorResult r f.d.toNat m.width (64 * (f.fn.toNat / 16))
        ((List.range 64).map (fun i => mxQuant m md (drawOf r md i) (scale i) (elem (vNat r f.a.toNat) 32 i))) 4 md)
        (pcPast s n.val (.vmxq f))) ∧
  (∀ (s : State) (n : NibId) (f : LR) (m : Fmt), Issues s n.val (.vmxd f) → mxFmt (f.fn.toNat % 16) = some m → f.fn.toNat < 128 →
    64 * (f.fn.toNat / 16 + 1) * m.width ≤ 2048 →
    let r := readyNib s n.val
    let scale (i : Nat) := (gGet r.g f.b.toNat).toNat / (if i < 32 then 1 else 256) % 256
    ∃ t, exec (.vmxd n true f) s = .next t ∧ OnlyNib s t n.val ∧
      getNib t n.val = issued r (vectorResult r f.d.toNat 32 0
        ((List.range 64).map (fun i => roundTo .fp32 .nearestEven false 0
          (mxValue m (scale i) (elem (vNat r f.a.toNat) m.width (64 * (f.fn.toNat / 16) + i))))) 4 .nearestEven)
        (pcPast s n.val (.vmxd f))) ∧
  (∀ (s : State) (n : NibId) (f : SAorLR), Issues s n.val (.exps f) → (∀ x, f = .long x → x.b = 0 ∧ x.fn = 0) →
    let r := readyNib s n.val
    let d := match f with | .short x => x.a.toNat | .long x => x.d.toNat
    let a := match f with | .short x => x.b.toNat | .long x => x.a.toNat
    ∃ t, exec (.exps n true f) s = .next t ∧ OnlyNib s t n.val ∧
      getNib t n.val = issued r (vectorResult r d 32 0 ((List.range 64).map (fun i => exps (elem (vNat r a) 32 i))) 4 .nearestEven)
        (pcPast s n.val (.exps f))) ∧
  (∀ (s : State) (n : NibId) (f : SAorLR), Issues s n.val (.maxrun f) → (∀ x, f = .long x → x.b = 0 ∧ x.fn = 0) →
    let r := readyNib s n.val
    let d := match f with | .short x => x.a.toNat | .long x => x.d.toNat
    let a := match f with | .short x => x.b.toNat | .long x => x.a.toNat
    ∃ t, exec (.maxrun n true f) s = .next t ∧ OnlyNib s t n.val ∧
      getNib t n.val = issued r (vectorResult r d 32 0
        ((List.range 64).map (fun i => (maxrun (elem (vNat r d) 32 i) (elem (vNat r a) 32 i), 0))) 4 .nearestEven)
        (pcPast s n.val (.maxrun f))) ∧
  (∀ (s : State) (n : NibId) (f : ReduceForm), Issues s n.val (.vrsum f) → f.b = 0 → f.top = 0 → f.type = 0 ∨ f.type = 3 →
    let r := readyNib s n.val
    let md := if f.type = 0 then modeOf r else .nearestEven
    let xs := (List.range 64).map (elem (vNat r f.a.toNat) 32)
    ∃ t, exec (.vrsum n true f) s = .next t ∧ OnlyNib s t n.val ∧
      getNib t n.val = issued r (scalarResult r f.d.toNat
        (if f.type = 0 then roundOp .fp32 md (drawOf r md 0) (xs.map (decodeX .fp32)) (sumX (xs.map (decodeX .fp32)))
         else (xs.foldl (· + ·) 0 % 2 ^ 32, 0)) 4 md) (pcPast s n.val (.vrsum f))) ∧
  (∀ o ∈ [(⟨.vrmax, .vrmax, true⟩ : SylRow ReduceForm Bool), ⟨.vrmin, .vrmin, false⟩], ∀ (s : State) (n : NibId) (f : ReduceForm),
    Issues s n.val (o.syl f) → f.b = 0 → f.top = 0 → f.type = 0 ∨ f.type = 3 →
    let r := readyNib s n.val
    let m : Fmt := if f.type = 0 then .fp32 else .int32
    let pick (y : Nat × Flags) (x : Nat) : Nat × Flags := ((pickMin o.val m y.1 x).1, y.2 ||| (pickMin o.val m y.1 x).2)
    let xs := (List.range 64).map (elem (vNat r f.a.toNat) 32)
    ∃ t, exec (o.ins n true f) s = .next t ∧ OnlyNib s t n.val ∧
      getNib t n.val = issued r (scalarResult r f.d.toNat (xs.tail.foldl pick (xs.headD 0, 0)) 4 .nearestEven) (pcPast s n.val (o.syl f))) ∧
  (∀ (s : State) (n : NibId) (f : LR) (w : Nat), Issues s n.val (.vbcast f) → bcastWidth f.fn.toNat = some w → f.b = 0 →
    let r := readyNib s n.val
    ∃ t, exec (.vbcast n true f) s = .next t ∧ OnlyNib s t n.val ∧
      getNib t n.val = issued r (vectorResult r f.d.toNat w 0
        ((List.range (2048 / w)).map (fun _ => ((gGet r.g f.a.toNat).toNat % 2 ^ w, 0))) 2 .nearestEven) (pcPast s n.val (.vbcast f))) ∧
  (∀ (s : State) (n : NibId) (f : LI) (w i : Nat), Issues s n.val (.vext f) → extFields f.imm = some (w, i) →
    let r := readyNib s n.val
    ∃ t, exec (.vext n true f) s = .next t ∧ OnlyNib s t n.val ∧
      getNib t n.val = issued r (landAt r 4 (.g f.d.toNat (BitVec.ofNat 32 (elem (vNat r f.a.toNat) w i)))) (pcPast s n.val (.vext f))) ∧
  (∀ (s : State) (n : NibId) (f : LI) (w i : Nat), Issues s n.val (.vins f) → extFields f.imm = some (w, i) →
    let r := readyNib s n.val
    ∃ t, exec (.vins n true f) s = .next t ∧ OnlyNib s t n.val ∧
      getNib t n.val = issued r (vectorResult r f.d.toNat w i [((gGet r.g f.a.toNat).toNat % 2 ^ w, 0)] 2 .nearestEven)
        (pcPast s n.val (.vins f))) ∧
  (∀ (s : State) (n : NibId) (f : LR), Issues s n.val (.vshuf f) → f.fn = 0 →
    let r := readyNib s n.val
    ∃ t, exec (.vshuf n true f) s = .next t ∧ OnlyNib s t n.val ∧
      getNib t n.val = issued r (vectorResult r f.d.toNat 32 0
        ((List.range 64).map (fun i => (elem (vNat r f.a.toNat) 32 (elem (vNat r f.b.toNat) 32 i % 64), 0))) 2 .nearestEven)
        (pcPast s n.val (.vshuf f))) ∧
  (∀ (s : State) (n : NibId) (f : LU), Issues s n.val (.vsplati f) →
    let r := readyNib s n.val
    ∃ t, exec (.vsplati n true f) s = .next t ∧ OnlyNib s t n.val ∧
      getNib t n.val = issued r (vectorResult r f.d.toNat 32 0
        ((List.range 64).map (fun _ => ((f.imm.signExtend 32).toNat, 0))) 2 .nearestEven) (pcPast s n.val (.vsplati f))) ∧
  (∀ (s : State) (n : NibId) (f : LR), Issues s n.val (.vsel f) → f.fn = 0 →
    let r := readyNib s n.val
    ∃ t, exec (.vsel n true f) s = .next t ∧ OnlyNib s t n.val ∧
      getNib t n.val = issued r (vectorResult r f.d.toNat 32 0
        ((List.range 64).map (fun i => (if elem (vNat r f.d.toNat) 32 i = 0 then elem (vNat r f.b.toNat) 32 i else elem (vNat r f.a.toNat) 32 i, 0)))
        2 .nearestEven) (pcPast s n.val (.vsel f)))

/-- R35, R73 to R80, R94, R97, R124 to R127: the X-class syllables put their exact lanes in flight for four or eight bundles, or round them
into their register; a read of a register with a result in flight sets the stale flag in native mode; XMUL and PRD are native only, XMULV
and XDOT compatibility only. A result in flight that is due reaches its register. Where the rules leave it open, it states the choices of
log entry 11, which are the model's. -/
def Obligations.ExactMultiply : Prop :=
  (∀ (s : State) (n : NibId) (f : LR) (ls : List XV) (fl : Flags), Issues s n.val (.xmul f) → (readyNib s n.val).compat = false →
    f.d.toNat < 8 → mulLanes (loneCtx s n.val (.xmul f)) f = some (ls, fl) →
    let r := readyNib s n.val
    ∃ t, exec (.xmul n true f) s = .next t ∧ OnlyNib s t n.val ∧
      getNib t n.val = issued r (withFlags (inFlight r 4 (.p f.d.toNat (ls.map packLane))) fl) (pcPast s n.val (.xmul f))) ∧
  (∀ (s : State) (n : NibId) (f : LR) (ls : List XV) (fl : Flags), Issues s n.val (.xmacLa f) →
    f.d.toNat < 4 → mulLanes (loneCtx s n.val (.xmacLa f)) f = some (ls, fl) →
    let r := readyNib s n.val
    ∃ t, exec (.xmacLa n true f) s = .next t ∧ OnlyNib s t n.val ∧
      getNib t n.val = issued r (withFlags (inFlight r 8 (.la f.d.toNat (.values ls))) fl) (pcPast s n.val (.xmacLa f))) ∧
  (∀ (s : State) (n : NibId) (f : SAorLR), Issues s n.val (.xaddLa f) → (readyNib s n.val).compat = false →
    let d := match f with | .short x => x.a.toNat | .long x => x.d.toNat
    let a := match f with | .short x => x.b.toNat | .long x => x.a.toNat
    (∀ x, f = .long x → x.b = 0 ∧ x.fn = 0) → d < 4 → a < 8 →
    let r := readyNib s n.val
    ∃ t, exec (.xaddLa n true f) s = .next t ∧ OnlyNib s t n.val ∧
      getNib t n.val = issued r (withFlags (inFlight r 8 (.la d (.values ((pRow r a).map unpackLane)))) (staleOf r false a))
        (pcPast s n.val (.xaddLa f))) ∧
  (∀ (s : State) (n : NibId) (f : LR) (m : Fmt), Issues s n.val (.xaddLa (.long f)) → addFmt (f.fn.toNat % 16) = some m →
    f.fn.toNat < 64 → f.b = 0 → f.d.toNat < 4 → 64 * (f.fn.toNat / 16 + 1) * m.width ≤ 2048 →
    let r := readyNib s n.val
    let vs := (List.range 64).map (fun i => decodeX m (elem (vNat r f.a.toNat) m.width (64 * (f.fn.toNat / 16) + i)))
    ∃ t, exec (.xaddLa n true (.long f)) s = .next t ∧ OnlyNib s t n.val ∧
      getNib t n.val = issued r (withFlags (inFlight r 8 (.la f.d.toNat (.values vs))) ((vs.map snanFlag).foldl (· ||| ·) 0))
        (pcPast s n.val (.xaddLa (.long f)))) ∧
  (∀ (s : State) (n : NibId) (f : LR), Issues s n.val (.xaddLa (.long f)) → f.fn = 8 → f.d.toNat < 4 → f.b.toNat ≤ 20 →
    let r := readyNib s n.val
    ∃ t, exec (.xaddLa n true (.long f)) s = .next t ∧ OnlyNib s t n.val ∧
      getNib t n.val = issued r (inFlight r 8 (.la f.d.toNat (.slices f.b.toNat ((List.range 64).map (elem (vNat r f.a.toNat) 32)))))
        (pcPast s n.val (.xaddLa (.long f)))) ∧
  (∀ (s : State) (n : NibId) (f : LR), Issues s n.val (.xaddLa (.long f)) → f.fn = 9 → f.d.toNat < 4 → f.a.toNat < 4 → f.b = 0 →
    let r := readyNib s n.val
    let ls := (laRow r f.a.toNat).map LaLane.taken
    ∃ t, exec (.xaddLa n true (.long f)) s = .next t ∧ OnlyNib s t n.val ∧
      getNib t n.val = issued r (withFlags (inFlight r 8 (.la f.d.toNat (.values (ls.map (·.1)))))
        ((ls.map (·.2)).foldl (· ||| ·) (staleOf r true f.a.toNat))) (pcPast s n.val (.xaddLa (.long f)))) ∧
  (∀ (s : State) (n : NibId) (f : SAorLR), Issues s n.val (.xclrLa f) →
    let d := match f with | .short x => x.a.toNat | .long x => x.d.toNat
    (∀ x, f = .short x → x.b = 0) → (∀ x, f = .long x → x.a = 0 ∧ x.b = 0 ∧ x.fn = 0) → d < 4 →
    let r := readyNib s n.val
    ∃ t, exec (.xclrLa n true f) s = .next t ∧ OnlyNib s t n.val ∧
      getNib t n.val = issued r (inFlight r 8 (.la d .clear)) (pcPast s n.val (.xclrLa f))) ∧
  (∀ (s : State) (n : NibId) (f : LR) (m : Fmt), Issues s n.val (.prd f) → (readyNib s n.val).compat = false → f.a.toNat < 8 →
    readoutOk f m →
    let r := readyNib s n.val
    ∃ t, exec (.prd n true f) s = .next t ∧ OnlyNib s t n.val ∧
      getNib t n.val = issued r (readoutOf r f.fn.toNat f.d.toNat m ((pRow r f.a.toNat).map (fun l => (unpackLane l, 0)))
        (staleOf r false f.a.toNat)) (pcPast s n.val (.prd f))) ∧
  (∀ (s : State) (n : NibId) (f : LR) (m : Fmt), Issues s n.val (.lard f) → f.a.toNat < 4 → readoutOk f m →
    let r := readyNib s n.val
    ∃ t, exec (.lard n true f) s = .next t ∧ OnlyNib s t n.val ∧
      getNib t n.val = issued r (readoutOf r f.fn.toNat f.d.toNat m ((laRow r f.a.toNat).map LaLane.taken)
        (staleOf r true f.a.toNat)) (pcPast s n.val (.lard f))) ∧
  (∀ (s : State) (n : NibId) (f : LR), Issues s n.val (.lard f) → f.a.toNat < 4 → f.fn = 6 → f.d ≠ f.b →
    let r := readyNib s n.val
    let ps := (laRow r f.a.toNat).map LaLane.pair
    ∃ t, exec (.lard n true f) s = .next t ∧ OnlyNib s t n.val ∧
      getNib t n.val = issued r (withFlags
        (landAt (landAt r (readoutClass r) (.v f.d.toNat (BitVec.allOnes 2048) (BitVec.ofNat 2048 (ofElems 32 (ps.map (·.1))))))
          (readoutClass r) (.v f.b.toNat (BitVec.allOnes 2048) (BitVec.ofNat 2048 (ofElems 32 (ps.map (·.2))))))
        (staleOf r true f.a.toNat)) (pcPast s n.val (.lard f))) ∧
  (∀ (s : State) (n : NibId) (f : LR), Issues s n.val (.lard f) → f.a.toNat < 4 → f.fn = 7 → f.b.toNat ≤ 20 →
    let r := readyNib s n.val
    ∃ t, exec (.lard n true f) s = .next t ∧ OnlyNib s t n.val ∧
      getNib t n.val = issued r (withFlags
        (vectorResult r f.d.toNat 32 0 ((laRow r f.a.toNat).map (fun l => (LaLane.slice l f.b.toNat, 0))) (readoutClass r) .nearestEven)
        (staleOf r true f.a.toNat)) (pcPast s n.val (.lard f))) ∧
  (∀ (s : State) (n : NibId) (f : LI) (m : Fmt), Issues s n.val (.lard1 f) → f.a.toNat < 4 → readFmt (f.imm.toNat / 64 % 8) = some m →
    f.imm.toNat / 512 % 8 ≤ 4 → (bitAt f.imm.toNat 12 = true → m = .e4m3 ∨ m = .e5m2) → f.imm.toNat < 8192 →
    let r := readyNib s n.val
    let lane := f.imm.toNat % 64
    let md := RMode.ofCode (f.imm.toNat / 512 % 8)
    let x := LaLane.taken ((laRow r f.a.toNat)[lane]?.getD LaLane.zero)
    let z := roundTo m md (bitAt f.imm.toNat 12) (drawOf r md lane) x.1
    ∃ t, exec (.lard1 n true f) s = .next t ∧ OnlyNib s t n.val ∧
      getNib t n.val = issued r (scalarResult r f.d.toNat (z.1, z.2 ||| x.2 ||| staleOf r true f.a.toNat) (readoutClass r) md)
        (pcPast s n.val (.lard1 f))) ∧
  (∀ (s : State) (n : NibId) (f : LR) (ls : List XV) (fl : Flags), Issues s n.val (.xmulv f) → (readyNib s n.val).compat = true →
    mulLanes (loneCtx s n.val (.xmulv f)) f = some (ls, fl) →
    let r := readyNib s n.val
    let md := modeOf r
    ∃ t, exec (.xmulv n true f) s = .next t ∧ OnlyNib s t n.val ∧
      getNib t n.val = issued r (withFlags (vectorResult r f.d.toNat 32 0
        (ls.mapIdx (fun i x => roundTo .fp32 md false (drawOf r md i) x)) 4 md) fl) (pcPast s n.val (.xmulv f))) ∧
  (∀ (s : State) (n : NibId) (f : LR) (ls : List XV) (fl : Flags), Issues s n.val (.xdot f) → (readyNib s n.val).compat = true →
    mulLanes (loneCtx s n.val (.xdot f)) f = some (ls, fl) →
    let r := readyNib s n.val
    let md := modeOf r
    let z := roundTo .fp32 md false (drawOf r md 0) (sumX ls).1
    ∃ t, exec (.xdot n true f) s = .next t ∧ OnlyNib s t n.val ∧
      getNib t n.val = issued r (scalarResult r f.d.toNat (z.1, z.2 ||| (sumX ls).2 ||| fl) 4 md) (pcPast s n.val (.xdot f))) ∧
  (∀ (s : State) (n : NibId) (due j : Nat) (lanes : List (BitVec 96)), (getNib s n.val).flight = [⟨due, .p j lanes⟩] →
    ∃ t, exec (.xResultLand n) s = .next t ∧ OnlyNib s t n.val ∧
      getNib t n.val = if due ≤ (getNib s n.val).bundles
        then { getNib s n.val with p := (getNib s n.val).p.setIfInBounds j (plansOf lanes), flight := [] } else getNib s n.val)

/-- R100 to R105, R128, R129: branches continue at their target or past themselves, CALL and CALLR write the frame and move sp, RET restores
what the frame saved, and END ends the Nib with every result landed. R57 to R61: TRAP stops the launch that runs on the Nib's core: the
launch's fault record names the TRAP with its field x, the Nib, its pc, its flags and the bundles it has issued, and every Nib of the launch
that ran or waited is STOPPED. -/
def Obligations.ControlFlow : Prop :=
  (∀ (s : State) (n : NibId), Issues s n.val (.endS 0) →
    let r := readyNib s n.val
    ∃ t, exec (.endS n true 0) s = .next t ∧ OnlyNib s t n.val ∧
      getNib t n.val = { landAll (issued r r (pcPast s n.val (.endS 0))) with st := .done }) ∧
  (∀ (s : State) (n : NibId) (off : BitVec 20), Issues s n.val (.br off) →
    let r := readyNib s n.val
    ∃ t, exec (.br n true off) s = .next t ∧ OnlyNib s t n.val ∧ getNib t n.val = issued r r (target r off)) ∧
  (∀ (s : State) (n : NibId) (f : LC), Issues s n.val (.bc f) → f.cond.toNat ≤ 5 →
    let r := readyNib s n.val
    ∃ t, exec (.bc n true f) s = .next t ∧ OnlyNib s t n.val ∧
      (branchCond f.cond.toNat (gGet r.g f.a.toNat).toInt → getNib t n.val = issued r r (target r f.off)) ∧
      (¬branchCond f.cond.toNat (gGet r.g f.a.toNat).toInt → getNib t n.val = issued r r (pcPast s n.val (.bc f)))) ∧
  (∀ o ∈ branchRows, ∀ (s : State) (n : NibId) (f : LY), Issues s n.val (o.syl f) →
    let r := readyNib s n.val
    ∃ t, exec (o.ins n true f) s = .next t ∧ OnlyNib s t n.val ∧
      (o.val (gGet r.g f.a.toNat) (gGet r.g f.b.toNat) → getNib t n.val = issued r r (target r f.imm)) ∧
      (¬o.val (gGet r.g f.a.toNat) (gGet r.g f.b.toNat) → getNib t n.val = issued r r (pcPast s n.val (o.syl f)))) ∧
  (∀ (s : State) (n : NibId) (f : LY), Issues s n.val (.brr f) → f.a = 0 → f.imm = 0 → (gGet (readyNib s n.val).g f.b.toNat).toNat % 2 = 0 →
    let r := readyNib s n.val
    ∃ t, exec (.brr n true f) s = .next t ∧ OnlyNib s t n.val ∧ getNib t n.val = issued r r (gGet r.g f.b.toNat).toNat) ∧
  (∀ (s : State) (n : NibId) (f : LC), Issues s n.val (.dbnz f) → f.cond = 0 →
    let r := readyNib s n.val
    let x := gGet r.g f.a.toNat - 1
    ∃ t, exec (.dbnz n true f) s = .next t ∧ OnlyNib s t n.val ∧
      getNib t n.val = issued r (landAt r 1 (.g f.a.toNat x)) (if x = 0 then pcPast s n.val (.dbnz f) else target r f.off)) ∧
  (∀ (s : State) (n : NibId) (f : LK), Issues s n.val (.call f) →
    let r := readyNib s n.val
    callOk r (callMask r f.a) → r.sp.toNat ≤ 2 ^ 20 →
    ∃ t, exec (.call n true f) s = .next t ∧ Called s t n.val (.call f) (callMask r f.a) (target r f.off)) ∧
  (∀ (s : State) (n : NibId) (f : LY), Issues s n.val (.callr f) → f.imm = 0 → (gGet (readyNib s n.val).g f.b.toNat).toNat % 2 = 0 →
    let r := readyNib s n.val
    callOk r (callMask r f.a) → r.sp.toNat ≤ 2 ^ 20 →
    ∃ t, exec (.callr n true f) s = .next t ∧ Called s t n.val (.callr f) (callMask r f.a) (gGet r.g f.b.toNat).toNat) ∧
  (∀ (s : State) (n : NibId), Issues s n.val (.ret 0) →
    let r := readyNib s n.val
    let k := getCore s (n.val / 4)
    let sp := r.sp.toNat
    let word (j : Nat) := leNat (scratchRead k (sp + 4 * j) 4)
    let mask := word 1 / 2 * 2
    sp % 16 = 0 → r.stackLo.toNat ≤ sp → sp + frameSize mask ≤ r.stackHi.toNat → scratchErrs k sp (frameSize mask) = [] →
    word 0 % 2 = 0 →
    ∃ t, exec (.ret n true 0) s = .next t ∧ OnlyNib s t n.val ∧
      getNib t n.val = issued r
        (landAt ((onesOf 32 mask).zipIdx.foldl (fun x i => landAt x 1 (.g i.1 (BitVec.ofNat 32 (word (4 + i.2))))) r) 1
          (.sp (BitVec.ofNat 32 (sp + frameSize mask)))) (word 0)) ∧
  (∀ (s : State) (n : NibId) (x : BitVec 4) (l : Launch), Issues s n.val (.trap x) →
    findLaunch s (petalOfNib s n.val) (getNib s n.val).launchTag.toNat = some l → l.stop = none → l.fault = none →
    n.val ∈ nibsOf l.cores →
    ∃ t, exec (.trap n true x) s = .next t ∧
      (∃ l' f, findLaunch t l.petal l.tag = some l' ∧ l' = { l with fault := some f } ∧ f.code = 0x8A ∧ f.unit = 4 ∧ f.address = x.toNat ∧
        f.nib = n.val ∧ f.pc = (getNib s n.val).pc.toNat ∧ f.flags = (getNib s n.val).flags ∧
        f.bundles = (getNib s n.val).bundles ∧ f.time = s.elapsed) ∧
      (∀ m ∈ nibsOf l.cores, (getNib t m).st ≠ .running ∧ ∀ w e, (getNib t m).st ≠ .waiting w e) ∧
      (getNib t n.val).st = .stopped ∧
      (∀ m, m ∉ nibsOf l.cores → getNib t m = getNib s m) ∧ t.mem = s.mem ∧ t.cores = s.cores)

/-- R44, R46, R49, R53, R130, R421, R424: the Y-class syllables. A fence whose tags are all complete, or a wait whose counter has reached
its target, only moves the Nib past itself; one that has not makes the Nib WAITING. SIGNAL, SIGNALI and CONSUME put one update into the sync
port of the core. STREAM issues the stream that its descriptor describes. R169, R170, R179, R307: EVPOST writes an event record into the
completion ring of its launch's queue, with the launch's tag, PENDING, the code, the Nib's number and g[a], advances CQ_TAIL, the used
entries and the sequence number, and counts the event; the Nib moves on. Where the rules leave it open, it states the choices of log entries
9 and 17, which are the model's. -/
def Obligations.SyncSyllables : Prop :=
  (∀ (s : State) (n : NibId), Issues s n.val (.sfencea 0) →
    let r := readyNib s n.val
    ∃ t, exec (.sfencea n true 0) s = .next t ∧ OnlyNib s t n.val ∧
      ((∀ q ∈ r.streams, 16 ≤ q.tag) → getNib t n.val = issued r r (pcPast s n.val (.sfencea 0))) ∧
      ((∃ q ∈ r.streams, q.tag < 16) →
        getNib t n.val = { issued r r (pcPast s n.val (.sfencea 0)) with st := .waiting (.tags 0xFFFF) false })) ∧
  (∀ (s : State) (n : NibId) (x : BitVec 4), Issues s n.val (.sfencet x) →
    let r := readyNib s n.val
    ∃ t, exec (.sfencet n true x) s = .next t ∧ OnlyNib s t n.val ∧
      ((∀ q ∈ r.streams, q.tag ≠ x.toNat) → getNib t n.val = issued r r (pcPast s n.val (.sfencet x))) ∧
      ((∃ q ∈ r.streams, q.tag = x.toNat) →
        getNib t n.val = { issued r r (pcPast s n.val (.sfencet x)) with st := .waiting (.tags (2 ^ x.toNat)) false })) ∧
  (∀ (s : State) (n : NibId) (f : LY), Issues s n.val (.sfence f) → f.b = 0 → f.imm = 0 →
    let r := readyNib s n.val
    let mask := (addrReg r f.a.toNat).toNat % 65536
    ∃ t, exec (.sfence n true f) s = .next t ∧ OnlyNib s t n.val ∧
      ((∀ q ∈ r.streams, mask.testBit q.tag = false) → getNib t n.val = issued r r (pcPast s n.val (.sfence f))) ∧
      ((∃ q ∈ r.streams, mask.testBit q.tag = true) →
        getNib t n.val = { issued r r (pcPast s n.val (.sfence f)) with st := .waiting (.tags mask) false })) ∧
  (∀ (s : State) (n : NibId) (f : LY), Issues s n.val (.stream f) → f.b = 0 → f.imm = 0 →
    let r := readyNib s n.val
    let k := getCore s (n.val / 4)
    let a := (addrReg r f.a.toNat).toNat
    let raw := leNat (scratchEarly (loneCtx s n.val (.stream f)) a 64)
    accessOk a 64 → scratchErrs k a 64 = [] → (∀ q ∈ r.streams, q.tag ≠ (streamD raw).tag) →
    streamCheck (loneCtx s n.val (.stream f)) raw a = none →
    ∃ t, exec (.stream n true f) s = .next t ∧ OnlyNib s t n.val ∧
      getNib t n.val = { issued r r (pcPast s n.val (.stream f)) with
        streams := r.streams ++ [⟨(streamD raw).tag, BitVec.ofNat 512 raw, a⟩] }) ∧
  (∀ o ∈ signalRows, ∀ (s : State) (n : NibId) (f : LY), Issues s n.val (o.syl f) → o.val.1 f →
    let r := readyNib s n.val
    let i := (addrReg r f.a.toNat).toNat
    i < petalCounters s n.val → (getCore s (n.val / 4)).port.length < 32 →
    ∃ t, exec (o.ins n true f) s = .next t ∧ t = { s with nibs := t.nibs, cores := t.cores } ∧
      getNib t n.val = issued r r (pcPast s n.val (o.syl f)) ∧ (∀ m, m ≠ n.val → getNib t m = getNib s m) ∧
      getCore t (n.val / 4) = { getCore s (n.val / 4) with
        port := (getCore s (n.val / 4)).port ++ [⟨petalOfNib s n.val, i, o.val.2 r f⟩] } ∧
      ∀ m, m ≠ n.val / 4 → getCore t m = getCore s m) ∧
  (∀ o ∈ [(⟨.wait, .wait, false⟩ : SylRow LY Bool), ⟨.waitc, .waitc, true⟩], ∀ (s : State) (n : NibId) (f : LY) (q : Petal),
    Issues s n.val (o.syl f) → f.imm = 0 → f.b.toNat % 2 = 0 →
    getPetal s (petalOfNib s n.val) = some q → (getCore s (n.val / 4)).port = [] →
    let r := readyNib s n.val
    let i := (addrReg r f.a.toNat).toNat
    let target := waitTarget r f.b.toNat
    i < recCounters q.record →
    ∃ t, exec (o.ins n true f) s = .next t ∧ (∀ m, m ≠ n.val → o.val = false → getNib t m = getNib s m) ∧
      ((counterVal q i).toInt < target.toInt →
        getNib t n.val = { issued r r (pcPast s n.val (o.syl f)) with st := .waiting (.counter i target o.val) false } ∧
        t.waiters = insertWaiter s.waiters ⟨.nib n.val, petalOfNib s n.val, i, target, o.val, s.elapsed⟩ ∧ t.petals = s.petals) ∧
      (target.toInt ≤ (counterVal q i).toInt → o.val = false →
        getNib t n.val = issued r r (pcPast s n.val (o.syl f)) ∧ t.waiters = s.waiters ∧ t.petals = s.petals) ∧
      (target.toInt ≤ (counterVal q i).toInt → o.val = true → s.waiters = [] → counterFits ((counterVal q i).toInt - target.toInt) = true →
        getNib t n.val = issued r r (pcPast s n.val (o.syl f)) ∧
        getPetal t (petalOfNib s n.val) =
          some { q with counters := put q.counters i (BitVec.ofInt 64 ((counterVal q i).toInt - target.toInt)) })) ∧
  (∀ (s : State) (n : NibId) (f : LY) (l : Launch) (q : Petal) (r : Ring), Issues s n.val (.evpost f) → f.b = 0 →
    findLaunch s (petalOfNib s n.val) (getNib s n.val).launchTag.toNat = some l →
    getPetal s (petalOfNib s n.val) = some q → look q.queues l.queue = some r → r.cqUsed + r.reserved < 2 ^ r.cqLog →
    2048 ≤ r.msix →
    let p := petalOfNib s n.val
    let x := readyNib s n.val
    let s' := setNib s n.val (issued x x (pcPast s n.val (.evpost f)))
    ∃ t, exec (.evpost n true f) s = .next t ∧ getNib t n.val = issued x x (pcPast s n.val (.evpost f)) ∧
      t.mem = (memPut s' p (r.cqPda + 32 * r.cqTail)
        (leBytes 32 (record l.tag 1 l.queue ((addrReg x f.a.toNat).toNat + n.val * 2 ^ 32) r.seq (0x9F + f.imm.toNat * 2 ^ 8) r.phase))).mem ∧
      ((getPetal t p).bind (fun q => look q.queues l.queue)) = some { r with
        cqTail := (r.cqTail + 1) % 2 ^ r.cqLog
        cqUsed := r.cqUsed + 1
        seq := r.seq + 1
        phase := if (r.cqTail + 1) % 2 ^ r.cqLog = 0 then !r.phase else r.phase } ∧
      (∀ m, m ≠ n.val → getNib t m = getNib s m) ∧ t.waiters = s.waiters ∧ t.launches = s.launches ∧ t.bus = s.bus)

/-- R47, R49, R53, R421: a stream completes. An inbound stream puts the bytes of petal memory into scratch and an outbound one scratch bytes
into petal memory, line by line in the order of R47; its tag is no longer pending, a Nib that waits for tags of which none is pending any
more goes on, and a stream with a signal adds its increment to its counter. Where the rules leave it open, it states the choices of log
entry 16, which are the model's. -/
def Obligations.StreamCompletion : Prop :=
  ∀ (s : State) (n : NibId) (tag : BitVec 4) (q : Stream), (getNib s n.val).streams.find? (fun q => q.tag == tag.toNat) = some q →
    let d := streamD q.desc.toNat
    let p := petalOfNib s n.val
    let k := getCore s (n.val / 4)
    let x := getNib s n.val
    let y := { x with streams := x.streams.filter (fun u => u.tag != tag.toNat) }
    (d.signal = true → s.waiters = []) →
    (d.op = 1 → ∀ l ∈ streamLines d, poisonIn s p l.2 64 = none) → (d.op ≠ 1 → ∀ l ∈ streamLines d, scratchErrs k l.1 64 = []) →
    ∃ t, exec (.streamComplete n tag) s = .next t ∧
      (d.op = 1 → t.mem = s.mem ∧ getCore t (n.val / 4) =
        (streamLines d).foldl (fun c l => scratchWrite c l.1 (memRead (fresh s) p l.2 64)) k) ∧
      (d.op ≠ 1 → t.cores = s.cores ∧ t.mem =
        ((streamLines d).foldl (fun a l => memPut a p l.2 (scratchRead k l.1 64)) (fresh s)).mem) ∧
      (x.st = .running → getNib t n.val = y) ∧
      (∀ m, x.st = .waiting (.tags m) false →
        getNib t n.val = if tagsPending y m then y else { y with st := .running }) ∧
      (d.signal = false → ∀ i, (getPetal t p).map (counterVal · i) = (getPetal s p).map (counterVal · i)) ∧
      (∀ z, d.signal = true → getPetal s p = some z → counterFits ((counterVal z d.counter).toInt + d.inc) = true →
        (getPetal t p).map (counterVal · d.counter) = some (BitVec.ofInt 64 ((counterVal z d.counter).toInt + d.inc))) ∧
      (∀ m, m ≠ n.val → getNib t m = getNib s m) ∧ (∀ m, m ≠ n.val / 4 → getCore t m = getCore s m) ∧
      t.launches = s.launches ∧ t.bus = s.bus

/-- R165, R167 to R169, R181, R182: the doorbells of a launch queue take a legal value and count an illegal one; the commands of images and
queues keep and drop images, create and remove queues, and abort launches. -/
def Obligations.LaunchCommands : Prop :=
  (∀ (s : State) (p : PetalId) (q : Fin 64) (v : W32) (r : Ring), getQueue (awake s) p.val q.val = some r →
    (v.toNat < 2 ^ r.sqLog → ringOffered r ≤ (v.toNat + 2 ^ r.sqLog - r.sqHead) % 2 ^ r.sqLog →
      exec (.lchSqTail p q v) s = .next (setQueue (awake s) p.val q.val { r with sqTail := v.toNat })) ∧
    (2 ^ r.sqLog ≤ v.toNat ∨ (v.toNat + 2 ^ r.sqLog - r.sqHead) % 2 ^ r.sqLog < ringOffered r →
      exec (.lchSqTail p q v) s = .next (count (awake s) kLch p.val 7 1)) ∧
    (v.toNat < 2 ^ r.cqLog → (v.toNat + 2 ^ r.cqLog - r.cqHead) % 2 ^ r.cqLog ≤ r.cqUsed →
      exec (.lchCqHead p q v) s = .next (setQueue (awake s) p.val q.val
        { r with cqHead := v.toNat, cqUsed := r.cqUsed - (v.toNat + 2 ^ r.cqLog - r.cqHead) % 2 ^ r.cqLog })) ∧
    (2 ^ r.cqLog ≤ v.toNat ∨ r.cqUsed < (v.toNat + 2 ^ r.cqLog - r.cqHead) % 2 ^ r.cqLog →
      exec (.lchCqHead p q v) s = .next (count (awake s) kLch p.val 7 1))) ∧
  (∀ (s : State) (m : Mbx) (x : Petal) (img : Image), Served cmdImageRegister m s →
    let b := fresh (begun cmdImageRegister m s)
    let p := m.page.val
    let a := mf m 0x10 0 48
    let n := mf m 0x18 0 32
    getPetal b p = some x → (imageCheck b p a n (mf m 0x1C 0 16)).toOption = some img →
    ∃ t, Answers (.lchImageRegister m) m s t (replyData (leNat (sha3 (memRead b p a n))) 32) ∧
      (getPetal t p).map (fun z => look z.images a) =
        some (some ⟨BitVec.ofNat 1024 (memNat b p a 128), BitVec.ofNat 256 (leNat (sha3 (memRead b p a n)))⟩) ∧
      t.mem = s.mem ∧ t.launches = s.launches) ∧
  (∀ (s : State) (m : Mbx) (x : Petal) (img : Image), Served cmdImageRelease m s →
    let b := begun cmdImageRelease m s
    let p := m.page.val
    let a := mf m 0x10 0 48
    getPetal b p = some x → rising x.images = true → look x.images a = some img →
    (∀ l ∈ b.launches, l.petal = p → dImage l.desc.toNat ≠ a) →
    ∃ t, Answers (.lchImageRelease m) m s t replyOk ∧ (getPetal t p).map (fun z => look z.images a) = some none ∧
      (∀ c, c ≠ a → (getPetal t p).map (fun z => look z.images c) = some (look x.images c)) ∧ t.mem = s.mem) ∧
  (∀ (s : State) (m : Mbx) (x : Petal), Served cmdQueueCreate m s →
    let b := begun cmdQueueCreate m s
    let p := m.page.val
    let q := mf m 0x10 0 6
    let sq := mf m 0x10 8 8
    let cq := mf m 0x10 16 8
    let v := mf m 0x14 0 16
    let sqPda := mf m 0x18 0 48
    let cqPda := mf m 0x20 0 48
    getPetal b p = some x → look x.queues q = none → 4 ≤ sq → sq ≤ 16 → sq ≤ cq → cq ≤ 16 → sqPda % 64 = 0 → cqPda % 64 = 0 →
    overlaps sqPda (64 * 2 ^ sq) cqPda (32 * 2 ^ cq) = false → q < recQueues x.record → inSlots x sqPda (64 * 2 ^ sq) = true →
    inSlots x cqPda (32 * 2 ^ cq) = true → v = 0xFFFF ∨ look b.msixOwner v = some p →
    Answers (.lchQueueCreate m) m s (setPetal b p { x with queues := put x.queues q (Ring.new sq cq sqPda cqPda v) }) replyOk) ∧
  (∀ (s : State) (m : Mbx) (r : Ring), Served cmdQueueDestroy m s →
    let b := begun cmdQueueDestroy m s
    let p := m.page.val
    let q := mf m 0x10 0 6
    getQueue b p q = some r → (∀ l ∈ b.launches, ¬(l.petal = p ∧ l.queue = q)) → (∀ x, getPetal b p = some x → rising x.queues = true) →
    ∃ t, Answers (.lchQueueDestroy m) m s t replyOk ∧ getQueue t p q = none ∧
      (∀ c, c ≠ q → getQueue t p c = getQueue b p c) ∧ t.launches = s.launches ∧ t.mem = s.mem) ∧
  (∀ (s : State) (m : Mbx) (l : Launch), Served cmdLchAbort m s →
    let b := begun cmdLchAbort m s
    let p := m.page.val
    b.launches.find? (fun l => l.petal == p && l.queue == mf m 0x10 0 6 && l.tag == mf m 0x12 0 13) = some l →
    (l.started = none → ∃ t, Answers (.lchAbort m) m s t replyOk ∧
      t.launches = (markHead { b with launches := b.launches.filter (fun x => !(x.petal == p && x.tag == l.tag)) } p l.queue).launches) ∧
    (l.started.isSome = true → l.stop = none → l.fault = none → ∃ t,
      exec (.lchAbort m) s = .next (postPending cmdLchAbort m (.taskEnd p l.tag true) none t) ∧
      (∀ z ∈ t.launches, z.petal = p → z.tag = l.tag → z.stop = some (stAborted, 0xAE)) ∧
      ∀ n ∈ nibsOf l.cores, (getNib t n).st ≠ .running ∧ ∀ w e, (getNib t n).st ≠ .waiting w e))

/-- R169, R174 to R180: a launch in its course: the device takes a valid descriptor, starts the first head that may start, reserves cores
for a head that waits, stops a launch at its timeout, and completes it. Where the rules leave it open, it states the choices of log entry 2,
which are the model's. -/
def Obligations.LaunchCourse : Prop :=
  (∀ (s : State) (p : PetalId) (q : Fin 64) (x : Petal) (r : Ring), getPetal s p.val = some x → look x.queues q.val = some r →
    x.st = .active → r.closing = false → 0 < ringOffered r → r.cqUsed + r.reserved < 2 ^ r.cqLog → keyPresent s p.val = true →
    let a := r.sqPda + 64 * r.sqHead
    let d := memNat (fresh s) p.val a 64
    poisonIn (fresh s) p.val a 64 = none → dCheck (fresh s) p.val d = none →
    ∃ t, exec (.launchAccept p q) s = .next t ∧
      (∃ l ∈ t.launches, l.petal = p.val ∧ l.queue = q.val ∧ l.tag = dTag d ∧ l.desc = BitVec.ofNat 512 d ∧
        l.cores = (dCoreSet (fresh s) p.val d).map (fun i => x.cores[i]?.getD 0) ∧ l.started = none ∧ l.fault = none) ∧
      getQueue t p.val q.val = some { r with sqHead := (r.sqHead + 1) % 2 ^ r.sqLog, reserved := r.reserved + 1 } ∧
      (getPetal t p.val).map (fun z => look z.tags (dTag d)) = some (some .launch) ∧
      countVal t kLch p.val 0 = (countVal s kLch p.val 0 + 1) % 2 ^ 64 ∧
      t.mem = s.mem ∧ t.nibs = s.nibs ∧ t.cores = s.cores ∧ t.launches.length = s.launches.length + 1) ∧
  (∀ (s : State) (p : PetalId) (tag : BitVec 13) (x : Petal) (l : Launch), getPetal s p.val = some x → x.st = .active →
    keyPresent s p.val = true → (queueHeads s p.val).find? (startable s) = some l → l.tag = tag.toNat →
    let a := dImage l.desc.toNat
    let h := l.header.toNat
    let img := memRead (fresh s) p.val a (fld h 8 0 32)
    (∀ k ∈ l.cores, (getCore s k).failed = false) → poisonIn (fresh s) p.val a (fld h 8 0 32) = none →
    leNat (sha3 img) = l.digest.toNat → l.cores.Nodup →
    ∃ t, exec (.launchStart p tag) s = .next t ∧
      (∀ k rank, l.cores[rank]? = some k →
        getCore t k = { loadCore l img (getCore s k) with launch := some l.tag, codeBase := hCodeBase h, codeBytes := hRegionBytes h } ∧
        ∀ j, j < 4 → getNib t (4 * k + j) = startNib (fresh s) l ((img.drop (hInitOff h)).take (hInitBytes h)) rank j) ∧
      (∀ k, k ∉ l.cores → getCore t k = getCore s k) ∧ (∀ n, n / 4 ∉ l.cores → getNib t n = getNib s n) ∧
      (∀ z ∈ t.launches, z.petal = p.val → z.tag = l.tag → z.started = some s.elapsed) ∧ t.mem = s.mem) ∧
  (∀ (s : State) (p : PetalId) (q : Fin 64) (l : Launch) (since : W64), (waitingOf s p.val q.val).head? = some l → l.headAt = some since →
    since.toNat * 10 + 1000000 ≤ s.elapsed.toNat * 10 →
    exec (.launchHeadReserve p q) s = .next (modLaunch s p.val l.tag (fun l => { l with reserves := true }))) ∧
  (∀ (s : State) (p : PetalId) (tag : BitVec 13) (l : Launch) (x : Petal) (r : Ring), findLaunch s p.val tag.toNat = some l →
    launchEnded s l = true → l.stop = none → l.fault = none → dSig l.desc.toNat = false → (∀ k ∈ l.cores, (getCore s k).port = []) →
    getPetal s p.val = some x → rising x.tags = true → look x.queues l.queue = some r → r.closing = false →
    ∃ t, exec (.launchComplete p tag) s = .next t ∧
      (∀ z ∈ t.launches, ¬(z.petal = p.val ∧ z.tag = tag.toNat)) ∧
      (∀ k ∈ l.cores, (getCore t k).launch = none ∧ ∀ j, j < 4 → (getNib t (4 * k + j)).st = .idle) ∧
      (getPetal t p.val).map (fun z => look z.tags tag.toNat) = some none ∧
      (dRec l.desc.toNat = false → getQueue t p.val l.queue = some { r with reserved := r.reserved - 1 } ∧ t.mem = s.mem) ∧
      (dRec l.desc.toNat = true → getQueue t p.val l.queue = some { ringAdvance r with reserved := r.reserved - 1 } ∧
        t.mem = (memPut s p.val (r.cqPda + 32 * r.cqTail) (leBytes 32 (record l.tag stOk l.queue
          (s.elapsed - (l.started.getD 0)).toNat r.seq
          ((nibsOf l.cores).foldl (fun a n => a ||| (getNib s n).flags % 256) 0 * 2 ^ 8) r.phase))).mem)) ∧
  (∀ (s : State) (p : PetalId) (tag : BitVec 13) (l : Launch), findLaunch s p.val tag.toNat = some l → l.started.isSome = true →
    l.stop = none → l.fault = none → dTimeout l.desc.toNat ≠ 0 → dTimeout l.desc.toNat * 100000 ≤ countedSteps s l →
    ∃ t, exec (.launchTimeout p tag) s = .next t ∧
      (∀ z ∈ t.launches, z.petal = p.val → z.tag = tag.toNat → z.stop = some (stTimeout, 0xAD)) ∧
      (∀ n ∈ nibsOf l.cores, (getNib t n).st ≠ .running ∧ ∀ w e, (getNib t n).st ≠ .waiting w e) ∧
      (∀ n, n ∉ nibsOf l.cores → getNib t n = getNib s n) ∧ t.cores = s.cores ∧ t.mem = s.mem)

/-- R298 to R304: HOST_HELLO opens a session or refuses another major version; IDENTIFY and the renewals; HOST_GOODBYE and an expired lease
end the session, and a petal page's petal is withheld from the host. Where the rules leave it open, it states the choices of log entry 30,
which are the model's. -/
def Obligations.Sessions : Prop :=
  (∀ (s : State) (m : Mbx), Served cmdHostHello m s →
    let b := begun cmdHostHello m s
    let g := m.page.val
    let v := mf m 0x14 0 12
    mf m 0x10 16 16 = 3 →
    v = 0xFFF ∨ v < 2048 ∧ (look b.msixOwner v = some 0x200 ∨ g ≠ 512 ∧ look b.msixOwner v = some g) →
    ∃ t id, Answers (.hostHello m) m s t (replyData (3 * 2 ^ 16 + id * 2 ^ 64 + 500 * 2 ^ 96 + 2000 * 2 ^ 112) 16) ∧
      0 < id ∧ id < 2 ^ 32 ∧ id ≠ (getPage b g).sessId.toNat ∧ (getPage t g).session = 1 ∧ (getPage t g).sessId.toNat = id ∧
      (getPage t g).minor = 0 ∧ (getPage t g).vector = v ∧ (getPage t g).lastRenew = s.elapsed ∧
      (getPage t g).driverId.toNat = mf m 0x18 0 64 ∧ ∀ x, g ≠ 512 → getPetal t g = some x → x.msixHeld = false) ∧
  (∀ (s : State) (m : Mbx), Served cmdHostHello m s → mf m 0x10 16 16 ≠ 3 →
    ∃ t, Answers (.hostHello m) m s t ⟨stVersionRefused, 0x91 + 3 * 2 ^ 8, 3 * 2 ^ 16 + 500 * 2 ^ 96 + 2000 * 2 ^ 112, 16⟩ ∧
      (getPage t m.page.val).session = 3) ∧
  (∀ (s : State) (m : Mbx), Served cmdIdentify m s →
    let b := begun cmdIdentify m s
    Answers (.identify m) m s b (replyData (leNat [0x41, 0x45, 0x44, 0x2D, 0x59, 0x31, 0x4D] + Config.serial.toNat * 2 ^ 128 +
      (fwBuild b).toNat * 2 ^ 192 + 0x30000 * 2 ^ 224 + (if m.page.val = 512 then 0x1FF else m.page.val) * 2 ^ 256) 0x28)) ∧
  (∀ (s : State) (m : Mbx), Served cmdLeaseRenew m s →
    ∃ t, Answers (.leaseRenew m) m s t replyOk ∧ (getPage t m.page.val).lastRenew = s.elapsed ∧ (getPage t m.page.val).session = 1 ∧
      t.petals = s.petals ∧ t.sec = s.sec) ∧
  (∀ (s : State) (page : PageId) (v : W32), pageAnswers s page.val = true → leaseDue s page.val = false →
    (getPage s page.val).session = 1 →
    ((getPage s page.val).sessId = v → ∃ t, exec (.ptlLeaseRenew page v) s = .next t ∧ (getPage t page.val).lastRenew = s.elapsed ∧
      (getPage t page.val).badRenewals = (getPage s page.val).badRenewals ∧ t = { s with pages := t.pages }) ∧
    ((getPage s page.val).sessId ≠ v → exec (.ptlLeaseRenew page v) s = .next (setPage s page.val
      { getPage s page.val with badRenewals := (getPage s page.val).badRenewals + 1 }))) ∧
  (∀ (s : State) (m : Mbx) (x : Petal), Served cmdHostGoodbye m s → m.page.val ≠ 512 → getPetal s m.page.val = some x → s.sec.sessions = [] →
    ∃ t, Answers (.hostGoodbye m) m s t replyOk ∧ (getPage t m.page.val).session = 2 ∧
      getPetal t m.page.val = some { x with
        causeLease := true
        upstreamHeld := true
        msixHeld := true
        st := if x.st = .active then .quiescing else x.st
        drainForced := if x.st = .active then false else x.drainForced }) ∧
  (∀ (s : State) (p : PetalId) (x : Petal), (getPage s p.val).session = 1 →
    (getPage s p.val).lastRenew.toNat * 10 + 2000000000 ≤ s.elapsed.toNat * 10 → getPetal s p.val = some x → s.sec.sessions = [] →
    ∃ t, exec (.leaseExpiry p) s = .next t ∧ getPage t p.val = { getPage s p.val with session := 2 } ∧
      getPetal t p.val = some { x with
        causeLease := true
        upstreamHeld := true
        msixHeld := true
        st := if x.st = .active then .quiescing else x.st
        drainForced := if x.st = .active then false else x.drainForced } ∧
      (∀ y ∈ t.pcie.atc, y ∈ s.pcie.atc ∧ y.pasid ∉ petalPasids x) ∧ t.mem = s.mem ∧ t.launches = s.launches) ∧
  (∀ (s : State), (getPage s 512).session = 1 → (getPage s 512).lastRenew.toNat * 10 + 2000000000 ≤ s.elapsed.toNat * 10 →
    s.sec.sessions = [] → s.sec.d2 = none →
    ∃ t, exec .deviceLeaseExpiry s = .next t ∧ getPage t 512 = { getPage s 512 with session := 2 } ∧
      t.devArea = { s.devArea with stage := [] } ∧ t.petals = s.petals ∧ t.mem = s.mem)

/-- R250, R306, R310: a command that stages its request appends it to its page's stage and changes nothing else; a gate list carries the
entries that it names in the control petal's memory (R389); WIN_QUERY reports a window's owner and its entry. -/
def Obligations.StagingCommands : Prop :=
  (∀ o ∈ stageRows, ∀ (s : State) (m : Mbx) (i : Instr), Stages o.1.opcode m i → Served o.1 m s →
    let b := begun o.1 m s
    let g := m.page.val
    o.2 b m = true → areaBytes (areaOf b g) + m.length.toNat ≤ 2 ^ 20 →
    Answers i m s (stagedOn b g ⟨o.1.opcode, m.payload, m.length.toNat, false, []⟩) replyOk) ∧
  (∀ (s : State) (m : Mbx) (c : Nat) (x : Petal), Served cmdSchGateSet m s →
    let b := begun cmdSchGateSet m s
    let n := mf m 0x10 16 11
    let a := mf m 0x28 0 48
    let entries := memRead (fresh b) c a (8 * n)
    controlPetal b = some c → getPetal b c = some x → portInRange b (mf m 0x10 0 5) = true → mf m 0x10 8 1 = 1 → 1 ≤ n → n ≤ 1024 →
    mf m 0x20 0 32 < 1000000000 → 64 ≤ mf m 0x24 0 32 → a % 64 = 0 → pdaInside x a (8 * n) = true → keyPresent b c = true →
    gateEntriesOk n (leNat entries) = true → areaBytes b.devArea + (m.length.toNat + 8 * n) ≤ 2 ^ 20 →
    ∃ t, Answers (.schGateSet m) m s t replyOk ∧
      t.devArea = { b.devArea with stage := b.devArea.stage ++ [⟨0x0721, m.payload, m.length.toNat + 8 * n, false, entries⟩] } ∧
      t.net = b.net ∧ t.mem = b.mem) ∧
  (∀ (s : State) (m : Mbx), Served cmdWinQuery m s →
    let b := begun cmdWinQuery m s
    let w := windowOf b (mf m 0x10 0 9)
    Answers (.winQuery m) m s b
      (replyData (w.owner + (if m.page.val ≠ 512 ∧ w.owner = m.page.val then w.entry.toNat else 0) * 2 ^ 64) 16))

/-- R251, R253: at the commit point a staged setting takes effect: a vector or window passes to its owner (R306, R310, R319), a window is
mapped, a binding, shares, a memory policy and the scrub intervals are stored (R274, R283, R146, R155), and so are the parser's rules and
ranges, the port mode, a queue's settings and an address (R366, R370, R388, R394). -/
def Obligations.CommittedSettings : Prop :=
  ∀ (s : State) (page : PageId) (tag : Nat) (i : Staged) (cs : List Commit), CommitsOne s page.val tag i cs →
    let p := i.payload
    let x := sf p 0x10 0 9
    (i.opcode = 0x0020 → sf p 0x10 16 12 = 1 → look s.msixOwner (sf p 0x10 0 11) = none → sf p 0x14 0 10 ≤ 512 →
      (sf p 0x14 0 10 = 512 ∨ (getPetal s (sf p 0x14 0 10)).isSome = true) → rising s.msixTable = true → rising s.msixPend = true →
      ∃ t, exec (.epochCommitPoint page) s = .next t ∧ Committed s t page.val tag cs ∧
        look t.msixOwner (sf p 0x10 0 11) = some (sf p 0x14 0 10) ∧ look t.msixTable (sf p 0x10 0 11) = none ∧
        look t.msixPend (sf p 0x10 0 11) = none) ∧
    (i.opcode = 0x0200 → sf p 0x10 16 10 = 1 → (windowOf s x).owner = 0x3FF → (getPetal s (sf p 0x14 0 10)).isSome = true →
      sf p 0x14 0 10 < 512 →
      ∃ t, exec (.epochCommitPoint page) s = .next t ∧ Committed s t page.val tag cs ∧ windowOf t x = ⟨sf p 0x14 0 10, 0⟩ ∧
        ∀ w, w ≠ x → windowOf t w = windowOf s w) ∧
    (i.opcode = 0x0201 → (windowOf s x).owner = page.val →
      ∃ t, exec (.epochCommitPoint page) s = .next t ∧ Committed s t page.val tag cs ∧
        windowOf t x = ⟨page.val, BitVec.ofNat 64 (sf p 0x18 0 64)⟩ ∧ ∀ w, w ≠ x → windowOf t w = windowOf s w) ∧
    (∀ z, i.opcode = 0x0110 → page.val = 512 → getPetal s x = some z →
      let l := z.bindings.set (sf p 0x10 16 2) (if bindValid (sf p 0x18 0 64) then BitVec.ofNat 64 (sf p 0x18 0 64) else 0)
      triplesTwice (setPetal s x { z with bindings := l }) = [] →
      ∃ t, exec (.epochCommitPoint page) s = .next t ∧ Committed s t page.val tag cs ∧ getPetal t x = some { z with bindings := l }) ∧
    (∀ z, i.opcode = 0x0112 → page.val = 512 → getPetal s x = some z →
      let r := BitVec.ofNat 1024 (setBits z.record.toNat 0x100 768 (sf p 0x60 0 768))
      sharesOver (setPetal s x { z with record := r }) = [] →
      ∃ t, exec (.epochCommitPoint page) s = .next t ∧ Committed s t page.val tag cs ∧ getPetal t x = some { z with record := r }) ∧
    (∀ z, i.opcode = 0x0211 → page.val = 512 → getPetal s x = some z → ceilingOk z (policyIn p) = true →
      ∃ t, exec (.epochCommitPoint page) s = .next t ∧ Committed s t page.val tag cs ∧
        (getPetal t x).map (·.policy) = some (policyIn p)) ∧
    (i.opcode = 0x0213 → page.val = 512 →
      let f (v dflt : Nat) := if v = 0 then dflt else v
      let okay (v fastest dflt : Nat) := v = 0 ∨ fastest ≤ v ∧ v ≤ dflt
      okay (sf p 0x14 0 32) 1000 2000000 → okay (sf p 0x18 0 32) 1000 600000 → okay (sf p 0x1C 0 32) 10000 1000000 →
      ∃ t, exec (.epochCommitPoint page) s = .next t ∧ Committed s t page.val tag cs ∧ t.scrubHbm = f (sf p 0x14 0 32) 2000000 ∧
        t.scrubLpddr = f (sf p 0x18 0 32) 600000 ∧ t.scrubHub = f (sf p 0x1C 0 32) 1000000) ∧
    (i.opcode = 0x0700 → page.val = 512 → s.rdma.qps = [] →
      ∃ t, exec (.epochCommitPoint page) s = .next t ∧ Committed s t page.val tag cs ∧ t.net.mode = sf p 0x10 0 2) ∧
    (i.opcode = 0x0710 → page.val = 512 →
      ∃ t, exec (.epochCommitPoint page) s = .next t ∧ Committed s t page.val tag cs ∧
        t.net = { s.net with rules := put s.net.rules (sf p 0x10 0 13) (BitVec.ofNat 1024 (sf p 0x20 0 1024)) }) ∧
    (i.opcode = 0x0711 → page.val = 512 →
      ∃ t, exec (.epochCommitPoint page) s = .next t ∧ Committed s t page.val tag cs ∧
        t.net = { s.net with ranges := put s.net.ranges (sf p 0x10 0 8) (BitVec.ofNat 64 (sf p 0x18 0 64)) }) ∧
    (i.opcode = 0x0740 → page.val = 512 → s.rdma.qps = [] →
      ∃ t, exec (.epochCommitPoint page) s = .next t ∧ Committed s t page.val tag cs ∧
        t.net = { s.net with addrs := put s.net.addrs (sf p 0x10 0 5 * 16 + sf p 0x10 8 4) (BitVec.ofNat 256 (sf p 0x10 0 256)) })

/-- R251, R253 to R255, R257, R258: EPOCH_COMMIT accepts the settings staged so far, EPOCH_DISCARD drops them; a commit whose setting fails
applies nothing; a drained or overdue commit answers its command. COUNTER_SNAPSHOT copies a group into memory. Where the rules leave it
open, it states the choices of log entry 60, which are the model's. -/
def Obligations.EpochCommands : Prop :=
  (∀ (s : State) (m : Mbx), Served cmdEpochCommit m s → mf m 0x10 0 1 = 0 →
    let b := begun cmdEpochCommit m s
    let g := m.page.val
    let a := areaOf b g
    (a.stage = [] → a.commits = [] → Answers (.epochCommit m) m s b (replyData (a.epoch % 2 ^ 64) 8)) ∧
    (a.stage ≠ [] ∨ a.commits ≠ [] → exec (.epochCommit m) s = .next (postPending cmdEpochCommit m (.epochDrain m.tag.toNat) none
      (setArea b g { a with stage := [], commits := a.commits ++ [⟨m.tag.toNat, a.stage, none⟩] })))) ∧
  (∀ (s : State) (page : PageId) (c : Commit) (cs : List Commit) (k : Nat), (areaOf s page.val).commits = c :: cs → c.point = none →
    (∀ i ∈ c.items, waitsConsent (fresh s) i = false) → commitFail (fresh s) c.items (applyItems page.val c.items 0 (fresh s)) = some k →
    exec (.epochCommitPoint page) s = .next (resolveOn
      (setArea (fresh s) page.val { areaOf s page.val with commits := cs, stage := c.items ++ (areaOf s page.val).stage })
      page.val (.epochDrain c.tag) (replyErr stInvalidArgument (0x81 + k % 2 ^ 16 * 2 ^ 8)))) ∧
  (∀ (s : State) (page : PageId) (c : Commit) (cs : List Commit) (since : W64), (areaOf s page.val).commits = c :: cs →
    c.point = some since →
    let u := resolveOn (setArea s page.val { areaOf s page.val with commits := cs }) page.val (.epochDrain c.tag)
      (replyData ((areaOf s page.val).epoch % 2 ^ 64) 8)
    exec (.epochDrainComplete page) s = .next u ∧
    (since.toNat * 10 + 1000000 ≤ s.elapsed.toNat * 10 →
      ∃ t, exec (.epochDrainOverdue page) s = .next t ∧ areaOf t page.val = areaOf u page.val ∧ t.mem = s.mem ∧
        (getPage t page.val).pends = (getPage s page.val).pends.map (fun q =>
          if q.why = .epochDrain c.tag ∧ q.outcome = none then
            { q with outcome := some ⟨stOk, 0x80, (areaOf s page.val).epoch % 2 ^ 64, 8⟩ } else q))) ∧
  (∀ (s : State) (m : Mbx), Served cmdEpochDiscard m s →
    let b := begun cmdEpochDiscard m s
    Answers (.epochDiscard m) m s (setArea b m.page.val { areaOf b m.page.val with stage := [] }) replyOk) ∧
  (∀ (s : State) (m : Mbx) (p : Nat), Served cmdCounterSnapshot m s →
    let b := fresh (begun cmdCounterSnapshot m s)
    let kind := mf m 0x10 0 8
    let inst := mf m 0x14 0 32
    let a := mf m 0x18 0 48
    let copy := snapshotBytes b kind inst
    1 ≤ kind → kind ≤ 0x13 → groupReadable m.page.val kind inst = true → groupExists b kind inst = true →
    snapshotTarget b m.page.val a copy.length = some p →
    ∃ t, Answers (.counterSnapshot m) m s t (replyData s.elapsed.toNat 8) ∧ t.mem = (memPut b p a copy).mem ∧
      leNat (copy.take 4) =
        (kind + (groupFields b kind inst).length * 2 ^ 8 + b2n (lookD b.wrapped (grpKey kind inst) false) * 2 ^ 16) % 2 ^ 32 ∧
      leNat ((copy.drop 4).take 4) = inst % 2 ^ 32 ∧ leNat ((copy.drop 8).take 8) = s.elapsed.toNat ∧
      (rising b.wrapped = true → mf m 0x10 31 1 = 1 → lookD t.wrapped (grpKey kind inst) false = false) ∧
      ∀ j v, (groupFields b kind inst)[j]? = some v → leNat ((copy.drop (64 + 8 * j)).take 8) = v % 2 ^ 64)

/-- R293, R296, R307: the late record of a pending command stands in its slot with the command's tag, status and detail and a set phase, its
data in the slot's data area, and the slot and the tag are free of the command; PTL_MBX_LATE_ACK frees the slot. Where the rules leave it
open, it states the choices of log entry 29, which are the model's. -/
def Obligations.LateRecords : Prop :=
  (∀ (s : State) (page : PageId) (slot : Fin 16) (a : Backing) (q : Pend) (r : Reply),
    (getPage s page.val).pends.find? (fun q => q.slot == slot.val) = some q → q.opcode ≠ 0x0A20 → q.outcome = some r →
    ∃ t, exec (.lateRecordPost page slot a) s = .next t ∧
      (lookD (getPage t page.val).late slot.val 0).toNat =
        record q.tag r.status 0xFFFF (r.payload % 2 ^ (8 * r.bytes)) (getPage s page.val).lateSeq r.detail true ∧
      holdsRecord (getPage t page.val) slot.val = true ∧
      lookD (getPage t page.val).lateData slot.val 0 = BitVec.ofNat 512 (r.payload % 2 ^ (8 * r.bytes)) ∧
      (getPage t page.val).lateSeq = (getPage s page.val).lateSeq + 1 ∧
      (getPage t page.val).pends = (getPage s page.val).pends.filter (fun x => x.slot != slot.val) ∧
      (∀ x, page.val ≠ 512 → getPetal s page.val = some x → rising x.tags = true →
        (getPetal t page.val).map (tagHeld · q.tag) = some false) ∧ t.mem = s.mem) ∧
  (∀ (s : State) (page : PageId) (v : W32), pageAnswers s page.val = true →
    holdsRecord (getPage s page.val) (v.toNat % 16) = true → rising (getPage s page.val).lateData = true →
    ∃ t, exec (.ptlMbxLateAck page v) s = .next t ∧ t = { s with pages := t.pages } ∧
      holdsRecord (getPage t page.val) (v.toNat % 16) = false ∧ lookD (getPage t page.val).lateData (v.toNat % 16) 0 = 0 ∧
      (getPage t page.val).pends = (getPage s page.val).pends ∧ ∀ g, g ≠ page.val → getPage t g = getPage s g)

/-- R286 to R288, R317 to R319: requests to PF0. BAR0 reads give the device page's registers and the areas of a page, and its writes fill
the request area; a BAR2 request that passes reads or writes the petal's memory that its window maps, and one that does not is refused; BAR4
reads and writes the vector table. Where the rules leave it open, it states the choices of log entries 57, 58 and 62, which are the model's.
-/
def Obligations.BarRequests : Prop :=
  (∀ (s : State) (t : Tlp) (o : BitVec 26) (n : Fin 4097) (v : Nat), (swPort s t.port.val).up = true → t.port.val = 0 → t.pasid = none →
    t.op = .read n → n.val = 4 →
    let r := arrived s t (quietBar0 s o.toNat t)
    r.pcie.memSpace = true → o.toNat % 4 = 0 → deviceReg r o.toNat = some v →
    ∃ u, exec (.bar0Request t o) s = .next u ∧ u.sent = r.sent ++ [.completion 0 false (leBytes 4 v)] ∧
      u = { r with ctr := u.ctr, wrapped := u.wrapped, sent := u.sent }) ∧
  (∀ (s : State) (t : Tlp) (o : BitVec 26) (g : PageId) (off : Nat), (swPort s t.port.val).up = true →
    let r := arrived s t (quietBar0 s o.toNat t)
    r.pcie.memSpace = true → pageAt o.toNat = some (g, off) → pageOpen r g t = true → leaseDue r g.val = false → off + tlpLen t ≤ 0x800 →
    (∀ n, t.op = .read n → ∃ u, exec (.bar0Request t o) s = .next u ∧
      u.sent = r.sent ++ [.completion 0 false (((areaImage (getPage r g.val)).drop off).take n.val)] ∧ u.pages = s.pages) ∧
    (∀ bs, t.op = .write bs → ∃ u, exec (.bar0Request t o) s = .next u ∧ u.sent = r.sent ∧
      (∀ k, k ≠ g.val → getPage u k = getPage s k) ∧
      ∃ q, getPage u g.val = { getPage s g.val with req := q } ∧
        ∀ i, i < 256 → leBytes 1 (q.toNat / 2 ^ (8 * i)) =
          leBytes 1 (if h : off ≤ i ∧ i - off < bs.length then (bs[i - off]'h.2).toNat else (getPage s g.val).req.toNat / 2 ^ (8 * i)))) ∧
  (∀ (s : State) (t : Tlp) (o : BitVec 41), (swPort s t.port.val).up = true →
    let r := arrived s t false
    let w := bar2Place r o.toNat
    (bar2Refusal r o.toNat t = none →
      (∀ n, t.op = .read n → poisonIn (fresh r) w.1 w.2 n.val = none → ∃ u, exec (.bar2Request t o) s = .next u ∧
        u.sent = r.sent ++ [.completion 0 false (memRead (fresh r) w.1 w.2 n.val)] ∧ u.mem = s.mem) ∧
      (∀ n, t.op = .read n → (poisonIn (fresh r) w.1 w.2 n.val).isSome = true → ∃ u, exec (.bar2Request t o) s = .next u ∧
        u.sent = r.sent ++ [.completion 0 true []] ∧ u.mem = s.mem) ∧
      (∀ bs, t.op = .write bs → ∃ u, exec (.bar2Request t o) s = .next u ∧ u.mem = (memPut (fresh r) w.1 w.2 bs).mem ∧
        u.sent = r.sent ∧ u.nibs = s.nibs ∧ u.cores = s.cores ∧ u.pages = s.pages)) ∧
    (∀ abort, bar2Refusal r o.toNat t = some abort → ∃ u, exec (.bar2Request t o) s = .next u ∧ u.mem = s.mem ∧ u.petals = s.petals ∧
      u.pcie.aer = s.pcie.aer + 1 ∧
      (∀ n, t.op = .read n → u.sent = r.sent ++ [.completion (if abort then 4 else 1) false []]) ∧
      (∀ bs, t.op = .write bs → u.sent = r.sent))) ∧
  (∀ (s : State) (t : Tlp) (o : BitVec 16) (who v : Nat), (swPort s t.port.val).up = true → o.toNat = 16 * v → v < 2048 →
    let r := arrived s t false
    bar4Reach r t = some who → reaches r who v = true →
    (∀ n : Fin 4097, t.op = .read n → n.val = 16 → ∃ u, exec (.bar4Request t o) s = .next u ∧
      u.sent = r.sent ++ [.completion 0 false (leBytes 16 (msixEntry s v).toNat)] ∧ u.msixTable = s.msixTable) ∧
    (∀ bs, t.op = .write bs → bs.length = 16 → ∃ u, exec (.bar4Request t o) s = .next u ∧
      msixEntry u v = BitVec.ofNat 128 (leNat bs) &&& 0x00000001FFFFFFFFFFFFFFFFFFFFFFFC ∧
      (∀ k, k ≠ v → msixEntry u k = msixEntry s k) ∧ u.msixOwner = s.msixOwner ∧ u.mem = s.mem))

/-- R2, R437, R291, R316, R336: REGISTER_WRITE. The interrupt controller's source and processor registers take their writable fields, and an
offset without a register stops the step; PF0's command register and a downstream port's ACS control take theirs; a 1 in PTL_MBX_STATUS
clears overrun; the device registers ignore writes. Where the rules leave it open, it states the choices of log entries 41 and 61, which are
the model's. -/
def Obligations.RegisterWrites : Prop :=
  (∀ (s : State) (o : BitVec 17) (v : W32) (n : Nat), o.toNat = 0x10000 + 8 * n → n < 4096 → bitAt v.toNat 17 = false →
    exec (.registerWrite (.hub o) v) s = .next (setSrc s n { getSrc s n with
      priority := v.toNat % 16
      target := v.toNat / 64 % 128
      enable := bitAt v.toNat 16 })) ∧
  (∀ (s : State) (o : BitVec 17) (v : W32) (k : Nat), o.toNat = 0x1000 + 0x40 * k → k < 65 →
    exec (.registerWrite (.hub o) v) s = .next (setProc s k { getProc s k with threshold := v.toNat % 16 })) ∧
  (∀ (s : State) (o : BitVec 17) (v : W32), NoHubRegister o.toNat → exec (.registerWrite (.hub o) v) s = .fault .noSuchRegister) ∧
  (∀ (s : State) (v : W32), (swPort s 0).up = true → s.pcie.retry = false →
    ∃ t, exec (.registerWrite (.pf0 .command) v) s = .next t ∧ t.busMaster = bitAt v.toNat 2 ∧ t.pcie.memSpace = bitAt v.toNat 1 ∧
      t.petals = s.petals ∧ t.mem = s.mem ∧ t.pages = s.pages) ∧
  (∀ (s : State) (i : Fin 9) (v : W32), (swPort s 0).up = true → s.pcie.retry = false → i.val ≠ 0 →
    ∃ t, exec (.registerWrite (.port i .acsControl) v) s = .next t ∧ (swPort t i.val).acs.toNat = v.toNat % 128 ∧
      t = { s with pcie := t.pcie, pwr := t.pwr } ∧ ∀ j, j ≠ i.val → (swPort t j).acs = (swPort s j).acs) ∧
  (∀ (s : State) (o : BitVec 26) (v : W32) (g : PageId), pageAt o.toNat = some (g, 0x804) → pageAnswers s g.val = true →
    leaseDue s g.val = false → bitAt v.toNat 17 = true →
    exec (.registerWrite (.bar0 o) v) s = .next (setPage (awake s) g.val { getPage s g.val with overrun := false })) ∧
  (∀ (s : State) (o : BitVec 26) (v : W32), o.toNat < 0x1000 → exec (.registerWrite (.bar0 o) v) s = .next (awake s))

/-- R437 to R443: raises set the pending bit, merge while it is set, and are counted where the source has no target; a claim takes the
source of the highest priority, and among equals the lowest number, and pushes it; an end of service pops it, and any other value is a
priority-stack fault; a re-arming clears a stuck source; the device's own ALERT_N raises nothing. Where the rules leave it open, it states
the choices of log entry 40, which are the model's. -/
def Obligations.Interrupts : Prop :=
  (∀ (s : State) (v : W32), 4096 ≤ v.toNat ∨ srcReserved v.toNat = true → exec (.irqRaise v) s = .next s) ∧
  (∀ (s : State) (v : W32), v.toNat < 4096 → srcReserved v.toNat = false →
    let n := v.toNat
    let x := getSrc s n
    x.active = false →
    (x.target = 127 → exec (.irqRaise v) s = .next (count s kIrq 64 6 1)) ∧
    (x.target < 64 → s.pwr.module = 4 → exec (.irqRaise v) s = .next s) ∧
    (x.pending = false → x.target < 64 → s.pwr.module ≠ 4 →
      ∃ t, exec (.irqRaise v) s = .next t ∧
        getSrc t n = { x with pending := true, latched := x.latched || decide (2 ≤ unitLevel s ukHub (x.target / 16)) } ∧
        (∀ k, k ≠ n → getSrc t k = getSrc s k) ∧ t.irq.procs = s.irq.procs ∧ unitLevel t ukHub (x.target / 16) = 0) ∧
    (x.pending = false → 64 ≤ x.target → x.target ≠ 127 → exec (.irqRaise v) s = .next (setSrc s n { x with pending := true })) ∧
    (x.pending = true → 64 ≤ x.target → x.target ≠ 127 →
      exec (.irqRaise v) s = .next (setSrc (count s kIrq x.target 1 1) n { x with overrun := min 0xFFFF (x.overrun + 1) }))) ∧
  (∀ (s : State) (k : Fin 65) (n : Nat) (x : IrqSrc), look s.irq.srcs n = some x → rising s.irq.srcs = true → asks s k.val x = true →
    (∀ e ∈ s.irq.srcs, asks s k.val e.2 = true → e.2.priority < x.priority ∨ e.2.priority = x.priority ∧ n ≤ e.1) →
    ∃ t, exec (.irqClaim k) s = .next t ∧ t.sent = s.sent ++ [.hubRead (n + x.priority * 2 ^ 12 + 2 ^ 31)] ∧
      getSrc t n = { x with pending := false, active := true, latched := false, overrun := 0, by_ := k.val } ∧
      getProc t k.val = { getProc s k.val with stack := (x.priority, n) :: (getProc s k.val).stack } ∧
      (∀ j, j ≠ n → getSrc t j = getSrc s j) ∧ (∀ j, j ≠ k.val → getProc t j = getProc s j) ∧
      countVal t kIrq k.val 0 = (countVal s kIrq k.val 0 + 1) % 2 ^ 64 ∧ t.mem = s.mem) ∧
  (∀ (s : State) (k : Fin 65), (∀ e ∈ s.irq.srcs, asks s k.val e.2 = false) →
    exec (.irqClaim k) s = .next { s with sent := s.sent ++ [.hubRead 0] }) ∧
  (∀ (s : State) (k : Fin 65) (n : Fin 4096),
    (∀ q rest, (getProc s k.val).stack = (q, n.val) :: rest → (getSrc s n.val).active = true → (getSrc s n.val).by_ = k.val →
      ∃ t, exec (.irqEoi k n) s = .next t ∧ getSrc t n.val = { getSrc s n.val with active := false } ∧
        getProc t k.val = { getProc s k.val with stack := rest } ∧ (∀ j, j ≠ n.val → getSrc t j = getSrc s j) ∧
        (∀ j, j ≠ k.val → getProc t j = getProc s j)) ∧
    ((∀ q rest, (getProc s k.val).stack = (q, n.val) :: rest →
        (getSrc s n.val).active = false ∨ (getSrc s n.val).by_ ≠ k.val) →
      ∃ t, exec (.irqEoi k n) s = .next t ∧ (getProc t k.val).pfault.toNat = 1 + n.val * 2 ^ 16 ∧
        countVal t kIrq k.val 3 = (countVal s kIrq k.val 3 + 1) % 2 ^ 64 ∧ (k.val = 64 → (getProc t 64).stack = []))) ∧
  (∀ (s : State) (n : Fin 4096) (v : W32),
    exec (.irqSrcRearm n v) s = .next (setSrc s n.val { getSrc s n.val with
      priority := v.toNat % 16
      target := v.toNat / 64 % 128
      enable := true
      stuck := false
      raises := [] })) ∧
  (∀ (s : State) (n : Fin 4096) (last : W64), (getSrc s n.val).stuck = true → (getSrc s n.val).masks = [last] →
    last.toNat * 10 + 100000000 ≤ s.elapsed.toNat * 10 →
    exec (.irqStuckRearm n) s = .next (setSrc s n.val { getSrc s n.val with stuck := false, enable := true, raises := [] })) ∧
  (∀ (s : State), (s.ink.latched ≠ 0 → exec .alertNSense s = .next s) ∧
    (s.ink.latched = 0 → (getSrc s 0xB80).active = false → (getSrc s 0xB80).target = 64 → (getSrc s 0xB80).pending = false →
      exec .alertNSense s = .next (setSrc (awake s) 0xB80 { getSrc s 0xB80 with pending := true })))

/-- R158, R159, R268, R271, R274 to R276, R278, R280, R281: CREATE_PETAL makes an ACTIVE petal with its record, bindings and cores and an
empty memory and page; RESIZE_PETAL gives a QUIESCED one another record; RESET_PETAL clears its objects; DESTROY_PETAL takes it and all it
had away; QUERY_PETAL reports it; ACCEPT_BINDING accepts a staged binding under the tenant's key. Where the rules leave it open, it states
the choices of log entries 3 and 28, which are the model's. -/
def Obligations.PetalCommands : Prop :=
  (∀ (s : State) (m : Mbx) (l : List Nat), Served cmdCreatePetal m s →
    let b := begun cmdCreatePetal m s
    let p := mf m 0x10 0 9
    let r := recordIn m
    createCheck b m = none → filledFor b (recHbm r) (recLpddr r) = true → addedCores (fresh b) m (recCores r) = some l →
    ∃ t x, (exec (.createPetal m) s = .next (answered m (replyData (b.devArea.epoch + 1) 8) t) ∨
        exec (.createPetal m) s = .next (postPending cmdCreatePetal m .work (some (replyData (b.devArea.epoch + 1) 8)) t)) ∧
      getPetal t p = some x ∧ x.st = .active ∧ x.record = r ∧ x.control = (mf m 0x10 9 1 == 1) ∧
      x.bindings = (createBindings m).map (BitVec.ofNat 64) ∧ (∀ k, k ∈ x.cores ↔ k ∈ l) ∧ x.counters = [] ∧ x.tags = [] ∧
      x.queues = [] ∧ x.xts = none ∧ x.keySlots = [] ∧ getPage t p = MPage.new ∧ (∀ c ∈ t.mem, c.1 / 2 ^ 48 ≠ p) ∧
      (∀ k ∈ l, (getCore t k).petal = some p ∧ (getCore t k).launch = none ∧ (getCore t k).scratch = (getCore s k).scratch) ∧
      (∀ k, k ∉ l → getCore t k = getCore s k) ∧ t.devArea.epoch = b.devArea.epoch + 1) ∧
  (∀ (s : State) (m : Mbx) (x : Petal), Served cmdResizePetal m s →
    let b := begun cmdResizePetal m s
    let p := mf m 0x10 0 9
    let r := recordIn m
    getPetal b p = some x → resizeCheck b m x = none → filledFor b (recHbm r - recHbm x.record) (recLpddr r - recLpddr x.record) = true →
    ∃ t, (exec (.resizePetal m) s = .next (answered m (replyData (b.devArea.epoch + 1) 8) t) ∨
        exec (.resizePetal m) s = .next (postPending cmdResizePetal m .work (some (replyData (b.devArea.epoch + 1) 8)) t)) ∧
      (getPetal t p).map (fun z => (z.record, z.st, z.bindings, z.tags)) = some (r, .quiesced, x.bindings, x.tags) ∧
      (getPetal t p).map (·.counters) = some (x.counters.filter (fun e => decide (e.1 < recCounters r))) ∧
      t.devArea.epoch = b.devArea.epoch + 1) ∧
  (∀ (s : State) (m : Mbx) (x : Petal), Served cmdResetPetal m s →
    let b := begun cmdResetPetal m s
    let p := mPetal m
    getPetal b p = some x → x.st = .quiesced →
    ∃ t, Answers (.resetPetal m) m s t replyOk ∧ (∀ l ∈ t.launches, l.petal ≠ p) ∧
      (getPetal t p).map (fun z => (z.counters, z.tags, z.watches, z.images, z.queues)) = some ([], [], [], [], []) ∧
      (getPetal t p).map (fun z => (z.record, z.bindings, z.st)) = some (x.record, x.bindings, .quiesced)) ∧
  (∀ (s : State) (m : Mbx) (x : Petal), Served cmdDestroyPetal m s →
    let b := begun cmdDestroyPetal m s
    let p := mf m 0x10 0 9
    getPetal b p = some x → x.st = .quiesced → rising b.petals = true → rising b.pages = true →
    ∃ t, Answers (.destroyPetal m) m s t replyOk ∧ getPetal t p = none ∧ getPage t p = MPage.new ∧ (∀ l ∈ t.launches, l.petal ≠ p) ∧
      (∀ e ∈ t.windows, e.2.owner ≠ p) ∧ (∀ e ∈ t.msixOwner, e.2 ≠ p) ∧ (∀ c ∈ t.mem, c.1 / 2 ^ 48 ≠ p) ∧
      (∀ k ∈ x.cores, (getCore t k).petal = none ∧ (getCore t k).scratch = (getCore s k).scratch) ∧
      t.devArea.epoch = b.devArea.epoch + 1) ∧
  (∀ (s : State) (m : Mbx) (x : Petal), Served cmdQueryPetal m s →
    let b := begun cmdQueryPetal m s
    getPetal b (mPetal m) = some x →
    Answers (.queryPetal m) m s b (replyData (x.st.code + causeCode x * 2 ^ 4 + x.area.epoch % 2 ^ 64 * 2 ^ 64 +
      ofElems 64 (x.bindings.map (·.toNat)) * 2 ^ 128 + x.record.toNat * 2 ^ 384) 0xB0)) ∧
  (∀ (s : State) (m : Mbx) (x : Petal) (k : KeySlot), Served cmdAcceptBinding m s →
    let b := begun cmdAcceptBinding m s
    let p := m.page.val
    let idx := mf m 0x10 16 2
    let w := mf m 0x18 0 64
    getPetal b p = some x → slotKey x (mf m 0x14 0 16) 3 = some k → b.devArea.stage.any (isBinding p idx w) = true →
    cmac (keyBytes k 32) (leBytes 4 p ++ leBytes 4 idx ++ leBytes 8 w) = leBytes 16 (mf m 0x20 0 128) →
    ∃ t, Answers (.acceptBinding m) m s t replyOk ∧ t = { b with devArea := t.devArea } ∧
      t.devArea = { b.devArea with
        stage := b.devArea.stage.map (fun i => if isBinding p idx w i then { i with accepted := true } else i) })

/-- R276, R277, R302, R304: the states of a petal. QUIESCE_PETAL adds its cause and starts the drain; the petal is QUIESCED once no work of
it runs; an expired drain stops its work; ENABLE_PETAL makes a QUIESCED petal ACTIVE, but not while its lease is out. Where the rules leave
it open, it states the choices of log entry 28, which are the model's. -/
def Obligations.PetalStates : Prop :=
  (∀ (s : State) (m : Mbx) (x : Petal), Served cmdQuiescePetal m s →
    let b := begun cmdQuiescePetal m s
    let p := mPetal m
    let ms := mf m 0x14 0 32
    let due := b.elapsed.toNat + ms * 100000
    getPetal b p = some x → ms ≤ 600000 →
    (x.st = .quiesced → ∃ t, Answers (.quiescePetal m) m s t replyOk ∧ getPetal t p = some { x with causeCmd := true }) ∧
    (x.st = .active → ∃ t, exec (.quiescePetal m) s = .next (postPending cmdQuiescePetal m (.quiesce p) none t) ∧
      getPetal t p = some { x with
        causeCmd := true
        st := .quiescing
        drainForced := false
        drainAt := if ms = 0 then x.drainAt
          else some (BitVec.ofNat 64 (match x.drainAt with | some t => min t.toNat due | none => due)) })) ∧
  (∀ (s : State) (p : PetalId) (x : Petal), getPetal s p.val = some x → x.st = .quiescing → petalRunning s p.val = false → s.sec.d2 = none →
    (∀ e ∈ s.pages, ∀ q ∈ e.2.pends, q.why ≠ .enable p.val) →
    ∃ t, exec (.petalQuiesced p) s = .next t ∧
      getPetal t p.val = some { x with st := .quiesced, drainAt := none, drainForced := false } ∧
      t = { s with petals := t.petals, pages := t.pages } ∧ (∀ q, q ≠ p.val → getPetal t q = getPetal s q) ∧
      ∀ g, (getPage t g).pends = (getPage s g).pends.map (fun q => if q.why = .quiesce p.val ∧ q.outcome = none then
        { q with outcome := some ⟨stOk, if x.drainForced then 0x8A else 0, 0, 0⟩ } else q)) ∧
  (∀ (s : State) (p : PetalId) (x : Petal) (due : W64), getPetal s p.val = some x → x.st = .quiescing → x.drainAt = some due →
    due.toNat ≤ s.elapsed.toNat →
    ∃ t, exec (.quiesceDrainExpiry p) s = .next t ∧ (getPetal t p.val).map (fun z => (z.st, z.drainAt, z.drainForced)) =
        some (.quiescing, none, true) ∧
      ∀ l ∈ t.launches, l.petal = p.val → l.started.isSome = true → l.stop.isSome = true ∨ l.fault.isSome = true) ∧
  (∀ (s : State) (m : Mbx) (x : Petal), Served cmdEnablePetal m s →
    let b := begun cmdEnablePetal m s
    let p := mPetal m
    getPetal b p = some x →
    (x.st = .active → Answers (.enablePetal m) m s b replyOk) ∧
    (x.st = .quiesced → x.causeDebug = false → (x.causeLease = false ∧ x.causeFlr = false) ∨ (getPage b p).session = 1 →
      ∃ t, Answers (.enablePetal m) m s t replyOk ∧ getPetal t p = some { x with
        causeCmd := false
        causeLease := false
        causeFlr := false
        st := .active
        upstreamHeld := false }) ∧
    (x.st = .quiesced → x.causeLease = true ∨ x.causeFlr = true → (getPage b p).session ≠ 1 →
      Answers (.enablePetal m) m s b (replyErr stLeaseExpired 0)) ∧
    (x.st = .quiescing → exec (.enablePetal m) s = .next (postPending cmdEnablePetal m (.enable p) none b)))

/-- R144 to R146: MEM_PIN pins the pages of its range in a tier, at once where they lie in it and otherwise with a late answer once they
have moved; MEM_UNPIN takes the tier pins away; MEM_POLICY_GET gives the policy record. Where the rules leave it open, it states the choices
of log entries 3 and 25, which are the model's. -/
def Obligations.PinCommands : Prop :=
  (∀ (s : State) (m : Mbx) (x : Petal), Served cmdMemPin m s →
    let b := begun cmdMemPin m s
    let base := mf m 0x18 0 48
    let n := mf m 0x20 0 48
    let kind := mf m 0x28 0 2
    let pages := rangePages base n
    getPetal b m.page.val = some x → b.moves = [] → base % 2 ^ 21 = 0 → n % 2 ^ 21 = 0 → 0 < n → base + n ≤ slotsOf x * 2 ^ 30 →
    kind = 1 ∨ kind = 2 → pageHeld x pages kind = false → pinsAfter x pages kind true ≤ 512 * recHbm x.record →
    pinsAfter x pages kind false ≤ 512 * recLpddr x.record →
    ((∀ g ∈ pages, pageHbm x g = (kind == 1)) →
      ∃ t z, Answers (.memPin m) m s t replyOk ∧ getPetal t m.page.val = some z ∧ z = { x with pins := z.pins } ∧
        (∀ g ∈ pages, pinOf z g = { pinOf x g with tier := kind }) ∧ (∀ g, g ∉ pages → pinOf z g = pinOf x g) ∧ t.mem = s.mem) ∧
    ((∃ g ∈ pages, pageHbm x g ≠ (kind == 1)) →
      ∃ t z, exec (.memPin m) s = .next (postPending cmdMemPin m .work (some replyOk) t) ∧ getPetal t m.page.val = some z ∧
        (∀ g ∈ pages, (pinOf z g).tier = kind) ∧ t.mem = s.mem)) ∧
  (∀ (s : State) (m : Mbx) (x : Petal), Served cmdMemPin (unpinOf m) s →
    let b := begun cmdMemPin (unpinOf m) s
    let base := mf (unpinOf m) 0x18 0 48
    let n := mf (unpinOf m) 0x20 0 48
    let pages := rangePages base n
    getPetal b m.page.val = some x → b.moves = [] → base % 2 ^ 21 = 0 → n % 2 ^ 21 = 0 → 0 < n → base + n ≤ slotsOf x * 2 ^ 30 →
    rising x.pins = true →
    ∃ t z, Answers (.memUnpin m) m s t replyOk ∧ getPetal t m.page.val = some z ∧ z = { x with pins := z.pins } ∧
      (∀ g ∈ pages, pinOf z g = { pinOf x g with tier := 0 }) ∧ (∀ g, g ∉ pages → pinOf z g = pinOf x g) ∧ t.mem = s.mem) ∧
  (∀ (s : State) (m : Mbx) (x : Petal), Served cmdMemPolicyGet m s → getPetal (begun cmdMemPolicyGet m s) (mPetal m) = some x →
    Answers (.memPolicyGet m) m s (begun cmdMemPolicyGet m s) (replyData x.policy.toNat 16))

/-- R138, R139, R141, R143, R144, R154 to R156, R42: the memory in its course. A heat interval halves a page's heat with its accesses and
plans at most its budget of moves; a move starts when its units are idle, changes the page map in one step, and releases its source; the
Blotter walks on, notes an uncorrectable line, and corrects the single errors of a scratch line; a start-up fill ends. Where the rules leave
it open, it states the choices of log entries 2 and 25, which are the model's. -/
def Obligations.MemoryCourse : Prop :=
  (∀ (s : State) (p : PetalId) (x : Petal), getPetal s p.val = some x →
    x.heatAt.toNat * 10 + polInterval x.policy * 1000000 ≤ s.elapsed.toNat * 10 →
    ∃ t z l, exec (.heatInterval p) s = .next t ∧ getPetal t p.val = some z ∧
      (∀ g, heatOf z g = (heatOf x g + lookD x.heatCount g 0) / 2) ∧ z = { x with heat := z.heat, heatCount := [], heatAt := s.elapsed } ∧
      t.moves = s.moves ++ l ∧ l.length ≤ polBudget x.policy ∧ (∀ v ∈ l, v.petal = p.val ∧ v.phase = .queued) ∧
      t = { s with petals := t.petals, moves := t.moves } ∧ ∀ q, q ≠ p.val → getPetal t q = getPetal s q) ∧
  (∀ (s : State) (p : PetalId) (page : BitVec 27) (v : Move), findMove s p.val page.toNat .queued = some v →
    (moveAllowed s v = true → unitsIdle s v = true →
      exec (.pageMoveStart p page) s = .next { s with moves := s.moves.map (fun o => if o = v then { o with phase := .copying } else o) }) ∧
    (moveAllowed s v = true → unitsIdle s v = false → exec (.pageMoveStart p page) s = .next s) ∧
    (moveAllowed s v = false → exec (.pageMoveStart p page) s = .next { s with moves := s.moves.filter (· != v) })) ∧
  (∀ (s : State) (p : PetalId) (page : BitVec 27) (v : Move) (x : Petal), findMove s p.val page.toNat .copying = some v →
    getPetal s p.val = some x → rising x.loc = true →
    (v.spare = none → ∃ t z, exec (.pageMoveSwitch p page) s = .next t ∧ getPetal t p.val = some z ∧
      (v.partner = none → frameAt z page.toNat = v.dest ∧ ∀ g, g ≠ page.toNat → frameAt z g = frameAt x g) ∧
      (∀ q, v.partner = some q → q.1 ≠ page.toNat → frameAt z page.toNat = v.dest ∧ frameAt z q.1 = q.2.2 ∧
        ∀ g, g ≠ page.toNat → g ≠ q.1 → frameAt z g = frameAt x g) ∧
      t.moves = s.moves.map (fun o => if o = v then { o with phase := .switched } else o) ∧ t.mem = s.mem) ∧
    (∀ k, v.spare = some k → exec (.pageMoveSwitch p page) s = .next { s with
      moves := s.moves.map (fun o => if o = v then { o with phase := .switched } else o)
      retired := put s.retired v.source (k + 1) })) ∧
  (∀ (s : State) (p : PetalId) (page : BitVec 27) (v : Move), findMove s p.val page.toNat .switched = some v →
    exec (.pageMoveRelease p page) s = .next { s with moves := s.moves.filter (· != v) }) ∧
  (∀ (s : State) (w : Fin 352) (decoded : Bool),
    let k := lookD s.walks w.val ⟨0, 0⟩
    let next : Walk := if k.line + 1 = walkLines w.val then ⟨0, k.passes + 1⟩ else ⟨k.line + 1, k.passes⟩
    exec (.blotterScrubLine w .clean decoded) s = .next { s with walks := put s.walks w.val next } ∧
    (∀ found, ∃ t, exec (.blotterScrubLine w found decoded) s = .next t ∧ t.walks = put s.walks w.val next ∧ t.mem = s.mem) ∧
    (∀ p a, walkOwner s (walkPlace w.val k.line) = some (p, a) → look s.poison (memKey p a / 64) ≠ some true → decoded = false →
      ∃ t, exec (.blotterScrubLine w .uncorrectable decoded) s = .next t ∧ look t.poison (memKey p a / 64) = some true ∧
        t.walks = put s.walks w.val next ∧ (∀ l, l ≠ memKey p a / 64 → look t.poison l = look s.poison l) ∧ t.mem = s.mem)) ∧
  (∀ (s : State) (k : CoreId) (bank : Fin 16),
    let i := lookD s.scratchWalks (k.val * 16 + bank.val) 0
    let single (e : Nat × WordErr) : Bool := e.1 / 8 == i * 16 + bank.val && e.2 == .single
    ∃ t, exec (.scratchScrub k bank) s = .next t ∧
      getCore t k.val = { getCore s k.val with
        errs := (getCore s k.val).errs.filter (fun e => !single e)
        corrections := (getCore s k.val).corrections + ((getCore s k.val).errs.filter single).length } ∧
      (∀ j, j ≠ k.val → getCore t j = getCore s j) ∧ t.scratchWalks = put s.scratchWalks (k.val * 16 + bank.val) ((i + 1) % 1024) ∧
      t.nibs = s.nibs ∧ t.mem = s.mem) ∧
  (∀ (s : State), exec (.startUpFillComplete false) s = .next { s with hbmFilled := true } ∧
    exec (.startUpFillComplete true) s = .next { s with lpddrFilled := true })

/-- R421 to R425, R423: the fabric applies the oldest update of a core's sync port: the counter takes its value, unless it would leave its
range; a Nib that waits for the counter goes on when its condition holds, and a consuming one subtracts its target. Where the rules leave it
open, it states the choices of log entry 17, which are the model's. -/
def Obligations.CounterUpdates : Prop :=
  ∀ (s : State) (k : CoreId) (u : CtrUpd) (us : List CtrUpd) (x : Petal), (getCore s k.val).port = u :: us → getPetal s u.petal = some x → u.petal < 512 →
    let v := (counterVal x u.index).toInt + u.delta
    (counterFits v = true → (∀ q ∈ s.waiters, ¬(q.petal = u.petal ∧ q.index = u.index ∧ q.target.toInt ≤ v)) →
      ∃ t z, exec (.counterUpdateApply k) s = .next t ∧ getCore t k.val = { getCore s k.val with port := us } ∧
        getPetal t u.petal = some z ∧ z = { x with counters := z.counters } ∧ (counterVal z u.index).toInt = v ∧
        (∀ i, i ≠ u.index → counterVal z i = counterVal x i) ∧ t.waiters = s.waiters ∧ t.nibs = s.nibs ∧ t.mem = s.mem ∧
        countVal t kSyn u.petal 0 = (countVal s kSyn u.petal 0 + 1) % 2 ^ 64) ∧
    (counterFits v = false →
      ∃ t z, exec (.counterUpdateApply k) s = .next t ∧ getCore t k.val = { getCore s k.val with port := us } ∧
        getPetal t u.petal = some z ∧ z = { x with lastBlocked := BitVec.ofNat 64 (u.index % 2 ^ 32 + 2 ^ 32) } ∧
        t.waiters = s.waiters ∧ t.nibs = s.nibs ∧ countVal t kSyn u.petal 6 = (countVal s kSyn u.petal 6 + 1) % 2 ^ 64) ∧
    (∀ q n w, counterFits v = true → s.waiters = [q] → q.who = .nib n → q.petal = u.petal → q.index = u.index → q.target.toInt ≤ v →
      (getNib s n).st = .waiting w false → (q.consume = true → counterFits (v - q.target.toInt) = true) →
      ∃ t z, exec (.counterUpdateApply k) s = .next t ∧ t.waiters = [] ∧ getNib t n = { getNib s n with st := .running } ∧
        (∀ m, m ≠ n → getNib t m = getNib s m) ∧ getPetal t u.petal = some z ∧
        (counterVal z u.index).toInt = if q.consume then v - q.target.toInt else v)

/-- R427 to R430, R433: SYN_READ reads counters; SYN_ADD adds to one or reports the overflow; SYN_WATCH_SET registers a watch, which waits
in registration order or fires at once; a watch ends by its timeout or its cancellation; SYN_DEBUG_SET stores a value. Where the rules leave
it open, it states the choices of log entry 65, which are the model's. -/
def Obligations.CounterCommands : Prop :=
  (∀ (s : State) (m : Mbx), Served cmdSynRead m s →
    let b := begun cmdSynRead m s
    let p := m.page.val
    let a := mf m 0x10 0 32
    let n := mf m 0x14 0 5
    1 ≤ n → n ≤ 16 → a + n ≤ counterCount b p →
    Answers (.synRead m) m s b (replyData (ofElems 64 ((List.range n).map (fun i => (counterNow b p (a + i)).toNat))) (8 * n))) ∧
  (∀ (s : State) (m : Mbx), Served cmdSynAdd m s →
    let b := begun cmdSynAdd m s
    let p := m.page.val
    let i := mf m 0x10 0 32
    let v := (counterNow b p i).toInt + sInt 64 (mf m 0x18 0 64)
    i < counterCount b p →
    (counterFits v = true → (∀ q ∈ b.waiters, ¬(q.petal = p ∧ q.index = i ∧ q.target.toInt ≤ v)) →
      ∃ t, Answers (.synAdd m) m s t (replyData (wrapN 64 v) 8) ∧ (counterNow t p i).toInt = v ∧
        (∀ j, j ≠ i → counterNow t p j = counterNow b p j) ∧ t.waiters = s.waiters ∧ t.mem = s.mem) ∧
    (counterFits v = false → ∃ t, Answers (.synAdd m) m s t (replyErr stInvalidArgument 0x81) ∧ ∀ j, counterNow t p j = counterNow b p j)) ∧
  (∀ (s : State) (m : Mbx) (x : Petal), Served cmdSynWatchSet m s →
    let b := begun cmdSynWatchSet m s
    let p := m.page.val
    let w := watchIn m b
    getPetal b p = some x → watchCheck b x w = none →
    (∀ q ∈ b.waiters, ¬(q.petal = p ∧ q.index = w.counter ∧ q.target.toInt ≤ (counterVal x w.counter).toInt)) →
    ((counterVal x w.counter).toInt < w.threshold.toInt →
      ∃ t z, Answers (.synWatchSet m) m s t replyOk ∧ getPetal t p = some z ∧ look z.watches w.num = some w ∧ z.counters = x.counters ∧
        t.waiters = insertWaiter b.waiters ⟨.watch p w.num, p, w.counter, w.threshold, w.consume, s.elapsed⟩ ∧ t.mem = s.mem) ∧
    (∀ a, w.threshold.toInt ≤ (counterVal x w.counter).toInt → w.consume = false → b.waiters = [] → rising x.watches = true →
      bufAddr w.notifyAddr.toNat = .pda a →
      ∃ t z, Answers (.synWatchSet m) m s t replyOk ∧ getPetal t p = some z ∧ look z.watches w.num = none ∧
        look z.watchEnds w.num = some true ∧ t.waiters = [] ∧ t.mem = (memPut b p a (leBytes 8 w.notifyValue.toNat)).mem)) ∧
  (∀ (s : State) (p : PetalId) (n : Fin 1024) (x : Petal) (w : Watch), getPetal s p.val = some x → look x.watches n.val = some w →
    w.petal = p.val → w.timeoutMs ≠ 0 → w.since.toNat * 10 + w.timeoutMs * 1000000 ≤ s.elapsed.toNat * 10 → rising x.watches = true →
    ∃ t z, exec (.watchTimeout p n) s = .next t ∧ getPetal t p.val = some z ∧ look z.watches n.val = none ∧
      look z.watchEnds n.val = some true ∧ z.counters = x.counters ∧ (∀ q ∈ t.waiters, q.who ≠ .watch p.val n.val) ∧
      (∀ a, bufAddr w.notifyAddr.toNat = .pda a → t.mem = (memPut s p.val a (leBytes 8 w.timeoutValue.toNat)).mem) ∧
      (bufAddr w.notifyAddr.toNat = .absent → t.mem = s.mem ∧ t.bus = s.bus)) ∧
  (∀ (s : State) (m : Mbx) (x : Petal), Served cmdSynWatchCancel m s →
    let b := begun cmdSynWatchCancel m s
    let p := m.page.val
    let n := mf m 0x10 0 10
    getPetal b p = some x → rising x.watches = true →
    ((look x.watches n).isSome = true →
      ∃ t z, Answers (.synWatchCancel m) m s t replyOk ∧ getPetal t p = some z ∧ look z.watches n = none ∧
        look z.watchEnds n = some false ∧ (∀ q ∈ t.waiters, q.who ≠ .watch p n) ∧ t.mem = s.mem) ∧
    (look x.watches n = none → look x.watchEnds n = some true →
      Answers (.synWatchCancel m) m s b (replyErr stAlreadyComplete 0)) ∧
    (look x.watches n = none → look x.watchEnds n ≠ some true → Answers (.synWatchCancel m) m s b (replyErr stNotFound 0x83))) ∧
  (∀ (s : State) (m : Mbx) (x : Petal), Served cmdSynDebugSet m s →
    let b := begun cmdSynDebugSet m s
    let p := m.page.val
    let i := mf m 0x10 0 32
    let v := BitVec.ofNat 64 (mf m 0x18 0 64)
    petalDebug b p = true → getPetal b p = some x → i < recCounters x.record →
    (∀ q ∈ b.waiters, ¬(q.petal = p ∧ q.index = i ∧ q.target.toInt ≤ v.toInt)) →
    ∃ t, Answers (.synDebugSet m) m s t (replyData (counterVal x i).toNat 8) ∧ counterNow t p i = v ∧
      (∀ j, j ≠ i → counterNow t p j = counterNow b p j) ∧ t.waiters = s.waiters ∧ t.mem = s.mem)

/-- R449 to R455: KEY_ATTEST writes the report and, where it carries an encapsulation key, opens a key session on its digest; KEY_CERT
writes the chain; KEY_INJECT installs the key of a blob that is in form, new and authentic; a session closes by its command or after 10
minutes; KEY_DESTROY empties a slot once no started request uses it. Where the rules leave it open, it states the choices of log entries 18,
19 and 64, which are the model's. -/
def Obligations.KeyCommands : Prop :=
  (∀ (s : State) (m : Mbx) (x : Petal) (a : Nat), Served cmdKeyAttest m s →
    let b := begun cmdKeyAttest m s
    let p := m.page.val
    let ek := if mf m 0x10 9 1 = 1 then Config.kemPublic (b.freeCtr + 1) else []
    let body := reportBody (fresh b) p (leBytes 32 (mf m 0x20 0 256)) ek
    p < 512 → getPetal b p = some x → attestCheck b m = none → bufAddr (mf m 0x18 0 64) = .pda a →
    ∃ t, exec (.keyAttest m) s = .next (postPending cmdKeyAttest m .work (some replyOk) t) ∧
      t.mem = (memPut b p a (body ++ fitTo 2420 (Config.dsaSign 0 (sha3 body)))).mem ∧
      (mf m 0x10 9 1 = 1 → look t.keySess p = some ⟨sha3 body, some (b.freeCtr + 1), [], x.bindings, 0, b.elapsed⟩) ∧
      (mf m 0x10 9 1 = 0 → t.keySess = s.keySess) ∧ countVal t kCph p 4 = (countVal s kCph p 4 + 1) % 2 ^ 64) ∧
  (∀ (s : State) (m : Mbx) (a : Nat), Served cmdKeyCert m s →
    let b := begun cmdKeyCert m s
    let p := m.page.val
    p < 512 → b.sec.identityOff = false → bindField (mf m 0x10 12 4) = true → mf m 0x18 0 64 % 64 = 0 →
    bufOk b p (mf m 0x10 12 4) (mf m 0x18 0 64) 16384 = true → bufAddr (mf m 0x18 0 64) = .pda a →
    ∃ t, Answers (.keyCert m) m s t (replyData (Config.certChain.take 16384).length 4) ∧
      t.mem = (memPut b p a (Config.certChain.take 16384)).mem ∧ t.keySess = s.keySess) ∧
  (∀ (s : State) (m : Mbx) (x : Petal) (k : KeySess) (pt : List Byte), Served cmdKeyInject m s →
    let b := fresh (begun cmdKeyInject m s)
    let p := m.page.val
    let bind := mf m 0x10 12 4
    let ct := mf m 0x18 0 64
    let blob := bufRead b p bind (mf m 0x20 0 64) 128
    let w := wrapKey k (if isNone64 ct then [] else bufRead b p bind ct 1088)
    getPetal b p = some x → liveKeySession b p = some k → k.dk.isSome = !isNone64 ct → x.bindings = k.bindings →
    bindField bind = true → mf m 0x20 0 64 % 64 = 0 → bufOk b p bind (mf m 0x20 0 64) 128 = true →
    bufPoison b p (mf m 0x20 0 64) 128 = false → bufWhy b p bind (mf m 0x20 0 64) false = none →
    (isNone64 ct = false → bufOk b p bind ct 1088 = true ∧ bufPoison b p ct 1088 = false ∧ bufWhy b p bind ct false = none) →
    blobFormed p x blob = true → targetEmpty x blob = true → k.lastSeq < bSeq blob →
    gcmDecrypt w (leBytes 8 (bSeq blob) ++ zeros 4) (bytesAt blob 0 16) (bytesAt blob 0x10 64) (bytesAt blob 0x50 16) = some pt →
    materialOk (bKind blob) pt = true →
    ∃ t z, Answers (.keyInject m) m s t replyOk ∧ getPetal t p = some z ∧
      (bTarget blob = 0xFFFF → z.xts = some (BitVec.ofNat 512 (leNat pt)) ∧ z.keySlots = x.keySlots) ∧
      (bTarget blob ≠ 0xFFFF → z.xts = x.xts ∧ z.keySlots = put x.keySlots (bTarget blob)
        ⟨bKind blob, BitVec.ofNat 512 (leNat pt), BitVec.ofNat 128 (Config.free b.freeCtr 1), 0, false⟩) ∧
      look t.keySess p = some { k with dk := none, wrap := w, lastSeq := bSeq blob } ∧
      countVal t kCph p 5 = (countVal b kCph p 5 + 1) % 2 ^ 64 ∧ t.mem = s.mem) ∧
  (∀ (s : State) (m : Mbx), Served cmdKeySessionClose m s →
    let b := begun cmdKeySessionClose m s
    ((liveKeySession b m.page.val).isSome = true →
      Answers (.keySessionClose m) m s { b with keySess := del b.keySess m.page.val } replyOk) ∧
    (liveKeySession b m.page.val = none → Answers (.keySessionClose m) m s b (replyErr stNotFound 0x95))) ∧
  (∀ (s : State) (p : PetalId) (k : KeySess), look s.keySess p.val = some k → rising s.keySess = true →
    (k.since.toNat * 10 + 600000000000 ≤ s.elapsed.toNat * 10 →
      ∃ t, exec (.keySessionTimeout p) s = .next t ∧ t = { s with keySess := t.keySess } ∧ look t.keySess p.val = none ∧
        ∀ q, q ≠ p.val → look t.keySess q = look s.keySess q) ∧
    (s.elapsed.toNat * 10 < k.since.toNat * 10 + 600000000000 → exec (.keySessionTimeout p) s = .next s)) ∧
  (∀ (s : State) (m : Mbx) (x : Petal) (q : KeySlot), Served cmdKeyDestroy m s →
    let b := begun cmdKeyDestroy m s
    let p := m.page.val
    let k := mf m 0x10 0 16
    getPetal b p = some x → k < recKeySlots x.record → look x.keySlots k = some q → rising x.keySlots = true → keyNamed b p k = false →
    ((∀ r ∈ b.cphReqs, r.petal = p → r.started = true → ceSlot r.raw.toNat = k → ceAlg r.raw.toNat = 7) →
      ∃ t z, Answers (.keyDestroy m) m s t replyOk ∧ getPetal t p = some z ∧ look z.keySlots k = none ∧ t.mem = s.mem) ∧
    (∀ r ∈ b.cphReqs, r.petal = p → r.started = true → ceSlot r.raw.toNat = k → ceAlg r.raw.toNat ≠ 7 →
      ∃ t z, exec (.keyDestroy m) s = .next (postPending cmdKeyDestroy m (.objEnd p 6 k) none t) ∧ getPetal t p = some z ∧
        look z.keySlots k = some { q with destroying := true } ∧ t.mem = s.mem))

/-- R456: KEY_QUERY tells in one bit whether the petal key is there, and in one byte for each of its 1 to 64 slots the slot's kind, or 0xFF
for a number at or above key_slots; the response length is 0x18 + count, rounded up to a multiple of 4. -/
def Obligations.KeyQuery : Prop :=
  ∀ (s : State) (m : Mbx) (x : Petal), Served cmdKeyQuery m s →
    let b := begun cmdKeyQuery m s
    let n := mf m 0x14 0 7
    getPetal b m.page.val = some x → 1 ≤ n → n ≤ 64 →
    Answers (.keyQuery m) m s b (replyData
      ((if x.xts.isSome then 1 else 0) + ofElems 8 ((List.range n).map (fun i =>
        if mf m 0x10 0 16 + i < recKeySlots x.record then ((look x.keySlots (mf m 0x10 0 16 + i)).map (·.kind)).getD 0 else 0xFF)) * 2 ^ 64)
      ((8 + n + 3) / 4 * 4))

/-- R457, R458, R465: the commands of cipher queues create and remove a queue and abort a request; the doorbells take legal values. Where
the rules leave it open, it states the choices of log entries 64 and 70, which are the model's. -/
def Obligations.CipherCommands : Prop :=
  (∀ (s : State) (m : Mbx), Served cmdCphQueueCreate m s →
    let b := begun cmdCphQueueCreate m s
    let p := m.page.val
    let q := mf m 0x10 0 6
    let sq := mf m 0x10 8 8
    let cq := mf m 0x10 16 8
    let bind := mf m 0x10 24 4
    let v := mf m 0x14 0 16
    let sqa := mf m 0x18 0 64
    let cqa := mf m 0x20 0 64
    getCph b p q = none → bind < 4 ∨ bind = 0xF → 4 ≤ sq → sq ≤ 12 → sq ≤ cq → cq ≤ 16 → sqa % 64 = 0 → cqa % 64 = 0 →
    overlaps sqa (128 * 2 ^ sq) cqa (32 * 2 ^ cq) = false → bufOk b p bind sqa (128 * 2 ^ sq) = true →
    bufOk b p bind cqa (32 * 2 ^ cq) = true → v = 0xFFFF ∨ look b.msixOwner v = some p →
    Answers (.cphQueueCreate m) m s (setCph b p q ⟨Ring.new sq cq sqa cqa v, bind⟩) replyOk) ∧
  (∀ (s : State) (p : PetalId) (q : Fin 64) (v : W32) (c : CphQueue), getCph (awake s) p.val q.val = some c →
    let set (r : Ring) : State := setCph (awake s) p.val q.val { c with ring := r }
    TailWrite c.ring v.toNat set (count (awake s) kLch p.val 7 1) (exec (.cphSqTail p q v) s) ∧
    HeadWrite c.ring v.toNat set (count (awake s) kLch p.val 7 1) (exec (.cphCqHead p q v) s)) ∧
  (∀ (s : State) (m : Mbx) (c : CphQueue), Served cmdCphQueueDestroy m s →
    let b := begun cmdCphQueueDestroy m s
    let p := m.page.val
    let q := mf m 0x10 0 6
    getCph b p q = some c → rising b.cphQs = true →
    ((∀ r ∈ b.cphReqs, ¬(r.petal = p ∧ r.queue = q)) →
      ∃ t, Answers (.cphQueueDestroy m) m s t replyOk ∧ getCph t p q = none ∧
        (∀ k, k ≠ cphKey p q → look t.cphQs k = look s.cphQs k) ∧ t.cphReqs = s.cphReqs ∧ t.mem = s.mem) ∧
    ((∃ r ∈ b.cphReqs, r.petal = p ∧ r.queue = q) → (∀ r ∈ b.cphReqs, r.petal = p → r.queue = q → r.started = true) →
      ∃ t, exec (.cphQueueDestroy m) s = .next (postPending cmdCphQueueDestroy m (.objEnd p 5 q) none t) ∧
        getCph t p q = some { c with ring := { c.ring with closing := true } } ∧ t.cphReqs = s.cphReqs ∧ t.mem = s.mem)) ∧
  (∀ (s : State) (m : Mbx) (r : CphReq) (c : CphQueue), Served cmdCphAbort m s →
    let b := begun cmdCphAbort m s
    let p := m.page.val
    findCph b p (mf m 0x12 0 13) = some r → r.queue = mf m 0x10 0 6 → getCph b p r.queue = some c → c.ring.closing = false →
    (r.started = true → exec (.cphAbort m) s = .next (postPending cmdCphAbort m (.taskEnd p r.tag false) none b)) ∧
    (r.started = false → inPda (c.ring.cqPda + 32 * c.ring.cqTail) →
      ∃ t, Answers (.cphAbort m) m s t replyOk ∧ findCph t p r.tag = none ∧ getCph t p r.queue = some { c with ring := recordedRing c.ring } ∧
        t.mem = (recorded b p c.ring r.queue r.tag stAborted 0 0x8F).mem))

/-- R455, R458, R460 to R464: a cipher request in its course: the engine takes a valid request and refuses another with a record, starts it
in order under its key, and completes it: it writes what its algorithm delivers, then its record. Where the rules leave it open, it states
the choices of log entries 18 and 64, which are the model's. -/
def Obligations.CipherCourse : Prop :=
  (∀ (s : State) (p : PetalId) (q : Fin 64) (x : Petal) (c : CphQueue), getPetal s p.val = some x → getCph s p.val q.val = some c →
    x.st = .active → c.ring.closing = false → 0 < ringOffered c.ring → ringFree c.ring = true →
    let a := c.ring.sqPda + 128 * c.ring.sqHead
    let e := memNat (fresh s) p.val a 128
    inPda a → poisonIn s p.val a 128 = none →
    (ceCheck s c p.val x e = none →
      ∃ t, exec (.cphRequestAccept p q) s = .next t ∧
        t.cphReqs = s.cphReqs ++ [⟨p.val, q.val, ceTag e, BitVec.ofNat 1024 e, false, []⟩] ∧
        getCph t p.val q.val = some { c with ring := ringTake c.ring } ∧
        (getPetal t p.val).map (fun z => look z.tags (ceTag e)) = some (some .cipher) ∧ t.mem = s.mem) ∧
    (∀ f, ceCheck s c p.val x e = some f → inPda (c.ring.cqPda + 32 * c.ring.cqTail) →
      ∃ t, exec (.cphRequestAccept p q) s = .next t ∧ t.cphReqs = s.cphReqs ∧
        getCph t p.val q.val = some { c with ring := { ringAdvance (ringTake c.ring) with reserved := c.ring.reserved } } ∧
        t.mem = (recorded s p.val c.ring q.val (ceTag e) f.1 0 f.2).mem)) ∧
  (∀ (s : State) (p : PetalId) (tag : BitVec 13) (x : Petal) (r : CphReq) (c : CphQueue), findCph s p.val tag.toNat = some r →
    getPetal s p.val = some x → getCph s p.val r.queue = some c → x.st = .active → r.started = false → cphStartable s r = true →
    let e := r.raw.toNat
    (∀ d ∈ heldBufs (ceReads e), inPda d.1) →
    (∀ k, ceAlg e ≠ 7 → slotKey x (ceSlot e) (ceKind (ceAlg e)) = some k → k.destroying = false →
      exec (.cphRequestStart p tag) s = .next { s with
        cphReqs := s.cphReqs.map (fun z => if z.petal = p.val ∧ z.tag = tag.toNat then
          { z with started := true, key := keyBytes k (if ceAlg e = 3 ∨ ceAlg e = 4 then 64 else 32) } else z) }) ∧
    (ceAlg e = 7 →
      exec (.cphRequestStart p tag) s = .next { s with
        cphReqs := s.cphReqs.map (fun z => if z.petal = p.val ∧ z.tag = tag.toNat then { z with started := true, key := [] } else z) }) ∧
    (ceAlg e ≠ 7 → slotKey x (ceSlot e) (ceKind (ceAlg e)) = none → inPda (c.ring.cqPda + 32 * c.ring.cqTail) →
      ∃ t, exec (.cphRequestStart p tag) s = .next t ∧ findCph t p.val tag.toNat = none ∧
        t.mem = (recorded s p.val c.ring r.queue r.tag stRevoked 0 0x8A).mem)) ∧
  (∀ (s : State) (p : PetalId) (tag : BitVec 13) (x : Petal) (r : CphReq) (c : CphQueue) (l : Option (List (Nat × List Byte))),
    findCph s p.val tag.toNat = some r → getPetal s p.val = some x → getCph s p.val r.queue = some c → c.ring.closing = false →
    r.started = true → dmaPending s p.val r.tag = false → dmaFailed s p.val r.tag = false → rising x.tags = true → s.waiters = [] →
    let e := r.raw.toNat
    let src := bufRead (fresh s) p.val c.bind (ceSrc e) (ceLen e)
    let aad := if (ceAlg e = 1 ∨ ceAlg e = 2) ∧ ceAadLen e ≠ 0 then bufRead (fresh s) p.val c.bind (ceAad e) (ceAadLen e) else []
    (∀ d ∈ heldBufs (ceReads e), inPda d.1 ∧ bufPoison s p.val d.1 d.2 = false) → inPda (c.ring.cqPda + 32 * c.ring.cqTail) →
    CphDelivers r.key e src aad l →
    ∃ t z, exec (.cphRequestComplete p tag) s = .next t ∧ findCph t p.val tag.toNat = none ∧ getPetal t p.val = some z ∧
      look z.tags r.tag = none ∧
      (∀ ws, l = some ws → (∀ w ∈ ws, inPda w.1) →
        let u := ws.foldl (fun u w => memPut u p.val w.1 w.2) s
        t.mem = (if ceRec e then recorded u p.val c.ring r.queue r.tag stOk (ceLen e) 0 else u).mem ∧
        getCph t p.val r.queue = some { c with
          ring := if ceRec e then recordedRing c.ring else { c.ring with reserved := c.ring.reserved - 1 } } ∧
        (ceSig e = true → counterFits ((counterVal x (ceCounter e)).toInt + ceInc e) = true →
          (counterVal z (ceCounter e)).toInt = (counterVal x (ceCounter e)).toInt + ceInc e) ∧
        (ceSig e = false → z.counters = x.counters)) ∧
      (l = none → t.mem = (recorded s p.val c.ring r.queue r.tag stAuthFailed 0 0x89).mem ∧ z.counters = x.counters))

/-- R187, R190 to R195, R213: communicators. COL_COMM_CREATE makes a one-node communicator READY and a wider one JOINING, which sends its
JOIN to every peer; the last JOIN makes it READY; it leaves JOINING by its time limit; BROKEN breaks it; COL_COMM_DESTROY removes it and
COL_ABORT ends an operation. Where the rules leave it open, it states the choices of log entries 21 and 70, which are the model's. -/
def Obligations.Communicators : Prop :=
  (∀ (s : State) (m : Mbx) (x : Petal), Served cmdCommCreate m s →
    let b := fresh (begun cmdCommCreate m s)
    let p := m.page.val
    let c := commOf b m
    getPetal b p = some x → commCheck b x c = none →
    (cNodes c = 1 →
      ∃ t, Answers (.colCommCreate m) m s t replyOk ∧ getComm t p c.num = some { c with st := .ready } ∧
        t.mem = dropCells s.mem (memKey p (cStage c)) (cStageBytes c) ∧ t.sent = b.sent) ∧
    (cNodes c ≠ 1 →
      ∃ t, exec (.colCommCreate m) s = .next (postPending cmdCommCreate m (.join p c.num) none t) ∧ getComm t p c.num = some c ∧
        t.mem = dropCells s.mem (memKey p (cStage c)) (cStageBytes c) ∧
        t.sent = b.sent ++ (peersOf c).map (fun e => .control p (tCtrl e.2) (joinMsg b c e.2)))) ∧
  (∀ (s : State) (m : Mbx) (c : Comm), Served cmdCommDestroy m s →
    let b := begun cmdCommDestroy m s
    let p := m.page.val
    let n := mf m 0x10 0 6
    getComm b p n = some c → c.petal = p → c.num = n → rising b.comms = true →
    (opsOf b p n = [] →
      ∃ t, Answers (.colCommDestroy m) m s t replyOk ∧ getComm t p n = none ∧ (∀ k, k ≠ commKey p n → look t.comms k = look b.comms k) ∧
        t.mem = s.mem) ∧
    (opsOf b p n ≠ [] → (∀ o ∈ opsOf b p n, o.started.isSome = true) → c.st ≠ .joining →
      ∃ t, exec (.colCommDestroy m) s = .next (postPending cmdCommDestroy m (.objEnd p 7 n) none t) ∧
        (getComm t p n).map (·.ring.closing) = some true ∧ (∀ o ∈ opsOf t p n, o.stop.isSome = true) ∧ t.mem = s.mem)) ∧
  (∀ (s : State) (m : Mbx) (c : Comm) (o : ColOp), Served cmdColAbort m s →
    let b := begun cmdColAbort m s
    let p := m.page.val
    let n := mf m 0x10 0 6
    findOp b p (mf m 0x12 0 13) = some o → getComm b p n = some c → c.petal = p → c.num = n → o.comm = n →
    (o.started.isSome = true → o.stop = none →
      ∃ t, exec (.colAbort m) s = .next (postPending cmdColAbort m (.taskEnd p o.tag true) none t) ∧
        findOp t p o.tag = some { o with stop := some (stAborted, 0xDD) } ∧ t = { b with colOps := t.colOps }) ∧
    (o.started.isSome = true → o.stop.isSome = true →
      exec (.colAbort m) s = .next (postPending cmdColAbort m (.taskEnd p o.tag false) none b)) ∧
    (o.started = none → opsOf b p n = [o] → c.st = .ready → c.ring.closing = false →
      ∃ t, Answers (.colAbort m) m s t replyOk ∧ findOp t p o.tag = none ∧ (getComm t p n).map (·.st) = some .broken ∧
        t.mem = (recorded (if cNodes c = 1 then looseStage b c else b) p c.ring n o.tag stAborted 0 0xDD).mem)) ∧
  (∀ (s : State) (p : PetalId) (n : Fin 64) (v : W32) (c : Comm), getComm (awake s) p.val n.val = some c →
    let set (r : Ring) : State := setComm (awake s) { c with ring := r }
    TailWrite c.ring v.toNat set (count (awake s) kLch p.val 7 1) (exec (.colSqTail p n v) s) ∧
    HeadWrite c.ring v.toNat set (count (awake s) kLch p.val 7 1) (exec (.colCqHead p n v) s)) ∧
  (∀ (s : State) (p : PetalId) (n : Fin 64) (c : Comm), getComm s p.val n.val = some c → c.petal = p.val → c.num = n.val →
    c.st = .joining → c.since.toNat * 10 + cJoinMs c * 1000000 ≤ s.elapsed.toNat * 10 → opsOf s p.val n.val = [] → rising s.comms = true →
    ∃ t, exec (.colJoinTimeout p n) s = .next t ∧ getComm t p.val n.val = none ∧ t.mem = s.mem ∧
      ∀ g, (getPage t g).pends = (getPage s g).pends.map (fun q => if q.why = .join p.val n.val ∧ q.outcome = none then
        { q with outcome := some (replyErr stTimeout 0xD6) } else q)) ∧
  (∀ (s : State) (p : PetalId) (qp : BitVec 20) (m : BitVec 704) (c : Comm), let x := m.toNat
    getComm s p.val (mgComm x) = some c → c.petal = p.val → c.num = mgComm x → c.st = .joining → fromPeer c x qp.toNat = true →
    colHeaderOk x 1 0x58 = true → mgF x 0x20 14 18 = 0 → mgF x 0x24 17 15 = 0 → mgF x 0x28 48 16 = 0 →
    cmac (joinKey s c) (macBytes x 0x58) = msgMac x 0x58 → mgF x 0x20 0 32 = joinParams c → mgF x 0x24 0 17 = cNodes c →
    let joins := put c.joins (mgNode x) m
    ∃ t, exec (.join p qp m) s = .next t ∧ t = { s with comms := t.comms, pages := t.pages } ∧
      (joins.length + 1 = cNodes c → getComm t p.val c.num = some { c with joins := joins, st := .ready } ∧
        ∀ g, (getPage t g).pends = (getPage s g).pends.map (fun q => if q.why = .join p.val c.num ∧ q.outcome = none then
          { q with outcome := some replyOk } else q)) ∧
      (joins.length + 1 ≠ cNodes c → getComm t p.val c.num = some { c with joins := joins } ∧ t.pages = s.pages)) ∧
  (∀ (s : State) (p : PetalId) (qp : BitVec 20) (m : BitVec 448) (c : Comm), let x := m.toNat
    getComm s p.val (mgComm x) = some c → c.petal = p.val → c.num = mgComm x → c.st = .ready → c.ring.closing = false →
    fromPeer c x qp.toNat = true → colHeaderOk x 2 0x38 = true → mgF x 0x24 0 32 = 0 →
    cmac (joinKey s c) (macBytes x 0x38) = msgMac x 0x38 →
    ∃ t, exec (.broken p qp m) s = .next t ∧ (getComm t p.val c.num).map (·.st) = some .broken ∧
      ∀ o ∈ opsOf t p.val c.num, o.started.isSome = true ∧ o.stop.isSome = true)

/-- R194, R195, R198, R200 to R202, R205, R210 to R212: an operation in its course. The service takes a valid descriptor and starts the
operation once it may, with its communicator's cores. On one node it writes to every local rank what the operation delivers, then the
record; a stop, and the operation's time limit, end it and break its communicator. A STEP counts its bytes, waits for its operation, or ends
an operation that it contradicts. Where the rules leave it open, it states the choices of log entries 20 and 21, which are the model's. -/
def Obligations.CollectiveCourse : Prop :=
  (∀ (s : State) (p : PetalId) (n : Fin 64) (x : Petal) (c : Comm), getPetal s p.val = some x → getComm s p.val n.val = some c →
    c.petal = p.val → c.num = n.val → x.st = .active → c.ring.closing = false → 0 < ringOffered c.ring → ringFree c.ring = true →
    keyPresent s p.val = true →
    let a := c.ring.sqPda + 256 * c.ring.sqHead
    let d := memNat (fresh s) p.val a 256
    poisonIn s p.val a 256 = none →
    (c.st ≠ .broken → colCheck s c x d = none →
      ∃ t, exec (.colOpAccept p n) s = .next t ∧
        t.colOps = s.colOps ++ [⟨p.val, n.val, oTag d, c.opSeq, BitVec.ofNat 2048 d, none, 0, none⟩] ∧
        getComm t p.val n.val = some { c with ring := ringTake c.ring, opSeq := c.opSeq + 1 } ∧
        (getPetal t p.val).map (fun z => look z.tags (oTag d)) = some (some .collective) ∧ t.mem = s.mem) ∧
    (c.st = .broken →
      ∃ t, exec (.colOpAccept p n) s = .next t ∧ t.colOps = s.colOps ∧
        t.mem = (recorded s p.val c.ring n.val (oTag d) stAborted 0 0xDC).mem) ∧
    (∀ f, c.st = .ready → colCheck s c x d = some f → opsOf s p.val n.val = [] →
      ∃ t, exec (.colOpAccept p n) s = .next t ∧ t.colOps = s.colOps ∧ (getComm t p.val n.val).map (·.st) = some .broken ∧
        t.mem = (recorded s p.val c.ring n.val (oTag d) f.1 0 f.2).mem)) ∧
  (∀ (s : State) (p : PetalId) (tag : BitVec 13) (x : Petal) (c : Comm) (o : ColOp), findOp s p.val tag.toNat = some o →
    getPetal s p.val = some x → getComm s p.val o.comm = some c → c.petal = p.val → c.num = o.comm → o.started = none → x.st = .active →
    keyPresent s p.val = true → opStartable s c o = true → badSteps c o = false → reducing s p.val c.num = [] →
    let d := o.desc.toNat
    let opt := optNow (fresh s) c d
    (∀ b ∈ sendBufs c d, inPda b.2.1) →
    (oOp d = 5 → poisonIn s p.val (oOpt d) 64 = none ∧ optOk (slotsOf x) (oCount d / cNodes c) ((cStage c, cStageBytes c) ::
      (sendBufs c d ++ recvBufs c d).filterMap (fun b => match bufAddr b.2.1 with | .pda a => some (a, b.2.2) | _ => none)) opt = true) →
    ∃ t, exec (.colOpStart p tag) s = .next t ∧
      findOp t p.val tag.toNat = some { o with started := some s.elapsed, opt := BitVec.ofNat 512 opt } ∧
      (∀ k ∈ commCores s c, coreTaken s c k = false → (getCore t k).launch = if opReduces (oOp d) then some o.tag else none) ∧
      (∀ k, k ∉ commCores s c ∨ coreTaken s c k = true → getCore t k = getCore s k) ∧ t.mem = s.mem) ∧
  (∀ (s : State) (p : PetalId) (tag : BitVec 13) (revoked : Bool) (x : Petal) (c : Comm) (o : ColOp), findOp s p.val tag.toNat = some o →
    getPetal s p.val = some x → getComm s p.val o.comm = some c → c.petal = p.val → c.num = o.comm → o.started.isSome = true →
    cNodes c = 1 → cMe c = 0 → opTrouble s c o = none → dmaPending s p.val o.tag = false → s.waiters = [] →
    let d := o.desc.toNat
    let b := fresh s
    let n := cBytes c (oCount d)
    let size (l : Nat) : Nat := (sendBytes c d l).getD 0
    let ins (l : Nat) : List Byte := bufRead b p.val (cBind c l) (oSend d l) (size l)
    let ranks := List.range (cLocal c)
    oOp d < 5 → cLocal c ≤ 8 → oNotify d = false → (∀ l ∈ ranks, inPda (oRecv d l)) → (oOp d = 3 → oRoot d < cLocal c) →
    let out (l : Nat) : List Byte :=
      if oOp d = 2 then ranks.flatMap ins
      else if oOp d = 3 then ins (oRoot d)
      else if oOp d = 4 then ranks.flatMap (fun r => ((ins r).drop (l * n)).take n)
      else (((reduceLocal b c d (ranks.map ins)).1[l]?).map (·.2)).getD []
    let flags := if oOp d < 2 then (reduceLocal b c d (ranks.map ins)).2 % 256 else 0
    let u := looseStage (ranks.foldl (fun u l => memPut u p.val (oRecv d l) (out l)) s) c
    ∃ t, exec (.colOpComplete p tag revoked) s = .next t ∧ findOp t p.val tag.toNat = none ∧
      t.mem = (if oRec d then recorded u p.val c.ring c.num o.tag stOk (s.elapsed - o.started.getD 0).toNat (flags * 2 ^ 8) else u).mem ∧
      (c.ring.closing = false → (getComm t p.val c.num).map (·.st) = some c.st)) ∧
  (∀ (s : State) (p : PetalId) (tag : BitVec 13) (c : Comm) (o : ColOp), findOp s p.val tag.toNat = some o →
    getComm s p.val o.comm = some c → c.petal = p.val → c.num = o.comm → c.st = .ready → c.ring.closing = false →
    (∀ revoked f, o.started.isSome = true → o.stop = some f → f.1 ≠ stOk →
      ∃ t, exec (.colOpComplete p tag revoked) s = .next t ∧ findOp t p.val tag.toNat = none ∧
        (getComm t p.val c.num).map (·.st) = some .broken) ∧
    (∀ since, o.started = some since → o.stop = none →
      since.toNat * 10 + (if oTimeout o.desc.toNat = 0 then cOpMs c else oTimeout o.desc.toNat) * 1000000 ≤ s.elapsed.toNat * 10 →
      ∃ t, exec (.colOpTimeout p tag) s = .next t ∧ findOp t p.val tag.toNat = none ∧ (getComm t p.val c.num).map (·.st) = some .broken)) ∧
  (∀ (s : State) (p : PetalId) (qp : BitVec 20) (m : BitVec 832) (c : Comm), let x := m.toNat
    let running := (opsOf s p.val c.num).filter (fun o => o.started.isSome && o.stop.isNone)
    getComm s p.val (mgComm x) = some c → c.petal = p.val → c.num = mgComm x → c.st = .ready → c.ring.closing = false →
    colHeaderOk x 3 0x68 = true → stepFormed c x = true → fromPeer c x qp.toNat = true →
    (∀ o, running.find? (fun o => o.seq == mgSeq x) = some o → stepAgrees c o.desc.toNat x = true → cWireSlot c = 0xFFFF →
      exec (.step p qp m) s = .next (count (fresh s) kCol (commKey p.val c.num) 3 (mgF x 0x40 0 32))) ∧
    (∀ o, running.find? (fun o => o.seq == mgSeq x) = some o → stepAgrees c o.desc.toNat x = false →
      ∃ t, exec (.step p qp m) s = .next t ∧ findOp t p.val o.tag = none ∧ (getComm t p.val c.num).map (·.st) = some .broken) ∧
    ((∀ o ∈ running, o.seq ≠ mgSeq x) → c.opSeq ≤ mgSeq x →
      exec (.step p qp m) s = .next (setComm s { c with steps := c.steps ++ [(mgNode x, m)] })))

/-- R218, R219, R223 to R226, R236, R237: the commands of attention contexts, rings and sequences create and remove them and abort an entry;
the doorbells of a ring take legal values. Where the rules leave it open, it states the choices of log entries 24 and 70, which are the
model's. -/
def Obligations.AttentionCommands : Prop :=
  (∀ (s : State) (m : Mbx) (x : Petal), Served cmdAtnCtxCreate m s →
    let b := begun cmdAtnCtxCreate m s
    let p := m.page.val
    let n := mf m 0x10 0 4
    let c : AtnCtx := ⟨p, n, BitVec.ofNat 640 m.payload.toNat, [], [], [], false⟩
    getPetal b p = some x → ctxCheck b c x = none →
    ∃ t, Answers (.atnCtxCreate m) m s t replyOk ∧ t.ctxs = put s.ctxs (ctxKey p n) c ∧ t.mem = s.mem ∧ t.atnEntries = s.atnEntries) ∧
  (∀ (s : State) (m : Mbx) (c : AtnCtx), Served cmdAtnCtxDestroy m s →
    let b := begun cmdAtnCtxDestroy m s
    let p := m.page.val
    let n := mf m 0x10 0 4
    getCtx b p n = some c → c.petal = p → c.num = n → ctxEntries b p n = [] → c.spilling = [] → rising b.ctxs = true →
    rising c.rings = true → rising c.seqs = true →
    ∃ t, Answers (.atnCtxDestroy m) m s t replyOk ∧ getCtx t p n = none ∧ (∀ k, k ≠ ctxKey p n → look t.ctxs k = look s.ctxs k) ∧
      t.mem = s.mem) ∧
  (∀ (s : State) (m : Mbx) (c : AtnCtx) (x : Petal), Served cmdAtnRingCreate m s →
    let b := begun cmdAtnRingCreate m s
    let p := m.page.val
    let n := mf m 0x10 0 4
    let k := mf m 0x10 4 4
    let v := mf m 0x14 0 16
    getCtx b p n = some c → getPetal b p = some x → look c.rings k = none → mf m 0x14 16 4 < 4 ∨ mf m 0x14 16 4 = 0xF →
    ringGeometry c x (mf m 0x10 8 8) (mf m 0x10 16 8) (mf m 0x20 0 48) (mf m 0x28 0 48) (mf m 0x18 0 32) = true →
    v = 0xFFFF ∨ look b.msixOwner v = some p → mf m 0x1C 0 32 < recCounters x.record →
    Answers (.atnRingCreate m) m s { b with
      ctxs := put b.ctxs (ctxKey p n) { c with
        rings := put c.rings k ⟨Ring.new (mf m 0x10 8 8) (mf m 0x10 16 8) (mf m 0x20 0 48) (mf m 0x28 0 48) v, mf m 0x14 16 4,
          mf m 0x18 0 32, mf m 0x1C 0 32, 0, []⟩ } } replyOk) ∧
  (∀ (s : State) (m : Mbx) (c : AtnCtx) (r : AtnRing), Served cmdAtnRingDestroy m s →
    let b := begun cmdAtnRingDestroy m s
    let p := m.page.val
    let n := mf m 0x10 0 4
    let k := mf m 0x10 4 4
    getCtx b p n = some c → look c.rings k = some r → rising c.rings = true →
    (ringEntries b p n k = [] →
      ∃ t z, Answers (.atnRingDestroy m) m s t replyOk ∧ getCtx t p n = some z ∧ look z.rings k = none ∧ z.seqs = c.seqs ∧
        (∀ j, j ≠ k → look z.rings j = look c.rings j) ∧ t.mem = s.mem) ∧
    (ringEntries b p n k ≠ [] → (∀ e ∈ ringEntries b p n k, e.started.isSome = true ∧ eOp e ≠ 0) →
      ∃ t z, exec (.atnRingDestroy m) s = .next (postPending cmdAtnRingDestroy m (.objEnd p 11 (n * 16 + k)) none t) ∧
        getCtx t p n = some z ∧ look z.rings k = some { r with ring := { r.ring with closing := true } } ∧
        t.atnEntries = s.atnEntries ∧ t.mem = s.mem)) ∧
  (∀ (s : State) (m : Mbx) (c : AtnCtx), Served cmdAtnSeqCreate m s →
    let b := begun cmdAtnSeqCreate m s
    let p := m.page.val
    let n := mf m 0x10 0 4
    let q := mf m 0x14 0 14
    let tokens := mf m 0x18 0 21
    getCtx b p n = some c → q < xMaxSeqs c → 1 ≤ tokens → tokens ≤ 1048576 →
    (look c.seqs q = none → c.closing = false →
      Answers (.atnSeqCreate m) m s { b with
        ctxs := put b.ctxs (ctxKey p n) { c with seqs := put c.seqs q ⟨tokens, mf m 0x18 21 1 == 1, false, [], [], [], none, false⟩ } } replyOk) ∧
    (∀ x, look c.seqs q = some x → x.destroying = true → exec (.atnSeqCreate m) s = .next (postPending cmdAtnSeqCreate m .again none b)) ∧
    (∀ x, look c.seqs q = some x → x.destroying = false →
      Answers (.atnSeqCreate m) m s b (replyErr stInvalidArgument 0x9B))) ∧
  (∀ (s : State) (m : Mbx) (c : AtnCtx) (x : AtnSeq), Served cmdAtnSeqDestroy m s →
    let b := begun cmdAtnSeqDestroy m s
    let p := m.page.val
    let n := mf m 0x10 0 4
    let q := mf m 0x14 0 14
    getCtx b p n = some c → c.petal = p → c.num = n → look c.seqs q = some x → rising c.seqs = true →
    ((∀ e ∈ ctxEntries b p n, e.started.isSome = true → aeSeq (eh e) ≠ q) → (∀ w ∈ c.spilling, w.seq ≠ q) →
      ∃ t, Answers (.atnSeqDestroy m) m s t replyOk ∧ getCtx t p n = some { c with seqs := del c.seqs q } ∧
        t.atnEntries = s.atnEntries ∧ t.mem = s.mem) ∧
    ((∃ e ∈ ctxEntries b p n, e.started.isSome = true ∧ aeSeq (eh e) = q) ∨ (∃ w ∈ c.spilling, w.seq = q) →
      ∃ t, exec (.atnSeqDestroy m) s = .next (postPending cmdAtnSeqDestroy m (.objEnd p 12 (n * 16384 + q)) none t) ∧
        getCtx t p n = some { c with seqs := put c.seqs q { x with destroying := true } } ∧ t.atnEntries = s.atnEntries)) ∧
  (∀ (s : State) (m : Mbx) (c : AtnCtx) (r : AtnRing) (e : AtnEntry), Served cmdAtnAbort m s →
    let b := begun cmdAtnAbort m s
    let p := m.page.val
    let n := mf m 0x10 0 4
    let k := mf m 0x10 4 4
    getCtx b p n = some c → look c.rings k = some r → (ringEntries b p n k).find? (fun e => e.tag == mf m 0x12 0 13) = some e →
    (e.started.isSome = true → eOp e ≠ 0 → exec (.atnAbort m) s = .next (postPending cmdAtnAbort m (.taskEnd p e.tag false) none (fresh b))) ∧
    (e.started.isSome = true → eOp e = 0 → ∃ t, Answers (.atnAbort m) m s t replyOk ∧ findAtn t p e.tag = none) ∧
    (e.started = none → b.waiters = [] →
      ∃ t, Answers (.atnAbort m) m s t replyOk ∧ findAtn t p e.tag = none ∧
        t.mem = (recorded b p r.ring (n * 16 + k) e.tag stAborted (atnResult b e) 0x8F).mem)) ∧
  (∀ (s : State) (p : PetalId) (n k : Fin 16) (v : W32) (c : AtnCtx) (r : AtnRing), getCtx (awake s) p.val n.val = some c →
    look c.rings k.val = some r →
    let set (g : Ring) : State := { awake s with
      ctxs := put s.ctxs (ctxKey p.val n.val) { c with rings := put c.rings k.val { r with ring := g } } }
    TailWrite r.ring v.toNat set (count (awake s) kLch p.val 7 1) (exec (.atnSqTail p n k v) s) ∧
    HeadWrite r.ring v.toNat set (count (awake s) kLch p.val 7 1) (exec (.atnCqHead p n k v) s))

/-- R226, R229 to R234, R238 to R240: an entry in its course: the service takes a valid entry and refuses another with a record and its
ring's error counter; the entry starts, an ATTEND with the length and the pages of its sequence; APPEND adds tokens, TRUNCATE cuts every
layer, ATTEND writes its rows; a time limit ends it. Pages of idle sequences are spilled under their key, and leave the arena when the write
is done. Where the rules leave it open, it states the choices of log entries 23 and 24, which are the model's. -/
def Obligations.AttentionCourse : Prop :=
  (∀ (s : State) (p : PetalId) (n k : Fin 16) (x : Petal) (c : AtnCtx) (r : AtnRing), getPetal s p.val = some x →
    getCtx s p.val n.val = some c → c.petal = p.val → c.num = n.val → look c.rings k.val = some r → x.st = .active → c.closing = false →
    r.ring.closing = false → 0 < ringOffered r.ring → ringFree r.ring = true → keyPresent s p.val = true →
    let a := r.ring.sqPda + r.entryBytes * r.ring.sqHead
    let h := memNat (fresh s) p.val a 128
    let body := min (bodyBytes c h) (r.entryBytes - 128)
    poisonIn s p.val a 128 = none →
    (atnCheck s c r x h = none → poisonIn s p.val (a + 128) body = none →
      ∃ t z, exec (.atnEntryAccept p n k) s = .next t ∧
        t.atnEntries = s.atnEntries ++ [⟨p.val, n.val, k.val, aeTag h, r.accepted, BitVec.ofNat 1024 h,
          memRead (fresh s) p.val (a + 128) body, false, none, 0, [], [], 0, none⟩] ∧
        getCtx t p.val n.val = some z ∧ (look z.rings k.val).map (fun g => (g.ring, g.accepted)) = some (ringTake r.ring, r.accepted + 1) ∧
        (getPetal t p.val).map (fun z => look z.tags (aeTag h)) = some (some .attention) ∧ t.mem = s.mem) ∧
    (∀ f, atnCheck s c r x h = some f → s.waiters = [] →
      ∃ t, exec (.atnEntryAccept p n k) s = .next t ∧ t.atnEntries = s.atnEntries ∧
        t.mem = (recorded s p.val r.ring (n.val * 16 + k.val) (aeTag h) f.1 0 f.2).mem)) ∧
  (∀ (s : State) (p : PetalId) (tag : BitVec 13) (ok : Bool) (x : Petal) (c : AtnCtx) (r : AtnRing) (e : AtnEntry),
    findAtn s p.val tag.toNat = some e → getPetal s p.val = some x → getCtx s p.val e.ctx = some c → c.petal = p.val → c.num = e.ctx →
    look c.rings e.ring = some r → x.st = .active → atnStartable s c e = true → keyPresent s p.val = true → e.badBody = false →
    let h := eh e
    (look c.seqs (aeSeq h) = none → ∃ t, exec (.atnEntryStart p tag ok) s = .next t ∧ findAtn t p.val tag.toNat = none) ∧
    (∀ q, look c.seqs (aeSeq h) = some q → q.destroying = false →
      (eOp e = 2 ∨ (eOp e = 1 ∧ (aeCount h = 0 ∨ inPda (aeSrc h))) →
        exec (.atnEntryStart p tag ok) s = .next (modAtn (fresh s) p.val tag.toNat (fun e => { e with started := some s.elapsed }))) ∧
      (∀ slot : Nat → Nat, eOp e = 0 → aeInline h = 0 → let len := lenOf q (aeLayer h)
        (∀ g ∈ neededPages h len, look q.pages (pageKey (aeLayer h) g) = some (.arena (slot g)) ∧
          poisonIn s p.val (slotPda c (slot g)) (xPage c) = none) →
        ∃ t z pages, exec (.atnEntryStart p tag ok) s = .next t ∧ findAtn t p.val tag.toNat = some z ∧ z.started = some s.elapsed ∧
          z.len = len ∧ z.fail = none ∧ z.filled = 0 ∧ z.rows = rowKinds c h len e.body pages ∧
          (∀ g ∈ neededPages h len, look z.view (pageKey (aeLayer h) g) = some (slot g) ∧
            look pages g = some (memRead (fresh s) p.val (slotPda c (slot g)) (xPage c))) ∧
          t.mem = s.mem))) ∧
  (∀ (s : State) (p : PetalId) (tag : BitVec 13) (ok : Bool) (x : Petal) (c : AtnCtx) (r : AtnRing) (e : AtnEntry) (q : AtnSeq),
    findAtn s p.val tag.toNat = some e → getPetal s p.val = some x → getCtx s p.val e.ctx = some c → c.petal = p.val → c.num = e.ctx →
    look c.rings e.ring = some r → r.ring.closing = false → c.closing = false → atnCanEnd s c e = true → e.fail = none → s.waiters = [] →
    look c.seqs (aeSeq (eh e)) = some q → q.destroying = false →
    let h := eh e
    let layer := aeLayer h
    (eOp e = 2 →
      ∃ t z y, exec (.atnEntryComplete p tag ok) s = .next t ∧ findAtn t p.val tag.toNat = none ∧ getCtx t p.val e.ctx = some z ∧
        look z.seqs (aeSeq h) = some y ∧ (∀ l, lenOf y l = min (lenOf q l) (aeCount h)) ∧
        (∀ g, g ∈ y.pages ↔ g ∈ q.pages ∧ 256 * (g.1 % 4096) < lenOf y (g.1 / 4096)) ∧
        t.mem = (if aeRec h then recorded s p.val r.ring (e.ctx * 16 + e.ring) e.tag stOk
          (aeCount h % 2 ^ 21 + e.filled % 2 ^ 21 * 2 ^ 21) 0 else s).mem) ∧
    (let tokens := aeInline h + aeCount h
     eOp e = 1 → (aeCount h = 0 ∨ (inPda (aeSrc h) ∧ bufPoison s p.val (aeSrc h) (aeCount h * xToken c) = false)) →
     dmaFailed s p.val e.tag = false → lenOf q layer + tokens ≤ q.maxTokens → slotsNeeded c q layer tokens ≤ freeSlotCount s c →
     tailSpilled q layer tokens = none →
      ∃ t z y, exec (.atnEntryComplete p tag ok) s = .next t ∧ findAtn t p.val tag.toNat = none ∧ getCtx t p.val e.ctx = some z ∧
        look z.seqs (aeSeq h) = some y ∧ lenOf y layer = lenOf q layer + tokens ∧ (∀ l, l ≠ layer → lenOf y l = lenOf q l) ∧
        (∀ j, j ≠ aeSeq h → look z.seqs j = look c.seqs j)) ∧
    (let b := fresh s
     let out := (e.rows.mapIdx (fun i k => rowOut b c i k)).flatten
     let lse := (e.rows.mapIdx (fun i k => rowLse b i k)).flatten
     let flags := if e.rows.all (· == 0) then 0 else (freeVal b (2 ^ 144) % 256) ||| (if e.rows.contains 1 then flInvalid else 0)
     eOp e = 0 → inPda (aeOut h) → (aeLse h = true → inPda (aeLseAt h)) →
      ∃ t, exec (.atnEntryComplete p tag ok) s = .next t ∧ findAtn t p.val tag.toNat = none ∧
        (let u := memPut s p.val (aeOut h) out
         let u := if aeLse h then memPut u p.val (aeLseAt h) lse else u
         t.mem = (if aeRec h then recorded u p.val r.ring (e.ctx * 16 + e.ring) e.tag stOk
           (lenOf q layer % 2 ^ 21 + e.filled % 2 ^ 21 * 2 ^ 21) (flags % 256 * 2 ^ 8) else u).mem))) ∧
  (∀ (s : State) (p : PetalId) (tag : BitVec 13) (c : AtnCtx) (e : AtnEntry) (since : W64), findAtn s p.val tag.toNat = some e →
    getCtx s p.val e.ctx = some c → e.started = some since → aeTimeout (eh e) ≠ 0 →
    since.toNat * 10 + aeTimeout (eh e) * 1000000 ≤ s.elapsed.toNat * 10 →
    ∃ t, exec (.atnEntryTimeout p tag) s = .next t ∧ findAtn t p.val tag.toNat = none) ∧
  (∀ (s : State) (p : PetalId) (n : Fin 16) (x : Petal) (c : AtnCtx) (key : KeySlot) (seq g slot : Nat) (q : AtnSeq),
    getPetal s p.val = some x → getCtx s p.val n.val = some c → c.petal = p.val → c.num = n.val → c.closing = false →
    keyPresent s p.val = true → spillDue s c = true → spillVictims s c = [(seq, g, slot)] → look c.seqs seq = some q →
    slotKey x (xSlot c) 1 = some key → (usedSpill c).length < xSpillSlots c →
    ∃ t z w, exec (.atnSpill p n) s = .next t ∧ getCtx t p.val n.val = some z ∧ z = { c with spilling := c.spilling ++ [w] } ∧
      w.seq = seq ∧ w.key = g ∧ w.slot = slot ∧
      (let iv := leBytes 8 (key.ivCounter + 1).toNat ++ leBytes 4 w.spill
       let page := memRead (fresh s) p.val (slotPda c slot) (xPage c)
       w.bytes.take 12 = iv ∧ (w.bytes.drop 32).take (xPage c) = (gcmEncrypt (spillKey s c) iv (spillAad c seq g) page).1) ∧
      (getPetal t p.val).map (fun y => look y.keySlots (xSlot c)) = some (some { key with ivCounter := key.ivCounter + 1 }) ∧
      t.mem = s.mem) ∧
  (∀ (s : State) (p : PetalId) (n : Fin 16) (ok : Bool) (c : AtnCtx) (w : SpillWrite) (ws : List SpillWrite) (q : AtnSeq),
    getCtx s p.val n.val = some c → c.petal = p.val → c.num = n.val → c.closing = false → c.spilling = w :: ws → spillRoom s c w = true →
    look c.seqs w.seq = some q → q.destroying = false → look q.pages w.key = some (.arena w.slot) →
    let served := ((getVol s p.val (xVolume c)).map volReady).getD false
    ∃ t, exec (.atnSpillWriteDone p n ok) s = .next t ∧ getCtx t p.val n.val = some { c with
      spilling := ws
      seqs := put c.seqs w.seq (if ok && served then { q with pages := put q.pages w.key (.spilled w.spill none) }
        else { q with excluded := true }) })

/-- R338 to R340, R350 to R352, R357, R359: the commands of Scroll queue pairs create and remove one, abort a command or a self-test, write
the freeze log, restart a frozen queue and identify the device; the doorbells take legal values. Where the rules leave it open, it states
the choices of log entry 32, which are the model's. -/
def Obligations.ScrollQueues : Prop :=
  (∀ (s : State) (m : Mbx) (x : Petal), Served cmdSclQpCreate m s →
    let b := begun cmdSclQpCreate m s
    let p := m.page.val
    let n := mf m 0x10 0 12
    let bind := mf m 0x10 16 4
    let v := mf m 0x14 16 16
    getPetal b p = some x → getScl b p n = none → n < recScroll x.record → bind < 4 ∨ bind = 0xF → sclRingsFit m = true →
    bufOk b p bind (mf m 0x18 0 64) (64 * 2 ^ mf m 0x14 0 8) = true → bufOk b p bind (mf m 0x20 0 64) (32 * 2 ^ mf m 0x14 8 8) = true →
    v = 0xFFFF ∨ look b.msixOwner v = some p →
    Answers (.sclQpCreate m) m s { b with
      sclQps := put b.sclQps (sclKey p n)
        ⟨p, n, bind, Ring.new (mf m 0x14 0 8) (mf m 0x14 8 8) (mf m 0x18 0 64) (mf m 0x20 0 64) v, false, none⟩ } replyOk) ∧
  (∀ (s : State) (m : Mbx) (q : SclQp), Served cmdSclQpDestroy m s →
    let b := begun cmdSclQpDestroy m s
    let p := m.page.val
    let n := mf m 0x10 0 12
    getScl b p n = some q → q.petal = p → q.num = n → rising b.sclQps = true →
    (sclOf b p n = [] →
      ∃ t, Answers (.sclQpDestroy m) m s t replyOk ∧ getScl t p n = none ∧ (∀ k, k ≠ sclKey p n → look t.sclQps k = look s.sclQps k) ∧
        t.sclCmds = s.sclCmds ∧ t.mem = s.mem) ∧
    (sclOf b p n ≠ [] → (∀ c ∈ sclOf b p n, c.begun.isSome = true ∧ scOp c ≠ 1) →
      ∃ t, exec (.sclQpDestroy m) s = .next (postPending cmdSclQpDestroy m (.objEnd p 8 n) none t) ∧
        getScl t p n = some { q with ring := { q.ring with closing := true } } ∧ t.sclCmds = s.sclCmds ∧ t.mem = s.mem)) ∧
  (∀ (s : State) (p : PetalId) (n : BitVec 12) (rsv : BitVec 3) (v : BitVec 16) (x : Petal) (q : SclQp), getPetal (awake s) p.val = some x →
    getScl (awake s) p.val n.toNat = some q → q.petal = p.val → q.num = n.toNat →
    let set (r : Ring) : State := { awake s with sclQps := put s.sclQps (sclKey p.val n.toNat) { q with ring := r } }
    let ignored := { awake s with sclIgnored := put s.sclIgnored p.val (min 0xFFFFFFFF (lookD s.sclIgnored p.val 0 + 1)) }
    TailWrite q.ring v.toNat set ignored (exec (.sclDbSqTail p n 0 v) s) ∧ HeadWrite q.ring v.toNat set ignored (exec (.sclDbCqHead p n 0 v) s) ∧
    (rsv ≠ 0 → exec (.sclDbSqTail p n rsv v) s = .next ignored ∧ exec (.sclDbCqHead p n rsv v) s = .next ignored)) ∧
  (∀ (s : State) (m : Mbx) (c : SclCmd) (q : SclQp), Served cmdSclAbort m s →
    let b := begun cmdSclAbort m s
    let p := m.page.val
    let n := mf m 0x10 0 12
    n ≠ 0xFFF → (sclOf b p n).find? (fun c => c.tag == mf m 0x14 0 13) = some c → getScl b p n = some q → q.petal = p → q.num = n →
    q.ring.closing = false →
    (c.begun = none → q.frozen = false → inPda (q.ring.cqPda + 32 * q.ring.cqTail) →
      let rest := { b with sclCmds := b.sclCmds.filter (fun z => !(z.petal == p && z.tag == c.tag)) }
      ∃ t, Answers (.sclAbort m) m s t replyOk ∧ findScl t p c.tag = none ∧ getScl t p n = some { q with ring := recordedRing q.ring } ∧
        t.mem = (recorded b p q.ring n c.tag stAborted (sqHeadOf rest q) 0x8E).mem) ∧
    (c.begun.isSome = true → scOp c = 1 → ∃ t, Answers (.sclAbort m) m s t replyOk ∧ findScl t p c.tag = none) ∧
    (c.begun.isSome = true → scOp c ≠ 1 → exec (.sclAbort m) s = .next (postPending cmdSclAbort m (.taskEnd p c.tag false) none (fresh b)))) ∧
  (∀ (s : State) (m : Mbx) (v : Vol), Served cmdSclAbort m s →
    let b := begun cmdSclAbort m s
    let p := m.page.val
    mf m 0x10 0 12 = 0xFFF → testWithTag b p (mf m 0x14 0 13) = some v → v.petal = p →
    ∃ t, Answers (.sclAbort m) m s t replyOk ∧ getVol t p v.num = some { v with test := none, idleAt := b.elapsed } ∧ t.mem = s.mem) ∧
  (∀ (s : State) (m : Mbx) (q : SclQp), Served cmdSclGetLog m s →
    let b := begun cmdSclGetLog m s
    let p := m.page.val
    let a := mf m 0x18 0 48
    getScl b p (mf m 0x10 0 12) = some q → a % 64 = 0 → memOpen b p a (logPage b q).length = true →
    ∃ t, Answers (.sclGetLog m) m s t (replyData (logPage b q).length 4) ∧ t = memPut b p a (logPage b q) ∧
      (logPage b q).length = 64 + 8 * ((q.log.map (·.entries)).getD []).length) ∧
  (∀ (s : State) (m : Mbx) (q : SclQp), Served cmdSclRestart m s →
    let b := begun cmdSclRestart m s
    let p := m.page.val
    let n := mf m 0x10 0 12
    let head := mf m 0x10 16 16
    getScl b p n = some q → q.petal = p → q.num = n →
    (q.frozen = true → head < 2 ^ q.ring.sqLog → (head + 2 ^ q.ring.sqLog - q.ring.sqHead) % 2 ^ q.ring.sqLog ≤ ringOffered q.ring →
      (sclOf b p n = [] → Answers (.sclRestartQueue m) m s { b with
        sclQps := put b.sclQps (sclKey p n) { q with frozen := false, ring := { q.ring with sqHead := head } } } replyOk) ∧
      (sclOf b p n ≠ [] → exec (.sclRestartQueue m) s = .next (postPending cmdSclRestart m .again none b))) ∧
    (q.frozen = false → Answers (.sclRestartQueue m) m s b (replyErr stInvalidArgument 0x8C))) ∧
  (∀ (s : State) (m : Mbx) (x : Petal), Served cmdSclIdentify m s →
    let b := begun cmdSclIdentify m s
    let v := (getVol b m.page.val (mf m 0x10 0 8)).filter volReady
    let blocks := (v.map vCapacity).getD 0
    let seconds := if v.isSome then 120 + (4096 * blocks + 1999999999) / 2000000000 else 0
    getPetal b m.page.val = some x → v.isSome = true ∨ mf m 0x10 0 8 = 0xFF →
    Answers (.sclIdentify m) m s b (replyData (0x0100 + recScroll x.record * 2 ^ 16 + 65536 * 2 ^ 32 + 4096 * 2 ^ 64 + 4096 * 2 ^ 96 +
      3 * 2 ^ 112 + 65536 * 2 ^ 128 + 5 * 2 ^ 160 + 50 * 2 ^ 176 + blocks % 2 ^ 64 * 2 ^ 192 + seconds % 2 ^ 32 * 2 ^ 256 + 120 * 2 ^ 288) 0x28))

/-- R341, R343 to R346, R348, R349, R355: a Scroll command in its course: the device takes a valid entry, and freezes the queue at an
invalid one; the command begins in its order; READ, WRITE, FLUSH, TRIM, COPY and FENCE have their effects on the volume's cache and on
memory, and the record follows; a target's silence fails the command and freezes the queue. Where the rules leave it open, it states the
choices of log entries 31 and 32, which are the model's. -/
def Obligations.ScrollCommands : Prop :=
  (∀ (s : State) (p : PetalId) (n : BitVec 12) (x : Petal) (q : SclQp), getPetal s p.val = some x → getScl s p.val n.toNat = some q →
    q.petal = p.val → q.num = n.toNat → x.st = .active → q.frozen = false → q.ring.closing = false → 0 < ringOffered q.ring →
    ringFree q.ring = true →
    let a := q.ring.sqPda + 64 * q.ring.sqHead
    let e := memNat (fresh s) p.val a 64
    let next := (q.ring.sqHead + 1) % 2 ^ q.ring.sqLog
    inPda a → poisonIn s p.val a 64 = none →
    (sclCheck s q x e = none →
      ∃ t, exec (.sclCmdAccept p n) s = .next t ∧
        t.sclCmds = s.sclCmds ++ [⟨p.val, n.toNat, seTag e, q.ring.sqHead, BitVec.ofNat 512 e, none⟩] ∧
        getScl t p.val n.toNat = some { q with ring := ringTake q.ring } ∧
        (getPetal t p.val).map (fun z => look z.tags (seTag e)) = some (some .scroll) ∧ t.mem = s.mem) ∧
    (∀ f, sclCheck s q x e = some f → sclOf s p.val n.toNat = [] → inPda (q.ring.cqPda + 32 * q.ring.cqTail) →
      ∃ t, exec (.sclCmdAccept p n) s = .next t ∧ t.sclCmds = s.sclCmds ∧
        getScl t p.val n.toNat = some { q with
          frozen := true
          log := some ⟨q.ring.sqHead, seTag e, f.1, f.2, next, s.elapsed, [(q.ring.sqHead, seTag e, seOp e, 3)]⟩
          ring := { ringAdvance (ringTake q.ring) with reserved := q.ring.reserved } } ∧
        t.mem = (recorded s p.val q.ring n.toNat (seTag e) f.1 next f.2).mem)) ∧
  (∀ (s : State) (p : PetalId) (tag : BitVec 13) (x : Petal) (q : SclQp) (c : SclCmd), findScl s p.val tag.toNat = some c →
    getPetal s p.val = some x → getScl s p.val c.qp = some q → sclMayBegin s c = true → x.st = .active → keyPresent s p.val = true →
    scOp c ≠ 2 ∨ inPda (seBuf c.raw.toNat) →
    exec (.sclCmdBegin p tag) s = .next { s with
      sclCmds := s.sclCmds.map (fun z => if z.petal = p.val ∧ z.tag = tag.toNat then { z with begun := some s.elapsed } else z) }) ∧
  (∀ (s : State) (p : PetalId) (tag : BitVec 13) (ok : Bool) (q : SclQp) (c : SclCmd), findScl s p.val tag.toNat = some c →
    getScl s p.val c.qp = some q → q.petal = p.val → q.num = c.qp → q.frozen = false → q.ring.closing = false → s.waiters = [] →
    inPda (q.ring.cqPda + 32 * q.ring.cqTail) →
    let e := c.raw.toNat
    let b := fresh s
    let rest := { s with sclCmds := s.sclCmds.filter (fun z => !(z.petal == p.val && z.tag == c.tag)) }
    let done (u : State) (blocks : Nat) : State := recorded u p.val q.ring c.qp c.tag stOk (sqHeadOf rest q + blocks % 2 ^ 32 * 2 ^ 32) 0
    (scOp c = 6 → fenceDone s c = true →
      ∃ t, exec (.sclCmdComplete p tag ok) s = .next t ∧ findScl t p.val tag.toNat = none ∧ t.mem = (done s 0).mem) ∧
    (∀ v, getVol s p.val (seVol e) = some v → v.petal = p.val → v.num = seVol e → c.begun.isSome = true → sclCanEnd s c v = true →
      sclTrouble s c q v ok = none → rising v.cache = true →
      (∀ place : Nat → CBlk, scOp c = 1 → inPda (seBuf e) → (∀ i, i < seBlocks e → look v.cache (seLba e + i) = some (place i)) →
        ∃ t, exec (.sclCmdComplete p tag ok) s = .next t ∧ findScl t p.val tag.toNat = none ∧
          t.mem = (done (memPut s p.val (seBuf e)
            ((List.range (seBlocks e)).flatMap (fun i => memRead b p.val (cachedAt v (place i)) 4096))) (seBlocks e)).mem) ∧
      (∀ k, scOp c = 2 → seFua e = false → inPda (seBuf e) → seBlocks e = 1 → look v.cache (seLba e) = some k →
        ∃ t z, exec (.sclCmdComplete p tag ok) s = .next t ∧ findScl t p.val tag.toNat = none ∧ getVol t p.val (seVol e) = some z ∧
          look z.cache (seLba e) = some { k with dirty := true, used := v.clock } ∧
          t.mem = (done (memPut s p.val (cachedAt v k) (memRead b p.val (seBuf e) 4096)) 1).mem) ∧
      (scOp c = 3 → (∀ g ∈ v.cache, poisonIn s p.val (cachedAt v g.2) 4096 = none) →
        ∃ t z, exec (.sclCmdComplete p tag ok) s = .next t ∧ findScl t p.val tag.toNat = none ∧ getVol t p.val (seVol e) = some z ∧
          (∀ g ∈ z.cache, g.2.dirty = false) ∧ z.cache.map (·.1) = v.cache.map (·.1) ∧ t.mem = (done s 0).mem) ∧
      (scOp c = 4 →
        ∃ t z, exec (.sclCmdComplete p tag ok) s = .next t ∧ findScl t p.val tag.toNat = none ∧ getVol t p.val (seVol e) = some z ∧
          (∀ g, g ∈ z.cache ↔ g ∈ v.cache ∧ ¬(seLba e ≤ g.1 ∧ g.1 < seLba e + seBlocks e)) ∧ t.mem = (done s (seBlocks e)).mem) ∧
      (∀ k d, scOp c = 5 → seBlocks e = 1 → seLba e ≠ seDest e → look v.cache (seLba e) = some k → look v.cache (seDest e) = some d →
        ∃ t z, exec (.sclCmdComplete p tag ok) s = .next t ∧ findScl t p.val tag.toNat = none ∧ getVol t p.val (seVol e) = some z ∧
          (look z.cache (seDest e)).map (·.dirty) = some true ∧
          t.mem = (done (memPut s p.val (cachedAt v d) (memRead b p.val (cachedAt v k) 4096)) 1).mem))) ∧
  (∀ (s : State) (p : PetalId) (tag : BitVec 13) (q : SclQp) (c : SclCmd) (v : Vol) (since : W64), findScl s p.val tag.toNat = some c →
    getScl s p.val c.qp = some q → q.petal = p.val → q.num = c.qp → q.ring.closing = false → getVol s p.val (seVol c.raw.toNat) = some v →
    c.begun = some since → needsTarget v c.raw.toNat = true → (scOp c = 2 → sclCanEnd s c v = true) →
    since.toNat * 10 + 8000000000 ≤ s.elapsed.toNat * 10 →
    ∃ t, exec (.sclTargetTimeout p tag) s = .next t ∧ findScl t p.val tag.toNat = none ∧ (getScl t p.val c.qp).map (·.frozen) = some true)

/-- R353 to R358: volumes: creation and destruction wait for the targets, and a silent one fails the creation; destage writes the oldest
dirty blocks back, or notes a failure; Keep Alive goes to every extent; an idle volume goes down a level; a self-test runs, yields, resumes
and ends. Where the rules leave it open, it states the choices of log entries 31 and 32, which are the model's. -/
def Obligations.Volumes : Prop :=
  (∀ (s : State) (m : Mbx) (x : Petal), Served cmdSclVolCreate m s →
    let b := fresh (begun cmdSclVolCreate m s)
    let p := m.page.val
    let v := volIn b m
    getPetal b p = some x → volCheck b v x = none →
    (∀ r, (pinRange (touch b p (vTable v) (64 * v.exts.length)) p (rangePages (vCache v) (vMib v * 2 ^ 20)) 2).2 = .reply r → r.status = stOk) →
    ∃ t l, exec (.sclVolCreate m) s = .next (postPending cmdSclVolCreate m (.backing p v.num) none t) ∧ getVol t p v.num = some v ∧
      v.connecting = true ∧ t.sent = l ++ (List.range v.exts.length).map (fun i => .nvme p v.num i 1)) ∧
  (∀ (s : State) (m : Mbx) (v : Vol), Served cmdSclVolDestroy m s →
    let b := begun cmdSclVolDestroy m s
    let p := m.page.val
    let n := mf m 0x10 0 8
    getVol b p n = some v → v.petal = p → v.num = n → v.connecting = false →
    (volCmds b p n = [] → v.test = none →
      exec (.sclVolDestroy m) s = .next (postPending cmdSclVolDestroy m (.backing p n) none
        { b with vols := put b.vols (volKey p n) { v with closing := true } })) ∧
    (volCmds b p n ≠ [] ∨ v.test.isSome = true → Answers (.sclVolDestroy m) m s b (replyErr stBusy 0x84))) ∧
  (∀ (s : State) (p : PetalId) (n : Fin 256) (v : Vol), getVol s p.val n.val = some v → v.petal = p.val → v.num = n.val →
    (v.connecting = true → v.since.toNat * 10 + 10000000000 ≤ s.elapsed.toNat * 10 → rising s.vols = true →
      ∃ t, exec (.sclConnectTimeout p n) s = .next t ∧ getVol t p.val n.val = none ∧ t.sclCmds = s.sclCmds) ∧
    (v.connecting = false → v.keptAt.toNat * 10 + 5000000000 ≤ s.elapsed.toNat * 10 →
      exec (.sclKeepAlive p n) s = .next { s with
        vols := put s.vols (volKey p.val n.val) { v with keptAt := s.elapsed }
        sent := s.sent ++ (List.range v.exts.length).map (fun i => .nvme p.val n.val i 0) })) ∧
  (∀ (s : State) (p : PetalId) (n : Fin 256) (ok : Bool) (x : Petal) (v : Vol), getVol s p.val n.val = some v → v.petal = p.val →
    v.num = n.val → getPetal s p.val = some x → x.st = .active → keyPresent s p.val = true → v.connecting = false → v.closing = false →
    rising v.cache = true →
    let oldest := (dirtyBlocks s v).take (destageCount v)
    let cleaned (t : State) (blocks : List Nat) : Prop :=
      ∃ z, getVol t p.val n.val = some z ∧ z.failedAt = none ∧
        (∀ g k, look v.cache g = some k → look z.cache g = some (if g ∈ blocks then { k with dirty := false } else k)) ∧ t.mem = s.mem
    let failed := { s with vols := put s.vols (volKey p.val n.val) { v with failedAt := some s.elapsed, failures := v.failures + 1 } }
    (v.failedAt = none → destageDue s v = true → oldest ≠ [] →
      (ok = true → backed s v = true → ∃ t, exec (.sclDestageStart p n ok) s = .next t ∧ cleaned t oldest) ∧
      (ok = false ∨ backed s v = false → exec (.sclDestageStart p n ok) s = .next failed)) ∧
    (∀ since, v.failedAt = some since → since.toNat * 10 + 1000000000 ≤ s.elapsed.toNat * 10 → dirtyBlocks s v ≠ [] →
      (ok = true → backed s v = true → ∃ t, exec (.sclDestageRetry p n ok) s = .next t ∧ cleaned t (dirtyBlocks s v)) ∧
      (ok = false ∨ backed s v = false → exec (.sclDestageRetry p n ok) s = .next failed))) ∧
  (∀ (s : State) (p : PetalId) (n : Fin 256) (v : Vol), getVol s p.val n.val = some v → v.petal = p.val → v.num = n.val →
    v.connecting = false → v.closing = false → volCmds s p.val n.val = [] →
    let set (z : Vol) : State := { s with vols := put s.vols (volKey p.val n.val) z }
    (v.test = none → (∀ g ∈ v.cache, g.2.dirty = false) → v.level < 2 → vW2 v ≠ 0 →
      v.idleAt.toNat * 10 + vW2 v * 1000000 ≤ s.elapsed.toNat * 10 → exec (.sclVolIdle p n) s = .next (set { v with level := 2 })) ∧
    (v.test = none → (∀ g ∈ v.cache, g.2.dirty = false) → v.level = 0 → vW2 v = 0 → vW1 v ≠ 0 →
      v.idleAt.toNat * 10 + vW1 v * 1000 ≤ s.elapsed.toNat * 10 → exec (.sclVolIdle p n) s = .next (set { v with level := 1 })) ∧
    (∀ k, v.test = some k → k.yielded = true → v.idleAt.toNat * 10 + 1000000 ≤ s.elapsed.toNat * 10 →
      exec (.sclSelfTestResume p n) s = .next (set { v with test := some { k with yielded := false } }))) ∧
  (∀ (s : State) (m : Mbx) (v : Vol), Served cmdSclSelfTest m s →
    let b := begun cmdSclSelfTest m s
    let p := m.page.val
    let n := mf m 0x10 0 8
    let kind := mf m 0x10 8 2
    getVol b p n = some v → v.petal = p → v.num = n → v.connecting = false → v.closing = false → kind = 1 ∨ kind = 2 →
    (v.test = none → exec (.sclSelfTest m) s = .next (postPending cmdSclSelfTest m (.objEnd p 14 n) none { b with
      vols := put b.vols (volKey p n) { v with level := 0, test := some ⟨m.tag.toNat, kind, !(volCmds b p n).isEmpty⟩ }
      sent := b.sent ++ (List.range v.exts.length).map (fun i => .nvme p n i 6) })) ∧
    (v.test.isSome = true → Answers (.sclSelfTest m) m s b (replyErr stBusy 0x93))) ∧
  (∀ (s : State) (p : PetalId) (n : Fin 256) (bad : Option (BitVec 63)) (v : Vol) (k : SelfTest), getVol s p.val n.val = some v →
    v.petal = p.val → v.num = n.val → v.test = some k → k.yielded = false → poisonIn s p.val (vCache v) (vMib v * 2 ^ 20) = none →
    (∀ g ∈ v.cache, poisonIn s p.val (cachedAt v g.2) 4096 = none) → backed s v = true →
    ∃ t, exec (.sclSelfTestComplete p n bad) s = .next t ∧ getVol t p.val n.val = some { v with test := none, idleAt := s.elapsed } ∧
      t.mem = s.mem ∧ ∀ g, (getPage t g).pends = (getPage s g).pends.map (fun q => if q.why = .objEnd p.val 14 n.val ∧ q.outcome = none then
        { q with outcome := some (replyData (match bad with | some b => 2 ^ 63 + b.toNat | none => 0) 8) } else q))

/-- R363, R367 to R369, R372 to R374: a frame that comes in at a port whose link is up is counted, and refused by its length, its check
sequence or its kind; a malformed frame, a slow-path frame and a classified frame each take their course; NET_PORT_QUERY and PRS_RULE_GET
report the port and the rule. Where the rules leave it open, it states the choices of log entry 35, which are the model's. -/
def Obligations.FramesReceived : Prop :=
  (∀ (s : State) (j : Fin 32) (f : List Byte),
    let x := getPort s j.val
    let o := exec (.ethFrameReceive j f) s
    let got := count (count s kNetPort j.val 0 1) kNetPort j.val 1 f.length
    let p := parseFrame f
    let sized := 64 ≤ f.length ∧ f.length ≤ 9600
    let sound := leNat (f.drop (f.length - 4)) = crc32 (f.take (f.length - 4))
    let pause := beAt f 12 2 = 0x8808 ∧ (beAt f 14 2 = 1 ∨ beAt f 14 2 = 0x0101)
    let slow (u : State) : State :=
      if (x.slow.map List.length).foldl (· + ·) 0 + f.length ≤ 1048576 then setPort (count u kNetPort j.val 8 1) j.val { x with slow := x.slow ++ [f] }
      else count (count u kNetPort j.val 8 1) kNetPort j.val 9 1
    (x.link ≠ 2 → o = .next s) ∧
    (x.link = 2 →
      (¬sized → o = .next (count s kNetPort j.val 5 1)) ∧
      (sized → ¬sound → o = .next (count s kNetPort j.val 4 1)) ∧
      (sized → sound → pause → o = .next (count got kNetPort j.val 6 1)) ∧
      (sized → sound → ¬pause →
        (p.malformed = true →
          (x.malformed = 0 → o = .next (count got kNetPort j.val 7 1)) ∧
          (x.malformed = 1 → egressRoom s x.mirrorPort x.mirrorQueue = true →
            o = .next (enqueue (count got kNetPort j.val 7 1) x.mirrorPort x.mirrorQueue ⟨0x1FF, f⟩)) ∧
          (x.malformed = 2 → o = .next (slow (count got kNetPort j.val 7 1)))) ∧
        (p.malformed = false → p.slow = true → o = .next (slow got)) ∧
        (p.malformed = false → p.slow = false →
          let passed (u : State) (setQ : Option Nat) (o : Host.Outcome State Fault Refusal) : Prop :=
            let q := setQ.getD (if p.v4 || p.v6 then bitsOf x.dscpMap.toNat (3 * p.dscp) 3 else 0) % 8
            let i := 24 * j.val + 16 + q
            let last := 24 * j.val + 16 + 7
            (p.roce = true → ∀ g, x.ingress.toList[q]? = some g →
              let held := (g.frames.map (·.len)).foldl (· + ·) 0
              (held < g.limit → ingressBytes x < 524288 → o = .next
                (setPort (count (count u kNetQueue i 0 1) kNetQueue i 1 f.length) j.val
                  { x with ingress := modV x.ingress q (fun g => { g with frames := g.frames ++ [⟨f.length, rocePkt f p⟩] }) })) ∧
              (g.limit ≤ held → o = .next (count u kNetQueue i 2 1))) ∧
            (p.roce = false → p.ptp = true → o = .next (count (count u kNetQueue last 0 1) kNetQueue last 1 f.length)) ∧
            (p.roce = false → p.ptp = false → slowKind p = true →
              o = .next (slow (count (count u kNetQueue i 0 1) kNetQueue i 1 f.length))) ∧
            (p.roce = false → p.ptp = false → slowKind p = false → o = .next (count u kNetPort j.val 10 1))
          (classify s.net.rules s.net.ranges 0 j.val f p 0x1FF = none → passed got none o) ∧
          (∀ i a, classify s.net.rules s.net.ranges 0 j.val f p 0x1FF = some (i, a) →
            let hit := count (count got kPrsRule i 0 1) kPrsRule i 1 f.length
            (actKind a = 0 → passed hit (if actSetQueue a then some (actQueue a) else none) o) ∧
            (actKind a = 1 → o = .next (count hit kNetPort j.val 11 1)) ∧
            (actKind a = 2 → o = .next (slow hit)) ∧
            (actKind a = 3 → egressRoom s (actMirrorPort a) (actMirrorQueue a) = true → actMirrorPort a ≠ j.val →
              passed (enqueue hit (actMirrorPort a) (actMirrorQueue a) ⟨0x1FF, f⟩) (if actSetQueue a then some (actQueue a) else none) o) ∧
            (actKind a = 4 →
              (egressRoom s (actMirrorPort a) (actMirrorQueue a) = true →
                o = .next (count (enqueue hit (actMirrorPort a) (actMirrorQueue a) ⟨0x1FF, f⟩) kNetPort j.val 11 1)) ∧
              (egressRoom s (actMirrorPort a) (actMirrorQueue a) = false →
                o = .next (count (count hit kNetPort (actMirrorPort a) 14 1) kNetPort j.val 11 1)))))))) ∧
  (∀ (rules : Tbl (BitVec 1024)) (i : Nat) (r : BitVec 1024) (ranges : Tbl (BitVec 64)) (dir port petal : Nat) (f : List Byte) (p : Parsed),
    rising rules = true → look rules i = some r → ruleMatches ranges r.toNat dir port (frameKey f p petal) p = true →
    (∀ k z, k < i → look rules k = some z → ruleMatches ranges z.toNat dir port (frameKey f p petal) p = false) →
    classify rules ranges dir port f p petal = some (i, bitsOf r.toNat 896 128)) ∧
  (∀ (s : State) (m : Mbx), Served cmdNetPortQuery m s →
    let b := begun cmdNetPortQuery m s
    let j := mf m 0x10 0 5
    let x := getPort b j
    let t := portTime b x
    (j < 4 * 2 ^ b.net.mode → x.lanes < 16 → x.link < 4 → x.ptp = false →
      Answers (.netPortQuery m) m s b (replyData (x.link + x.lanes * 2 ^ 2 + x.failed % 256 * 2 ^ 8 + 200 * x.lanes * 2 ^ 32 +
        (Config.macBase.toNat * 32 + j) % 2 ^ 48 * 2 ^ 64 + t / 8000000000 * 2 ^ 128 + t / 8 % 1000000000 * 2 ^ 192 + t % 8 * 2 ^ 224) 0x28)) ∧
    (4 * 2 ^ b.net.mode ≤ j → Answers (.netPortQuery m) m s b (replyErr stInvalidArgument 0x80))) ∧
  (∀ (s : State) (m : Mbx), Served cmdPrsRuleGet m s →
    let b := begun cmdPrsRuleGet m s
    Answers (.prsRuleGet m) m s b (replyData (lookD b.net.rules (mf m 0x10 0 13) 0).toNat 0x80))

/-- R365, R375, R377, R378, R380, R382, R383 to R385: a port's link comes up on its widest passing group of lanes and goes down; port time
is steered or stepped; a gate list takes over at its cycle start and its position follows the time; a limiter releases its oldest frame at
the eligible time; device traffic is queued; and the port sends the frame that its queues' order gives. Where the rules leave it open, it
states the choices of log entries 35 and 36, which are the model's. -/
def Obligations.PortCourse : Prop :=
  (∀ (s : State) (j : Fin 32) (failed : BitVec 8) (cr : Bool) (accepts : BitVec 9),
    let x := getPort s j.val
    let n := 8 / 2 ^ s.net.mode
    let f := failed.toNat % 2 ^ n
    let passes (w : Nat) : Prop := w ≠ 0 ∧ ∃ k < n / w, bitsOf f (k * w) w = 0
    x.enable = true → j.val < 4 * 2 ^ s.net.mode → x.link ≠ 2 → s.ready = true → s.pwr.module = 0 → ethRefGood s = true → s.net.mode < 4 →
    let up (w : Nat) (t : State) : Prop := exec (.portLinkUp j failed cr accepts) s = .next t ∧ getPort t j.val = { x with link := 2, lanes := w, failed := f }
    let stays (t : State) : Prop := exec (.portLinkUp j failed cr accepts) s = .next t ∧ getPort t j.val = { x with link := 0, lanes := 0, failed := f }
    (f = 0 → ∃ t, up n t ∧ t = setPort s j.val { x with link := 2, lanes := n, failed := 0 }) ∧
    (∀ w, f ≠ 0 → cr = true → w ∈ [n / 2, n / 4, n / 8] → passes w → (∀ v ∈ [n / 2, n / 4, n / 8], w < v → ¬passes v) →
      (bitAt accepts.toNat w = true → ∃ t, up w t) ∧ (bitAt accepts.toNat w = false → ∃ t, stays t)) ∧
    (f ≠ 0 → (cr = false ∨ ∀ v ∈ [n / 2, n / 4, n / 8], ¬passes v) → ∃ t, stays t) ∧
    (f ≠ 0 → ∃ t, exec (.portLinkUp j failed cr accepts) s = .next t ∧ s.logSeq < t.logSeq)) ∧
  (∀ (s : State) (j : Fin 32),
    let x := getPort s j.val
    (x.link = 2 → exec (.portLinkDown j) s = .next (count (setPort s j.val { x with link := 0, lanes := 0 }) kNetPort j.val 17 1)) ∧
    (x.link = 1 → exec (.portLinkDown j) s = .next (setPort s j.val { x with link := 0, lanes := 0 }))) ∧
  (∀ (s : State) (j : Fin 32) (offset : BitVec 64) (ppb : BitVec 32),
    let x := getPort s j.val
    x.ptp = true →
    (offset.toInt.natAbs ≤ 1000 → -500000 ≤ ppb.toInt → ppb.toInt ≤ 500000 →
      exec (.ptpClockAdjust j offset ppb) s = .next (setPort s j.val { x with
        offset := offset.toInt
        time := portTime s x
        timeAt := s.elapsed
        ppb := ppb.toInt })) ∧
    (1000 < offset.toInt.natAbs → x.gate = none → x.gateNext = none →
      exec (.ptpClockAdjust j offset ppb) s = .next (setPort s j.val { x with
        offset := offset.toInt
        time := ((portTime s x : Int) - 8 * offset.toInt).toNat
        timeAt := s.elapsed }))) ∧
  (∀ (s : State) (j : Fin 32) (g : GateList),
    let x := getPort s j.val
    let now := portNs s x
    0 < g.cycle →
    (x.gate = some g → g.base ≤ now → ∀ i e before, g.entries[i]? = some e → before = ((g.entries.take i).map (·.2)).foldl (· + ·) 0 →
      before ≤ (now - g.base) % g.cycle → ((now - g.base) % g.cycle < before + e.2 ∨ i + 1 = g.entries.length) →
      exec (.gateEntryExpiry j) s = .next (setPort s j.val { x with
        gateIdx := i
        gateFrom := now - (now - g.base) % g.cycle + before })) ∧
    (x.gateNext = some g → x.gateAt ≤ now →
      ∃ t, exec (.gateListTakeover j) s = .next t ∧ (getPort t j.val).gate = some g ∧ (getPort t j.val).gateNext = none ∧
        ((getPort t j.val).gateIdx, (getPort t j.val).gateFrom) = gatePosition g now) ∧
    (x.gateNext = some g → now < x.gateAt → exec (.gateListTakeover j) s = .next s)) ∧
  (∀ (s : State) (i : Fin 16384) (h : Held) (hs : List Held),
    let l := getLimiter s i.val
    let now := s.elapsed.toNat * 10000
    l.held = h :: hs →
    (h.second = false → l.tat ≤ now + l.burst * 8000000 / l.rate → egressRoom s h.port h.queue = true →
      exec (.limiterRelease i) s = .next (enqueue (setLimiter s i.val { l with
        tat := max l.tat now + (h.frame.bytes.length + 20) * 8000000 / l.rate
        held := hs }) h.port h.queue h.frame)) ∧
    (now + l.burst * 8000000 / l.rate < l.tat → exec (.limiterRelease i) s = .next s) ∧
    (l.tat ≤ now + 262144000 + l.burst * 8000000 / l.rate →
      exec (.wheelCascade i) s = .next (setLimiter s i.val { l with held := l.held.map (fun h => { h with second := false }) })) ∧
    (now + 262144000 + l.burst * 8000000 / l.rate < l.tat → exec (.wheelCascade i) s = .next s)) ∧
  (∀ (s : State) (j : Fin 32) (seq : W16),
    let x := getPort s j.val
    let m := macOf j.val
    let f := ethFrame 0x011B19000000 m 0 0x88F7 (beB 1 1 ++ beB 1 2 ++ beB 2 44 ++ beB 1 x.domain ++ List.replicate 15 0 ++
      (beB 3 (m / 2 ^ 24) ++ beB 2 0xFFFE ++ beB 3 (m % 2 ^ 24) ++ beB 2 1) ++ beB 2 seq.toNat ++ beB 1 1 ++ beB 1 0x7F ++ List.replicate 10 0)
    x.ptp = true → x.link = 2 → sendRoom s j.val 0 = true →
    classify s.net.rules s.net.ranges 1 j.val f (parseFrame f) 0x1FF = none →
    exec (.delayRequest j seq) s = .next (enqueue s j.val 0 ⟨0x1FF, f⟩)) ∧
  (∀ (s : State) (j : Fin 32) (f : List Byte) (fs : List (List Byte)),
    let x := getPort s j.val
    let done := setPort s j.val { x with slow := fs }
    x.slow = f :: fs →
    (∀ r, slowReply s j.val f = some r → sendRoom s j.val 0 = true → classify s.net.rules s.net.ranges 1 j.val r (parseFrame r) 0x1FF = none →
      exec (.slowPathFrame j) s = .next (enqueue done j.val 0 ⟨0x1FF, r⟩)) ∧
    (slowReply s j.val f = none →
      exec (.slowPathFrame j) s = .next (logEvent done 4 0 "slow-path discard" j.val 0xFFFF (leBytes 16 f.length)))) ∧
  (∀ (s : State) (j : Fin 32) (pick : Fin 512) (q : Nat) (e : EgressQ) (f : TxFrame) (fs : List TxFrame),
    let x := getPort s j.val
    let len := f.bytes.length + 20
    let tokens := min (e.burst * 8000) (e.tokens + (s.elapsed - e.tokensAt).toNat * 10 * e.rate)
    x.link = 2 → x.gate = none → (∀ k ∈ s.rdma.qps, qPort k.2 ≠ j.val) → x.egress.toList[q]? = some e → e.frames = f :: fs →
    (f.petal = pick.val ∨ ∀ g ∈ e.frames, g.petal ≠ pick.val) → e.rate = 0 ∨ len * 8000 ≤ tokens →
    (∀ k < 3, k ≠ q → ∀ g, x.egress.toList[k]? = some g → g.frames = []) →
    let sends (deficit : Nat) : Prop := ∃ (t : State) (y : NetPort), exec (.ethFrameTransmit j pick) s = .next t ∧ t.sent = s.sent ++ [.frame j.val f.bytes] ∧
      getPort t j.val = { y with egress := modV x.egress q (fun e =>
        { e with
          frames := fs
          deficit := if fs.isEmpty then 0 else deficit
          tokens := if e.rate = 0 then 0 else tokens - len * 8000
          tokensAt := s.elapsed }) } ∧
      y = { x with turn := y.turn, visited := y.visited } ∧ t.mem = s.mem ∧ t.rdma = s.rdma ∧
      countVal t kNetPort j.val 2 = (countVal s kNetPort j.val 2 + 1) % 2 ^ 64
    (q < 3 → sends e.deficit) ∧
    (3 ≤ q → x.turn = q → x.visited = false → len ≤ e.deficit + 64 * e.quantum → sends (e.deficit + 64 * e.quantum - len)) ∧
    (3 ≤ q → x.turn = q → x.visited = true → len ≤ e.deficit → sends (e.deficit - len)))

/-- R393, R396 to R401: the commands of the RDMA engine on a petal's own page set the label, create and remove completion queues and queue
pairs, connect, query and destroy a queue pair; the doorbells move a ring's tail or head, and what they ignore is counted. Where the rules
leave it open, it states the choices of log entries 30 and 34, which are the model's. -/
def Obligations.QueuePairs : Prop :=
  (∀ (s : State) (m : Mbx), Served cmdRdmLabelSet m s →
    let b := begun cmdRdmLabelSet m s
    ∃ t, Answers (.rdmLabelSet m) m s t replyOk ∧ t = { b with rdma := { b.rdma with labels := t.rdma.labels } } ∧
      lookD t.rdma.labels m.page.val 0 = BitVec.ofNat 64 (mf m 0x10 0 64) ∧ ∀ q, q ≠ m.page.val → look t.rdma.labels q = look s.rdma.labels q) ∧
  (∀ (s : State) (m : Mbx), Served cmdRdmCqCreate m s →
    let b := begun cmdRdmCqCreate m s
    let p := m.page.val
    let n := mf m 0x10 0 12
    let l := mf m 0x14 0 8
    let v := mf m 0x14 16 16
    getCq b p n = none → mf m 0x10 16 4 < 4 ∨ mf m 0x10 16 4 = 0xF → 4 ≤ l → l ≤ 16 →
    bufOk b p (mf m 0x10 16 4) (mf m 0x18 0 64) (32 * 2 ^ l) = true → mf m 0x18 0 64 % 64 = 0 → v = 0xFFFF ∨ look b.msixOwner v = some p →
    ∃ t c, Answers (.rdmCqCreate m) m s t replyOk ∧ t = { b with rdma := { b.rdma with cqs := t.rdma.cqs } } ∧ getCq t p n = some c ∧
      c = ⟨c.cfg, 0, 0, 0, 0, 0, true⟩ ∧ cqSize c = 2 ^ l ∧ cqAddr c = mf m 0x18 0 64 ∧ cqBind c = mf m 0x10 16 4 ∧ cqMsix c = v ∧
      ∀ k, k ≠ cqKey p n → look t.rdma.cqs k = look s.rdma.cqs k) ∧
  (∀ (s : State) (m : Mbx) (c : RdmCq), Served cmdRdmCqDestroy m s →
    let b := begun cmdRdmCqDestroy m s
    let p := m.page.val
    let n := mf m 0x10 0 12
    getCq b p n = some c → rising b.rdma.cqs = true →
    ((∀ e ∈ b.rdma.qps, e.2.petal = p → qCq e.2 ≠ n) →
      ∃ t, Answers (.rdmCqDestroy m) m s t replyOk ∧ t = { b with rdma := { b.rdma with cqs := t.rdma.cqs } } ∧ getCq t p n = none ∧
        ∀ k, k ≠ cqKey p n → look t.rdma.cqs k = look s.rdma.cqs k) ∧
    ((∃ e ∈ b.rdma.qps, e.2.petal = p ∧ qCq e.2 = n) → Answers (.rdmCqDestroy m) m s b (replyErr stBusy 0x83))) ∧
  (∀ (s : State) (m : Mbx) (x : Petal), Served cmdRdmQpCreate m s →
    let b := begun cmdRdmQpCreate m s
    let p := m.page.val
    let n := mf m 0x10 0 20
    getPetal b p = some x → qpCreateCheck b m x = none →
    ∃ t wire psn, Answers (.rdmQpCreate m) m s t (replyData (wire + psn * 2 ^ 32) 8) ∧ 0x100 ≤ wire ∧ wire < 2 ^ 24 ∧ psn < 2 ^ 24 ∧
      getQp t p n = some { newQp m wire psn b.elapsed with resident := decide ((residents b p).length < recQpResident x.record) } ∧
      (b.rdma.qps.length + b.rdma.resting.length < 0xFFFF00 → wireFree b wire = true) ∧ (∀ k, k ≠ qpKey p n → look t.rdma.qps k = look s.rdma.qps k) ∧
      t.rdma.cqs = s.rdma.cqs ∧ t.mem = s.mem) ∧
  (∀ (s : State) (m : Mbx) (q : Qp), Served cmdRdmQpConnect m s →
    let b := begun cmdRdmQpConnect m s
    let p := m.page.val
    let n := mf m 0x10 0 20
    getQp b p n = some q → q.petal = p → q.num = n →
    (q.st = .created → (addrV6 (qEntry b q) = true ↔ 2 ^ 32 ≤ mf m 0x20 0 128) →
      Answers (.rdmQpConnect m) m s (setQp b { q with
        st := .ready
        remoteQpn := mf m 0x14 0 24
        ePsn := mf m 0x18 0 24
        remoteIp := BitVec.ofNat 128 (mf m 0x20 0 128) }) replyOk) ∧
    (q.st ≠ .created → Answers (.rdmQpConnect m) m s b (replyErr stInvalidArgument 0x81))) ∧
  (∀ (s : State) (m : Mbx) (q : Qp), Served cmdRdmQpDestroy m s →
    let b := begun cmdRdmQpDestroy m s
    let p := m.page.val
    let n := mf m 0x10 0 20
    getQp b p n = some q → q.petal = p → q.num = n → q.wqes = [] → q.owed = [] → rising b.rdma.qps = true → (∀ e ∈ b.rdma.regions, e.2.closing = false) →
    (q.inbound = none → ∃ t, Answers (.rdmQpDestroy m) m s t replyOk ∧ getQp t p n = none ∧
      t.rdma.resting = s.rdma.resting ++ [(q.wireQpn, b.elapsed + 1000000000)] ∧ (∀ k, k ≠ qpKey p n → look t.rdma.qps k = look s.rdma.qps k) ∧
      t.mem = s.mem) ∧
    (q.inbound.isSome = true → exec (.rdmQpDestroy m) s = .next (postPending cmdRdmQpDestroy m (.objEnd p 2 n) none
      (setQp b { q with
        st := .destroying
        timer := none
        rnrFrom := none })))) ∧
  (∀ (s : State) (m : Mbx) (q : Qp), Served cmdRdmQpQuery m s →
    let b := begun cmdRdmQpQuery m s
    getQp b m.page.val (mf m 0x10 0 20) = some q → Answers (.rdmQpQuery m) m s b (qpQueryReply q)) ∧
  (∀ (s : State) (p : PetalId) (v : W32) (x : Petal), getPetal (awake s) p.val = some x →
    let a := awake s
    let ignored := { a with rdma := { a.rdma with ignored := put a.rdma.ignored p.val (min 0xFFFFFFFF (lookD a.rdma.ignored p.val 0 + 1)) } }
    let n := v.toNat % 2 ^ 20
    let tail := v.toNat / 2 ^ 20
    (∀ q, getQp a p.val n = some q → q.petal = p.val → q.num = n → q.st ≠ .error →
      (tail < qSq q → (q.sqTail + qSq q - q.sqHead) % qSq q ≤ (tail + qSq q - q.sqHead) % qSq q →
        exec (.rdmSqDb p v) s = .next (setQp (fresh a) { q with sqTail := tail })) ∧
      (qSq q ≤ tail ∨ (tail + qSq q - q.sqHead) % qSq q < (q.sqTail + qSq q - q.sqHead) % qSq q → exec (.rdmSqDb p v) s = .next ignored) ∧
      (tail < qRq q → (q.rqTail + qRq q - q.rqHead) % qRq q ≤ (tail + qRq q - q.rqHead) % qRq q →
        exec (.rdmRqDb p v) s = .next (setQp (fresh a) { q with rqTail := tail })) ∧
      (qRq q ≤ tail ∨ (tail + qRq q - q.rqHead) % qRq q < (q.rqTail + qRq q - q.rqHead) % qRq q → exec (.rdmRqDb p v) s = .next ignored)) ∧
    (getQp a p.val n = none → exec (.rdmSqDb p v) s = .next ignored ∧ exec (.rdmRqDb p v) s = .next ignored) ∧
    (∀ c, getCq a p.val (v.toNat % 2 ^ 12) = some c →
      let h := v.toNat / 2 ^ 16
      let d := (h + cqSize c - c.cqHead) % cqSize c
      (h < cqSize c → d ≤ c.used → exec (.rdmCqDb p v) s = .next (setCq a p.val (v.toNat % 2 ^ 12) { c with
        cqHead := h
        used := c.used - d })) ∧
      (cqSize c ≤ h ∨ c.used < d → exec (.rdmCqDb p v) s = .next ignored)))

/-- R407 to R410: registration takes a place pin on every page of its range and answers a key; withdrawal ends at once where no message uses
the region, and otherwise waits; a key admits a range within its region and right, and no key of a region that is withdrawn. Where the rules
leave it open, it states the choices of log entries 3 and 34, which are the model's. -/
def Obligations.MemoryRegions : Prop :=
  (∀ (s : State) (m : Mbx) (x : Petal), Served cmdRdmMrReg m s →
    let b := begun cmdRdmMrReg m s
    let p := m.page.val
    let base := mf m 0x10 0 48
    let len := mf m 0x18 0 48
    let i := freeRegion b p
    let v := lookD b.rdma.variants (regionKey p i) 0
    getPetal b p = some x → base % 64 = 0 → len % 64 = 0 → 64 ≤ len → base + len ≤ slotsOf x * 2 ^ 30 → petalRegions b p < 65536 →
    b.rdma.regions.length < 262144 → placeFits x (rangePages base len) = true → b.moves = [] →
    (placeMoves x (rangePages base len) = false →
      ∃ t z, Answers (.rdmMrReg m) m s t (replyData (i * 256 + v % 256) 4) ∧ getPetal t p = some z ∧
        (∀ g ∈ rangePages base len, pinOf z g = { pinOf x g with place := (pinOf x g).place + 1 }) ∧
        (∀ g, g ∉ rangePages base len → pinOf z g = pinOf x g) ∧
        look t.rdma.regions (regionKey p i) = some ⟨base, len, mf m 0x20 0 1 == 1, mf m 0x20 1 1 == 1, v, false⟩ ∧ i ≤ petalRegions b p ∧
        look s.rdma.regions (regionKey p i) = none ∧ (∀ k, k ≠ regionKey p i → look t.rdma.regions k = look s.rdma.regions k) ∧
        t.mem = s.mem) ∧
    (placeMoves x (rangePages base len) = true →
      ∃ t, exec (.rdmMrReg m) s = .next (postPending cmdRdmMrReg m .work (some (replyData (i * 256 + v % 256) 4)) t) ∧
        look t.rdma.regions (regionKey p i) = some ⟨base, len, mf m 0x20 0 1 == 1, mf m 0x20 1 1 == 1, v, false⟩)) ∧
  (∀ (s : State) (m : Mbx) (r : Region), Served cmdRdmMrDereg m s →
    let b := begun cmdRdmMrDereg m s
    let p := m.page.val
    let key := mf m 0x10 0 32
    let k := regionKey p (key / 256)
    key / 256 < 65536 → look b.rdma.regions k = some r → r.variant = key % 256 → r.closing = false → rising b.rdma.regions = true →
    (∀ e ∈ b.rdma.regions, e.2.closing = false) →
    (regionBusy b p key = false → ∃ t, Answers (.rdmMrDereg m) m s t replyOk ∧ look t.rdma.regions k = none ∧
      lookD t.rdma.variants k 0 = (r.variant + 1) % 256 ∧ (∀ j, j ≠ k → look t.rdma.regions j = look s.rdma.regions j) ∧ t.mem = s.mem) ∧
    (regionBusy b p key = true → exec (.rdmMrDereg m) s = .next (postPending cmdRdmMrDereg m (.objEnd p 3 (key / 256)) none
      { b with rdma := { b.rdma with regions := put b.rdma.regions k { r with closing := true } } }))) ∧
  (∀ (s : State) (m : Mbx) (r : Region), Served cmdRdmMrDereg m s →
    let b := begun cmdRdmMrDereg m s
    let key := mf m 0x10 0 32
    look b.rdma.regions (regionKey m.page.val (key / 256)) = some r → r.variant ≠ key % 256 ∨ r.closing = true ∨ 65536 ≤ key / 256 →
    Answers (.rdmMrDereg m) m s b (replyErr stNotFound 0x86)) ∧
  (∀ (s : State) (q : Qp) (r : Region) (idx addr len : Nat) (write : Bool), idx < 65536 → r.variant < 256 →
    look s.rdma.regions (regionKey q.petal idx) = some r →
    (keyAdmits s q (keyOf idx r.variant) addr len write = true ↔
      r.closing = false ∧ (if write then r.write else r.read) = true ∧ r.base ≤ addr ∧ addr + len ≤ r.base + r.len) ∧
    ∀ v, v < 256 → v ≠ r.variant → keyAdmits s q (keyOf idx v) addr len write = false)

/-- R404, R406, R408, R413, R414: the responder applies a request in PSN order: a WRITE to memory under its key, a SEND to the oldest
receive entry, a READ by its response, a REMOTE_SIGNAL to a counter; it acknowledges, and answers a gap, a missing entry or a refused key by
the NAK of that cause, applying nothing. A frame that is not for a queue pair is dropped and counted. Where the rules leave it open, it
states the choices of log entry 33, which are the model's. -/
def Obligations.RequestPackets : Prop :=
  (∀ (s : State) (j : Fin 32) (g : Nat) (f : RxFrame) (q : Qp), Arrives s j.val g f .request q →
    let k := f.pkt
    let seen := { q with lastUse := s.elapsed }
    let psn := k.psn.toNat
    let o := exec (.rdmPacketReceive j) s
    let nak (syn field : Nat) : Prop := ∃ t, o = .next t ∧ t.mem = s.mem ∧
      QpStep s t q { seen with
        gapNak := syn == 0x60
        unacked := 0
        unackedAt := none } [ackFrame s q q.ePsn syn q.msn] ∧
      (q.petal < 512 → countVal t kRdm q.petal field = (countVal s kRdm q.petal field + 1) % 2 ^ 64)
    let applied (u : State) (bytes : Nat) (q' : Qp) : Prop := ∃ t, o = .next t ∧ t.mem = u.mem ∧
      QpStep s t q (if k.ackReq = true ∨ 16 ≤ q.unacked + 1 then { q' with
          unacked := 0
          unackedAt := none }
        else { q' with
          unacked := q.unacked + 1
          unackedAt := q.unackedAt.or (some s.elapsed) })
        (if k.ackReq = true ∨ 16 ≤ q.unacked + 1 then [ackFrame s q psn 0 ((q.msn + 1) % 2 ^ 24)] else []) ∧
      (q.petal < 512 → countVal t kRdm q.petal 1 = (countVal s kRdm q.petal 1 + 1) % 2 ^ 64 ∧
        countVal t kRdm q.petal 3 = (countVal s kRdm q.petal 3 + bytes) % 2 ^ 64)
    let done := { seen with
      gapNak := false
      ePsn := (q.ePsn + 1) % 2 ^ 24
      msn := (q.msn + 1) % 2 ^ 24 }
    q.ePsn < 2 ^ 24 →
    (psn = q.ePsn → k.opcode = 0x0A → qData q = true → q.inbound = none → k.dmaLen.toNat = k.payload.length → k.payload.length ≤ qMtu q →
      (k.payload = [] ∨ keyAdmits s q k.rkey.toNat k.addr.toNat k.payload.length true = true → applied (memPut s q.petal k.addr.toNat k.payload) k.payload.length done) ∧
      (k.payload ≠ [] → keyAdmits s q k.rkey.toNat k.addr.toNat k.payload.length true = false → nak 0x62 12)) ∧
    (psn = q.ePsn → k.opcode = 0x04 → qControl q = true → q.inbound = none → k.payload.length ≤ qMtu q →
      (q.rqHead = q.rqTail → nak 0x21 7) ∧
      (∀ c, q.rqHead ≠ q.rqTail → q.rqHead < qRq q → getCq s q.petal (qCq q) = some c → cqRoom s q.petal (qCq q) = true →
        inPda (qRqAddr q + 32 * q.rqHead) → bufPoison s q.petal (qRqAddr q + 32 * q.rqHead) 32 = false →
        inPda (cqAddr c + 32 * c.cqTail) →
        let e := recvEntry (fresh s) q q.rqHead
        let at_ := fld e 8 0 64
        recvOk s q e = true → inPda at_ → k.payload.length ≤ fld e 4 0 32 →
        applied (cqRecorded (memPut s q.petal at_ k.payload) q c (fld e 0 0 16) stOk k.payload.length 0 true) k.payload.length
          { done with rqHead := (q.rqHead + 1) % qRq q })) ∧
    (psn = q.ePsn → k.opcode = 0x0C → qData q = true → q.inbound = none → 0 < k.dmaLen.toNat → k.dmaLen.toNat ≤ qMtu q →
      keyAdmits s q k.rkey.toNat k.addr.toNat k.dmaLen.toNat false = true → poisonIn s q.petal k.addr.toNat k.dmaLen.toNat = none →
      ∃ t, o = .next t ∧ t.mem = s.mem ∧ QpStep s t q { done with
        unacked := 0
        unackedAt := none } [roceFrame s q 0x10 false psn 2 (aeth 0 ((q.msn + 1) % 2 ^ 24))
          (memRead (fresh s) q.petal k.addr.toNat k.dmaLen.toNat)]) ∧
    (∀ d, 0 < d → d < 2 ^ 23 → psn = (q.ePsn + d) % 2 ^ 24 →
      (q.gapNak = false → nak 0x60 6) ∧ (q.gapNak = true → ∃ t, o = .next t ∧ t.mem = s.mem ∧ QpStep s t q seen [])) ∧
    (∀ d, 0 < d → d ≤ 2 ^ 23 → psn = (q.ePsn + 2 ^ 24 - d) % 2 ^ 24 → k.opcode ≠ 0x0C →
      ∃ t, o = .next t ∧ t.mem = s.mem ∧ QpStep s t q { seen with
        unacked := 0
        unackedAt := none } [ackFrame s q ((q.ePsn + 2 ^ 24 - 1) % 2 ^ 24) 0 q.msn])) ∧
  (∀ (s : State) (j : Fin 32) (g : Nat) (f : RxFrame) (q : Qp) (x : Petal), Arrives s j.val g f .signal q →
    let k := f.pkt
    let i := k.imm.toNat % 2 ^ 16
    let v := (counterVal x i).toInt + sInt 64 (leNat (k.payload.take 8))
    let label := leNat ((k.payload.drop 8).take 8)
    q.petal < 512 → getPetal s q.petal = some x → k.psn.toNat = q.ePsn → k.imm.toNat / 2 ^ 16 = 0x5347 → k.payload.length = 16 → q.inbound = none → k.ackReq = true →
    s.waiters = [] →
    let seen := { q with
      lastUse := s.elapsed
      gapNak := false
      unacked := 0
      unackedAt := none }
    (qSignal q = true → label ≠ 0 → label = (lookD s.rdma.labels q.petal 0).toNat → i < recCounters x.record → counterFits v = true →
      ∃ t z, exec (.remoteSignal j) s = .next t ∧ t.mem = s.mem ∧ getPetal t q.petal = some z ∧ (counterVal z i).toInt = v ∧
        (∀ n, n ≠ i → counterVal z n = counterVal x n) ∧
        QpStep s t q { seen with
          ePsn := (q.ePsn + 1) % 2 ^ 24
          msn := (q.msn + 1) % 2 ^ 24 } [ackFrame s q q.ePsn 0 ((q.msn + 1) % 2 ^ 24)] ∧
        countVal t kRdm q.petal 13 = (countVal s kRdm q.petal 13 + 1) % 2 ^ 64) ∧
    (qSignal q = false ∨ label = 0 ∨ label ≠ (lookD s.rdma.labels q.petal 0).toNat ∨ recCounters x.record ≤ i ∨ counterFits v = false →
      ∃ t z, exec (.remoteSignal j) s = .next t ∧ t.mem = s.mem ∧ getPetal t q.petal = some z ∧ z.counters = x.counters ∧
        QpStep s t q seen [ackFrame s q q.ePsn 0x62 q.msn] ∧ countVal t kRdm q.petal 12 = (countVal s kRdm q.petal 12 + 1) % 2 ^ 64)) ∧
  (∀ (s : State) (j : Fin 32) (g : Nat) (f : RxFrame), headIngress s j.val = some (g, f) →
    let o := [(PktKind.request, exec (.rdmPacketReceive j) s), (.signal, exec (.remoteSignal j) s), (.ack, exec (.rdmAckReceive j) s),
      (.nak, exec (.rdmNakReceive j) s), (.cnp, exec (.cnp j) s)]
    (∀ e ∈ o, e.1 ≠ pktKind f.pkt → e.2 = .next s) ∧
    (∀ e ∈ o, e.1 = pktKind f.pkt → (qpOfWire s f.pkt.destQp.toNat = none ∨ ∃ q, qpOfWire s f.pkt.destQp.toNat = some q ∧ accepts s j.val q f.pkt = false) →
      ∃ t, e.2 = .next t ∧ t.mem = s.mem ∧ t.rdma = s.rdma ∧ t.petals = s.petals ∧
        (getPort t j.val).ingress = modV (getPort s j.val).ingress g (fun y => { y with frames := y.frames.drop 1 })))

/-- R404, R411, R412, R413, R417: the requester: an acknowledgement or a READ response completes the oldest send entry, writes its record
and opens the window; a NAK sends again, waits or ends the queue pair; a congestion notification halves the window. Where the rules leave it
open, it states the choices of log entry 33, which are the model's. -/
def Obligations.ResponsePackets : Prop :=
  (∀ (s : State) (j : Fin 32) (g : Nat) (f : RxFrame) (q : Qp) (w : Wqe) (c : RdmCq), Arrives s j.val g f .ack q →
    let k := f.pkt
    let seen := { q with lastUse := s.elapsed }
    q.wqes = [w] → w.fail = none → w.first = q.una → w.count = packets (qMtu q) w.len → q.nxt = w.first + w.count → q.top = q.nxt → w.count < 2 ^ 23 →
    wRec w = true → wSig w = false → getCq s q.petal (qCq q) = some c → inPda (cqAddr c + 32 * c.cqTail) → 0 < q.window →
    let acked := { seen with
      wqes := []
      una := q.nxt
      window := min (16 * 2 ^ 20) (q.window + qMtu q * w.len / q.window)
      retries := 0
      rnrRetries := 0
      sinceDec := q.sinceDec.map (· + w.len)
      timer := none }
    let completes (u : State) : Prop := ∃ t, exec (.rdmAckReceive j) s = .next t ∧ QpStep s t q acked [] ∧
      t.mem = (cqRecorded u q c w.tag stOk w.len 0 false).mem ∧ getCq t q.petal (qCq q) = some (cqNext c) ∧
      (∀ z, getPetal t q.petal = some z → rising z.tags = true → tagHeld z w.tag = false)
    (k.opcode = 0x11 → k.syndrome.toNat / 32 = 0 → w.op ≠ 2 → w.op ≠ 4 → k.psn.toNat = wirePsn q (w.first + w.count - 1) → completes s) ∧
    (k.opcode = 0x10 → w.op = 2 → w.got = 0 → w.count = 1 → 0 < w.len → k.payload.length = w.len → w.len ≤ qMtu q → k.psn.toNat = wirePsn q q.una →
      inPda w.local_.toNat → completes (memPut s q.petal w.local_.toNat k.payload))) ∧
  (∀ (s : State) (j : Fin 32) (g : Nat) (f : RxFrame) (q : Qp) (w : Wqe), Arrives s j.val g f .nak q →
    let k := f.pkt
    let seen := { q with lastUse := s.elapsed }
    q.wqes = [w] → w.fail = none → w.op = 1 ∨ w.op = 3 → w.first = q.una → 0 < w.count → q.nxt = w.first + w.count → q.top = q.nxt → w.count < 2 ^ 23 →
    k.psn.toNat = wirePsn q q.una →
    (k.syndrome = 0x60 → q.retries < 7 → w.count = 1 → q.rnrFrom = none → q.una < q.high → q.window ≠ 0 → w.len ≤ qMtu q → dmaPending s q.petal w.tag = false →
      dmaFailed s q.petal w.tag = false → inPda w.local_.toNat → poisonIn s q.petal w.local_.toNat w.len = none →
      ∃ t, exec (.rdmNakReceive j) s = .next t ∧ t.mem = s.mem ∧ QpStep s t q { seen with
        retries := q.retries + 1
        timer := some s.elapsed } [sendPacket (fresh s) q w 0]) ∧
    (k.syndrome.toNat / 32 = 1 → qRnr q = 7 ∨ q.rnrRetries < qRnr q →
      ∃ t, exec (.rdmNakReceive j) s = .next t ∧ t.mem = s.mem ∧ QpStep s t q { seen with
        nxt := q.una
        rnrFrom := some s.elapsed
        rnrRetries := q.rnrRetries + 1
        timer := none
        rnrWait := if k.syndrome.toNat % 32 = 1 then 10000 else Config.rnrNs (k.syndrome.toNat % 32) } []) ∧
    (∀ status detail c, (k.syndrome = 0x62 ∧ status = stRevoked ∧ detail = 0x89) ∨
        ((k.syndrome = 0x61 ∨ k.syndrome = 0x63) ∧ status = stDeviceFault ∧ detail = 0x8A) ∨
        (k.syndrome.toNat / 32 = 1 ∧ qRnr q ≠ 7 ∧ qRnr q ≤ q.rnrRetries ∧ status = stTimeout ∧ detail = 0x88) ∨
        (k.syndrome = 0x60 ∧ 7 ≤ q.retries ∧ status = stDeviceFault ∧ detail = 0x87) →
      getCq s q.petal (qCq q) = some c → inPda (cqAddr c + 32 * c.cqTail) → q.inbound = none →
      ∃ t, exec (.rdmNakReceive j) s = .next t ∧ t.mem = (cqRecorded s q c w.tag status 0 detail false).mem ∧
        QpStep s t q { seen with
          st := .error
          wqes := []
          timer := none
          rnrFrom := none
          unacked := 0
          unackedAt := none } [] ∧ getCq t q.petal (qCq q) = some (cqNext c))) ∧
  (∀ (s : State) (j : Fin 32) (g : Nat) (f : RxFrame) (q : Qp), Arrives s j.val g f .cnp q →
    ((∀ b, q.sinceDec = some b → q.window ≤ b) →
      ∃ t, exec (.cnp j) s = .next t ∧ t.mem = s.mem ∧ QpStep s t q { q with
        lastUse := s.elapsed
        window := max (qMtu q) (q.window / 2)
        sinceDec := some 0 } []) ∧
    (∀ b, q.sinceDec = some b → b < q.window → ∃ t, exec (.cnp j) s = .next t ∧ t.mem = s.mem ∧ QpStep s t q { q with lastUse := s.elapsed } []))

/-- R400, R402, R404, R410 to R415: a queue pair accepts its next send entry and sends its packet, or completes a refused entry by its
check; the timers send again, end a wait, acknowledge and abandon a message; a context that a doorbell waits for is fetched. Where the rules
leave it open, it states the choices of log entries 33 and 34, which are the model's. -/
def Obligations.RdmaCourse : Prop :=
  (∀ (s : State) (p : PetalId) (n : BitVec 20) (x : Petal) (q : Qp) (c : RdmCq), getPetal s p.val = some x → getQp s p.val n.toNat = some q →
    q.petal = p.val → q.num = n.toNat → getCq s p.val (qCq q) = some c → sendReady (fresh s) q x = true → q.sqHead < qSq q →
    inPda (qSqAddr q + 64 * q.sqHead) → poisonIn s p.val (qSqAddr q + 64 * q.sqHead) 64 = none → q.wqes = [] →
    let b := fresh s
    let e := sendEntry b q q.sqHead
    let taken := { q with
      sqHead := (q.sqHead + 1) % qSq q
      lastUse := s.elapsed }
    (∀ st d, weCheck s q x e = some (st, d) → inPda (cqAddr c + 32 * c.cqTail) →
      ∃ t, exec (.rdmSendStart p n) s = .next t ∧ getQp t p.val n.toNat = some taken ∧
        t.mem = (cqRecorded s q c (fld e 0 16 13) st 0 d false).mem ∧ getCq t p.val (qCq q) = some { cqNext c with reserved := c.reserved }) ∧
    (weCheck s q x e = none → fld e 0 0 8 = 1 ∨ fld e 0 0 8 = 3 → fld e 4 0 32 ≤ qMtu q → inPda (fld e 8 0 64) →
      poisonIn s p.val (fld e 8 0 64) (fld e 4 0 32) = none → dmaPending s p.val (fld e 0 16 13) = false → dmaFailed s p.val (fld e 0 16 13) = false →
      q.una = q.top → q.nxt = q.top → q.high = q.top → q.rnrFrom = none → q.timer = none → s.net.rules = [] → qRoom s q = true →
      let w := wqeOf q e none
      ∃ t, exec (.rdmSendStart p n) s = .next t ∧ t.mem = s.mem ∧
        QpStep s t q { taken with
          wqes := [w]
          top := q.top + 1
          nxt := q.top + 1
          high := q.top + 1
          timer := some s.elapsed } [sendPacket b q w 0] ∧
        getCq t p.val (qCq q) = some { c with reserved := c.reserved + 1 } ∧
        (getPetal t p.val).map (fun z => look z.tags w.tag) = some (some .rdma) ∧ w.first = q.top ∧ w.count = 1 ∧ w.fail = none)) ∧
  (∀ (s : State) (p : PetalId) (n : BitVec 20) (q : Qp), getQp s p.val n.toNat = some q → q.petal = p.val → q.num = n.toNat → q.owed = [] →
    s.net.rules = [] → qRoom s q = true → (∀ e ∈ s.rdma.regions, e.2.closing = false) →
    let due (since : W64) (ns : Nat) : Prop := since.toNat * 10 + ns ≤ s.elapsed.toNat * 10
    (∀ since, q.unackedAt = some since → due since 2000 → q.st = .ready →
      ∃ t, exec (.rdmAckTimer p n) s = .next t ∧ t.mem = s.mem ∧ QpStep s t q { q with
        unacked := 0
        unackedAt := none } [ackFrame s q ((q.ePsn + 2 ^ 24 - 1) % 2 ^ 24) 0 q.msn]) ∧
    (∀ since, q.unackedAt = some since → ¬due since 2000 → exec (.rdmAckTimer p n) s = .next s) ∧
    (∀ since, q.rnrFrom = some since → due since q.rnrWait → q.st = .ready → q.top ≤ q.nxt →
      exec (.rdmRnrTimer p n) s = .next (setQp (fresh s) { q with rnrFrom := none })) ∧
    (∀ since w, q.wqes = [w] → w.fail = none → w.op = 1 ∨ w.op = 3 → w.first = q.una → w.count = 1 → q.top = q.una + 1 → w.len ≤ qMtu q → q.st = .ready →
      keyPresent s p.val = true → inPda w.local_.toNat → poisonIn s p.val w.local_.toNat w.len = none → dmaPending s p.val w.tag = false →
      dmaFailed s p.val w.tag = false → q.una < q.high →
      (q.rnrFrom = some since → due since q.rnrWait → q.nxt = q.una →
        ∃ t, exec (.rdmRnrTimer p n) s = .next t ∧ t.mem = s.mem ∧ QpStep s t q { q with
          rnrFrom := none
          nxt := q.una + 1
          timer := q.timer.or (some s.elapsed)
          lastUse := s.elapsed } [sendPacket (fresh s) q w 0]) ∧
      (q.timer = some since → due since (min (qTimeout q * 1000 * 2 ^ q.retries) 4000000) → q.nxt = q.una + 1 → q.rnrFrom = none → q.retries < 7 →
        ∃ t, exec (.rdmRetransmitTimeout p n) s = .next t ∧ t.mem = s.mem ∧ QpStep s t q { q with
          window := max (qMtu q) (q.window / 4)
          sinceDec := some 0
          retries := q.retries + 1
          timer := some s.elapsed
          lastUse := s.elapsed } [sendPacket (fresh s) q w 0]) ∧
      (∀ c, q.timer = some since → due since (min (qTimeout q * 1000 * 2 ^ q.retries) 4000000) → q.nxt = q.una + 1 → 7 ≤ q.retries → q.inbound = none →
        getCq s p.val (qCq q) = some c → inPda (cqAddr c + 32 * c.cqTail) →
        ∃ t, exec (.rdmRetransmitTimeout p n) s = .next t ∧ t.mem = (cqRecorded s q c w.tag stDeviceFault 0 0x87 false).mem ∧
          (getQp t p.val n.toNat).map (fun z => (z.st, z.wqes)) = some (.error, []))) ∧
    (∀ i, q.inbound = some i → due i.since 100000000 → q.wqes = [] → q.st = .ready →
      (i.write = true → ∃ t, exec (.rdmMessageAbandon p n) s = .next t ∧ t.mem = s.mem ∧
        getQp t p.val n.toNat = some { q with
          st := .error
          timer := none
          rnrFrom := none
          unacked := 0
          unackedAt := none
          inbound := none }) ∧
      (∀ c, i.write = false → getCq s p.val (qCq q) = some c → inPda (cqAddr c + 32 * c.cqTail) →
        ∃ t, exec (.rdmMessageAbandon p n) s = .next t ∧
          t.mem = (cqRecorded s q c (fld i.entry.toNat 0 0 16) stDeviceFault i.got 0x96 true).mem ∧ getCq t p.val (qCq q) = some (cqNext c) ∧
          (getQp t p.val n.toNat).map (fun z => (z.st, z.inbound)) = some (.error, none)))) ∧
  (∀ (s : State) (p : PetalId) (n : BitVec 20) (x : Petal) (q : Qp), getQp s p.val n.toNat = some q → q.petal = p.val → q.num = n.toNat →
    getPetal s p.val = some x → q.resident = false → q.sqHead ≠ q.sqTail → missOf s q.wireQpn = [] →
    ((residents s p.val).length < recQpResident x.record →
      ∃ t, exec (.rdmContextFetch p n) s = .next t ∧ getQp t p.val n.toNat = some { q with
        resident := true
        lastUse := s.elapsed } ∧ (∀ k, k ≠ qpKey p.val n.toNat → look t.rdma.qps k = look s.rdma.qps k) ∧ t.mem = s.mem ∧
        countVal t kRdm p.val 10 = (countVal s kRdm p.val 10 + 1) % 2 ^ 64) ∧
    (recQpResident x.record ≤ (residents s p.val).length → (∀ z ∈ residents s p.val, evictable z = false) →
      exec (.rdmContextFetch p n) s = .next (fresh s)))

/-- R513, R515, R521, R523, R524, R535, R540: the Inkstand's commands write the event log, the calibration table and the sensor readings to
the control petal, take a new calibration table and a firmware image and activate it, clear alarms and latched outputs, and reset the module
on its confirmation. Where the rules leave it open, it states the choices of log entries 49 and 50, which are the model's. -/
def Obligations.InkstandCommands : Prop :=
  (∀ (s : State) (m : Mbx) (c : Nat), Served cmdMgtLogRead m s →
    let b := begun cmdMgtLogRead m s
    let held := b.logFlash ++ b.logBuf
    let most := if mf m 0x18 0 16 = 0 then 65536 else mf m 0x18 0 16
    let out := (held.filter (fun e => decide (mf m 0x10 0 64 ≤ e.seq))).take most
    (controlRange b (mf m 0x20 0 48) (64 * out.length)).toOption = some c →
    (out.flatMap entryBytes).length = 64 * out.length ∧
    ∀ next, (∀ e, out.getLast? = some e → next = e.seq + 1) → (out = [] → ∀ e, held.getLast? = some e → next = e.seq + 1) →
      (held = [] → next = b.logSeq) →
      Answers (.mgtLogRead m) m s (memPut b c (mf m 0x20 0 48) (out.flatMap entryBytes)) (replyData (out.length + next * 2 ^ 64) 16)) ∧
  (∀ (s : State) (m : Mbx) (c : Nat), Served cmdMgtCalRead m s →
    let b := begun cmdMgtCalRead m s
    let t := calBytes b.sec.calFlash
    (controlRange b (mf m 0x20 0 48) t.length).toOption = some c →
    Answers (.mgtCalRead m) m s (memPut b c (mf m 0x20 0 48) t) (replyData t.length 4)) ∧
  (∀ (s : State) (m : Mbx) (c : Nat), Served cmdMgtCalWrite m s →
    let b := fresh (begun cmdMgtCalWrite m s)
    let n := mf m 0x18 0 32
    let a := mf m 0x20 0 48
    let l := memRead b c a n
    mf m 0x10 0 32 = 0x574C4143 → 128 ≤ n → n ≤ 1048576 → (controlRange b a n).toOption = some c → poisonIn b c a n = none →
    (calFormed n l = true → updateWrites b = false → b.ink.flashFails = false →
      ∃ t, Answers (.mgtCalWrite m) m s t replyOk ∧ t.sec = { b.sec with calFlash := .written l } ∧ t.mem = s.mem ∧ s.logSeq < t.logSeq) ∧
    (calFormed n l = false → ∃ t, Answers (.mgtCalWrite m) m s t (replyErr stInvalidArgument 0x99) ∧ t.sec = s.sec ∧ t.mem = s.mem) ∧
    (calFormed n l = true → updateWrites b = false → b.ink.flashFails = true →
      ∃ t, Answers (.mgtCalWrite m) m s t (replyErr stDeviceFault 0xA3) ∧ t.sec = s.sec ∧ t.mem = s.mem)) ∧
  (∀ (s : State) (m : Mbx) (l : List Byte), Served cmdMgtUpdateStage m s →
    let b := fresh (begun cmdMgtUpdateStage m s)
    mf m 0x18 0 32 ≤ 100663296 →
    (b.ink.update = none → (imageSource b (mf m 0x20 0 64) (mf m 0x18 0 32)).toOption = some l → imageFail b l = none →
      ∃ t, exec (.mgtUpdateStage m) s = .next (postPending cmdMgtUpdateStage m .again none t) ∧ t.ink.update = some ⟨false, some l⟩ ∧
        slotOf t (updateSlot b) = ⟨.erased, false, false⟩ ∧ slotOf t (!updateSlot b) = slotOf s (!updateSlot b) ∧ t.mem = s.mem) ∧
    (b.ink.update.isSome = true → Answers (.mgtUpdateStage m) m s b (replyErr stBusy 0xA0))) ∧
  (∀ (s : State) (m : Mbx), Served cmdMgtUpdateActivate m s →
    let b := begun cmdMgtUpdateActivate m s
    b.ink.update = none → b.board.stage = .recovery ∨ (controlPetal b).isSome = true →
    ((slotOf b (updateSlot b)).verified = true →
      Answers (.mgtUpdateActivate m) m s { b with sec := { b.sec with bootPref := updateSlot b } } replyOk) ∧
    ((slotOf b (updateSlot b)).verified = false → Answers (.mgtUpdateActivate m) m s b (replyErr stNotFound 0))) ∧
  (∀ (s : State) (m : Mbx) (c : Nat), Served cmdMgtSensorRead m s →
    let b := begun cmdMgtSensorRead m s
    let a := mf m 0x20 0 48
    (controlRange b a 832).toOption = some c →
    Answers (.mgtSensorRead m) m s (memPut b c a (sensorBytes b)) replyOk ∧ (sensorBytes b).length = 832) ∧
  (∀ (s : State) (m : Mbx), Served cmdMgtAlertClear m s →
    let b := begun cmdMgtAlertClear m s
    ∃ l : BitVec 8, Answers (.mgtAlertClear m) m s { b with ink := { b.ink with latched := l } } (replyData l.toNat 4) ∧
      ∀ i < 8, bitAt l.toNat i = (bitAt b.ink.latched.toNat i && (!bitAt (mf m 0x10 0 8) i || bitAt (alarmsActive b) i))) ∧
  (∀ (s : State) (m : Mbx), Served cmdMgtOutputStatus m s →
    let b := begun cmdMgtOutputStatus m s
    ∃ l : BitVec 34, Answers (.mgtOutputStatus m) m s { b with board := { b.board with latched := l } } (replyData l.toNat 8) ∧
      ∀ i < 34, bitAt l.toNat i = (bitAt b.board.latched.toNat i && !bitAt (mf m 0x18 0 34) i)) ∧
  (∀ (s : State) (m : Mbx), Served cmdMgtModuleReset m s →
    let b := begun cmdMgtModuleReset m s
    (mf m 0x10 0 32 = 0x54535252 → b.petals = [] → b.sec.sessions = [] →
      ∃ t, Answers (.mgtModuleReset m) m s t replyOk ∧ t.board = { b.board with resetAt := some b.elapsed } ∧ t.mem = s.mem) ∧
    (mf m 0x10 0 32 = 0x54535252 → b.petals ≠ [] → b.board.stage ≠ .recovery →
      Answers (.mgtModuleReset m) m s b (replyErr stNotPermitted 0xA4)) ∧
    (mf m 0x10 0 32 ≠ 0x54535252 → Answers (.mgtModuleReset m) m s b (replyErr stInvalidArgument 0xA5)))

/-- R260 to R263, R470, R510 to R517, R520, R542: the Inkstand in its course: heartbeats and their absence, the takeover of a journal and
the core's return, its own watchdog and restart, the rollback counter, a sample of every sensor with the alarms that follow, the division of
an interval's energy among petals, and the flush of the log. Where the rules leave it open, it states the choices of log entries 48, 53 and
54, which are the model's. -/
def Obligations.InkstandCourse : Prop :=
  (∀ (s : State) (k : Fin 64) (q : Quill), getQuill s k.val = q →
    (q.st = .inService → exec (.quillHeartbeat k) s = .next (setQuill s k.val { q with beat := s.elapsed })) ∧
    (∀ own, s.ready = true → s.board.stage = .service → q.st = .inService → (own = true ∨ q.beat.toNat * 10 + 4000000 ≤ s.elapsed.toNat * 10) →
      s.ink.restarting = none →
      let recent := q.crashes.filter (fun t => decide (s.elapsed.toNat * 10 < t.toNat * 10 + 3600000000000))
      ∃ t, exec (.heartbeatMiss k own) s = .next t ∧
        getQuill t k.val = { q with
          st := if 2 ≤ recent.length then .removed true else .crashed true
          crashes := recent ++ [s.elapsed] } ∧
        (2 ≤ recent.length → bitAt t.ink.latched.toNat 6 = true ∧ degraded t = true) ∧ (∀ j, j ≠ k.val → getQuill t j = getQuill s j) ∧
        s.logSeq < t.logSeq ∧ t.ink.quietAt = s.elapsed ∧ t.petals = s.petals ∧ t.mem = s.mem) ∧
    (∀ l since, s.ready = true → s.board.stage = .service → q.st = .inService → s.ink.restarting = some since → s.ink.latchedMiss = l → k.val ∉ l →
      exec (.heartbeatMiss k true) s = .next { s with ink := { s.ink with latchedMiss := l ++ [k.val] } }) ∧
    (q.st = .crashed true → exec (.journalTakeover k []) s = .next (setQuill s k.val { q with st := .crashed false })) ∧
    (q.st = .removed true → exec (.journalTakeover k []) s = .next (setQuill s k.val { q with st := .removed false })) ∧
    (q.st = .crashed false → exec (.quillReturn k) s = .next (setQuill s k.val { q with
      st := .inService
      beat := s.elapsed })) ∧
    (∀ j, q.st = .removed j → exec (.quillReturn k) s = .next s)) ∧
  (∀ (s : State) (k : Fin 64) (p : PetalId) (tag : BitVec 13) (q : Quill) (e : Pend), getQuill s k.val = q → q.st = .crashed true →
    ((getPetal s p.val).map (fun x => look x.tags tag.toNat)) = some (some .mailbox) → e ∈ (getPage s p.val).pends → e.tag = tag.toNat →
    ∃ t, exec (.journalTakeover k [(p, tag)]) s = .next t ∧ getQuill t k.val = { q with st := .crashed false } ∧ s.logSeq < t.logSeq ∧
      (getPage t p.val).pends = (getPage s p.val).pends.map (fun z =>
        if z.tag = tag.toNat then { z with outcome := some (replyErr stDeviceFault 0) } else z)) ∧
  (∀ (s : State), s.ink.restarting = none →
    exec .inkstandWdRefresh s = .next { s with ink := { s.ink with refreshed := s.elapsed } } ∧
    (s.board.stage = .service → s.ink.refreshed.toNat * 10 + 20000000 ≤ s.elapsed.toNat * 10 →
      exec .inkstandWdExpiry s = .next { s with ink := { s.ink with
        restarting := some s.elapsed
        quietAt := s.elapsed } }) ∧
    (s.elapsed.toNat * 10 < s.ink.refreshed.toNat * 10 + 20000000 → exec .inkstandWdExpiry s = .next s)) ∧
  (∀ (s : State) (intact : Bool), s.ink.restarting.isSome = true → s.ink.latchedMiss = [] →
    ∃ t, exec (.inkstandRestartDone intact) s = .next t ∧ t.ink.restarting = none ∧ t.ink.refreshed = s.elapsed ∧ t.ink.quills = s.ink.quills ∧
      s.logSeq < t.logSeq ∧ t.petals = s.petals ∧ t.mem = s.mem ∧
      (intact = false → s.logBuf ≠ [] → bitAt t.ink.latched.toNat 7 = true ∧ ∀ e ∈ s.logBuf, e.seq < s.logSeq → e ∉ t.logBuf)) ∧
  (∀ (s : State) (x : SensorReadings), s.board.stage = .service → s.ink.restarting = none → x.temps.length = 96 → s.ready = true →
    ∃ t, exec (.sensorSample x) s = .next t ∧
      t.ink.sample = ⟨s.elapsed, x.inputMv.toNat, x.inputMa.toNat, x.inputMw.toNat, x.temps, x.volts, x.rails⟩ ∧
      (bitAt t.ink.active.toNat 0 = true ↔ ∃ i < 94, ∃ v, x.temps[i]? = some v ∧ v.toNat / 2 ^ 16 = 0 ∧ 1520 ≤ (v.setWidth 16).toInt) ∧
      bitAt t.ink.active.toNat 2 = x.railOut ∧
      (bitAt t.ink.active.toNat 3 = true ↔ (∃ v ∈ x.temps, v.toNat / 2 ^ 16 ≠ 0) ∨ ∃ v ∈ x.volts, v.getMsbD 0 = true) ∧
      (bitAt t.ink.active.toNat 4 = true ↔ x.inputMv.toNat < 42000 ∨ 58000 < x.inputMv.toNat) ∧
      (∀ i < 7, bitAt t.ink.latched.toNat i = (bitAt s.ink.latched.toNat i || bitAt t.ink.active.toNat i)) ∧
      (∀ r < 5, ((List.range' (16 * r) 16).filter (fun i => (x.temps[i]?.map (fun v => v.toNat / 2 ^ 16)) == some 0)).length < 8 → look t.pwr.blind r = some true) ∧
      t.petals = s.petals ∧ t.mem = s.mem) ∧
  (∀ (s : State) (x : EnergyReadings), s.board.stage = .service → s.ink.restarting = none → s.ink.intervalAt.toNat * 10 + 1000000 ≤ s.elapsed.toNat * 10 →
    railSum x ≤ x.input.toNat → rising s.petals = true → (∀ e ∈ s.petals, e.1 < 512) →
    let given := (s.petals.map (fun e => (petalShares s x e.1).sum)).sum
    ∃ t, exec (.energyInterval x) s = .next t ∧ given ≤ x.input.toNat ∧
      countVal t kInput 0 0 = (countVal s kInput 0 0 + x.input.toNat) % 2 ^ 64 ∧
      countVal t kInput 0 1 = (countVal s kInput 0 1 + (x.input.toNat - given)) % 2 ^ 64 ∧
      (∀ e ∈ s.petals, countVal t kEnergy e.1 0 = (countVal s kEnergy e.1 0 + (petalShares s x e.1).sum) % 2 ^ 64 ∧
        ∀ i v, (petalShares s x e.1)[i]? = some v → countVal t kEnergy e.1 (i + 1) = (countVal s kEnergy e.1 (i + 1) + v) % 2 ^ 64) ∧
      t.ink.intervalAt = s.elapsed ∧ t.ink.dieSteps = [] ∧ t.petals = s.petals ∧ t.mem = s.mem) ∧
  (∀ (s : State) (e : LogEntry) (l : List LogEntry), s.logBuf = e :: l → s.logFlash.length < 65536 →
    exec .logFlush s = .next { s with
      logFlash := s.logFlash ++ [e]
      logBuf := l }) ∧
  (∀ (s : State) (e : LogEntry) (l : List LogEntry), s.logBuf = e :: l → s.logFlash.length = 65536 →
    exec .logFlush s = .next { s with
      logFlash := s.logFlash.drop 1024 ++ [e]
      logBuf := l }) ∧
  (∀ (s : State), s.ready = true → s.board.stage = .service → s.board.raised = false → s.ink.quietAt.toNat * 10 + 900000000000 ≤ s.elapsed.toNat * 10 →
    let v := imageVersion (bootedImage s)
    ∃ t, exec .rollbackRaise s = .next t ∧ t.sec = { s.sec with rollback := max s.sec.rollback v } ∧ t.board = { s.board with raised := true } ∧
      t.mem = s.mem ∧ (s.sec.rollback < v → s.logSeq < t.logSeq))

/-- R490 to R494, R496, R499 to R505, R311: PWR_RATE_SET sets a rail's target, PWR_LEVEL_SET and PWR_LEVEL_AUTO a unit's held level or the
module's, PWR_QUERY reports the level, the voltage and the effective target; an idle unit enters its levels in turn and wakes with its
containers; the module enters its level when no work remains and wakes; the thermal and the power limit move by 50. Where the rules leave it
open, it states the choices of log entries 37, 38, 39 and 56, which are the model's. -/
def Obligations.PowerLevels : Prop :=
  (∀ (s : State) (m : Mbx), Served cmdPwrRateSet m s →
    let b := begun cmdPwrRateSet m s
    let r := mf m 0x10 0 3
    let t := mf m 0x14 0 16
    (r ≤ 4 → t = 0 ∨ (900 ≤ t ∧ t ≤ 2100) → Answers (.pwrRateSet m) m s { b with pwr := { b.pwr with targets := put b.pwr.targets r t } } replyOk) ∧
    (4 < r ∨ (0 < t ∧ t < 900) ∨ 2100 < t → Answers (.pwrRateSet m) m s b (replyErr stInvalidArgument 0x82))) ∧
  (∀ (s : State) (m : Mbx) (kind u : Nat), Served cmdPwrQuery m s →
    let b := fresh (begun cmdPwrQuery m s)
    let r := railOf kind u
    let asked := if lookD b.pwr.targets r 1600 = 0 then 2100 else lookD b.pwr.targets r 1600
    let target := min asked (min (thermalLimit b r) (powerLimit b r))
    (unitNamed b m).toOption = some (kind, u) →
    ∃ mv, Answers (.pwrQuery m) m s b (replyData (unitLevel b kind u + mv * 2 ^ 32 + target * 2 ^ 64) 12) ∧ 650 ≤ mv ∧ mv ≤ 850 ∧
      (lookD b.pwr.targets r 1600 = 0 → target = 2100 → mv = 850)) ∧
  (∀ (s : State) (m : Mbx) (kind u : Nat), Served cmdPwrLevelSet m s →
    let b := begun cmdPwrLevelSet m s
    let level := mf m 0x18 0 3
    let k := unitKey kind u
    (unitNamed b m).toOption = some (kind, u) → kind < 5 → kind ≠ 4 ∨ u < 4 → mf m 0x18 3 1 = 0 → level ≤ 4 →
    (level < 3 ∨ unitInSession b kind u = false →
      ∃ t, Answers (.pwrLevelSet m) m s t replyOk ∧ look t.pwr.held k = some level ∧ (∀ j, j ≠ k → look t.pwr.held j = look s.pwr.held j) ∧
        (level < lookD b.pwr.levels k 0 → ∀ j, look t.pwr.levels j = if j ∈ unitChain kind u then none else look b.pwr.levels j) ∧
        (lookD b.pwr.levels k 0 ≤ level → t.pwr.levels = b.pwr.levels) ∧ t.mem = s.mem) ∧
    (3 ≤ level → unitInSession b kind u = true →
      ∃ t, exec (.pwrLevelSet m) s = .next (postPending cmdPwrLevelSet m (.powerEntry kind u) none t) ∧ t.pwr.held = s.pwr.held ∧
        ⟨kind, u, level, false, m.page.val⟩ ∈ t.pwr.deferred ∧ t.mem = s.mem)) ∧
  (∀ (s : State) (m : Mbx) (kind u : Nat), Served cmdPwrLevelSet (autoOf m) s →
    let b := begun cmdPwrLevelSet (autoOf m) s
    (unitNamed b (autoOf m)).toOption = some (kind, u) → kind < 5 → kind ≠ 4 ∨ u < 4 → rising b.pwr.held = true →
    ∃ t, exec (.pwrLevelAuto m) s = .next (answered (autoOf m) replyOk t) ∧ look t.pwr.held (unitKey kind u) = none ∧
      (∀ j, j ≠ unitKey kind u → look t.pwr.held j = look s.pwr.held j) ∧ t.pwr.levels = b.pwr.levels ∧ t.mem = s.mem) ∧
  (∀ (s : State) (m : Mbx), Served cmdPwrLevelSet m s →
    let b := begun cmdPwrLevelSet m s
    let level := mf m 0x18 0 3
    m.page.val = devPage → mf m 0x10 0 4 = 5 → mf m 0x14 0 16 = 0 → mf m 0x18 3 1 = 0 →
    (level = 0 → ∃ t, Answers (.pwrLevelSet m) m s t replyOk ∧ t.pwr.moduleHeld = none ∧ (b.pwr.module ≤ 3 → t.pwr.module = 0) ∧ t.mem = s.mem) ∧
    (1 ≤ level → level ≤ 3 → (level = 3 → parkFits b = true ∧ anySession b = false) →
      ∃ t, exec (.pwrLevelSet m) s = .next (postPending cmdPwrLevelSet m (.powerEntry 5 0) none t) ∧ t.pwr.moduleHeld = some level ∧
        t.pwr.module = b.pwr.module ∧ t.mem = s.mem) ∧
    (level = 3 → parkFits b = false → Answers (.pwrLevelSet m) m s b (replyErr stNoResources 0x80)) ∧
    (level = 4 → b.petals ≠ [] → Answers (.pwrLevelSet m) m s b (replyErr stNotPermitted 0x97)) ∧
    (level = 4 → b.petals = [] → ∃ t, Answers (.pwrLevelSet m) m s t replyOk ∧ t.pwr.module = 4 ∧ t.ready = false ∧ t.mem = [] ∧
      t.devArea.stage = [] ∧ t.keySess = [] ∧ ∀ e ∈ t.pcie.ports, e.2.up = false)) ∧
  (∀ (s : State) (kind : Fin 5) (u : Fin 2048),
    let k := unitKey kind.val u.val
    let cur := lookD s.pwr.levels k 0
    let entered (level : Nat) : Prop := ∃ t, exec (.unitIdleEntry kind u) s = .next t ∧ t = { s with
        pwr := t.pwr
        ctr := t.ctr
        wrapped := t.wrapped } ∧
      t.pwr = { s.pwr with
        levels := put s.pwr.levels k level
        since := put s.pwr.since k s.elapsed } ∧
      (3 ≤ level → countVal t kPwr (railOf kind.val u.val) 4 = (countVal s kPwr (railOf kind.val u.val) 4 + 1) % 2 ^ 64)
    u.val < unitCount kind.val → (kind.val = 4 → u.val < 4) →
    (∀ wait, unitIdle s kind.val u.val = true → look s.pwr.held k = none → [0, 19000, 980000, 99000000][cur]? = some wait →
      (lookD s.pwr.since k 0).toNat * 10 + wait ≤ s.elapsed.toNat * 10 → cur < 2 ∨ unitInSession s kind.val u.val = false →
      (∀ e ∈ unitParts kind.val u.val, cur + 1 ≤ unitLevel s e.1 e.2) → entered (cur + 1)) ∧
    (∀ wait, [0, 19000, 980000, 99000000][cur]? = some wait → look s.pwr.held k = none → unitIdle s kind.val u.val = true →
      s.elapsed.toNat * 10 < (lookD s.pwr.since k 0).toNat * 10 + wait → exec (.unitIdleEntry kind u) s = .next s) ∧
    (∀ w q, kind.val = 0 → (getNib s u.val).st = .waiting w q → (getNib s u.val).halted = false → cur = 0 → look s.pwr.held k = none → entered 1) ∧
    (s.pwr.module = 0 → ∃ t, exec (.unitWake kind u) s = .next t ∧ t = { s with pwr := { s.pwr with levels := t.pwr.levels } } ∧
      ∀ e, e ∈ t.pwr.levels ↔ e ∈ s.pwr.levels ∧ e.1 ∉ unitChain kind.val u.val)) ∧
  (∀ (s : State) (l : Nat), s.pwr.moduleHeld = some l → s.pwr.module = 0 → 1 ≤ l → l ≤ 3 → moduleWork s = false → (l = 3 → anySession s = false) →
    let enters (o : Host.Outcome State Fault Refusal) : Prop := ∃ t, o = .next t ∧ t.pwr = { s.pwr with
        module := l
        parked := l == 3 } ∧ (∀ j < 32, (getPort t j).link = 0) ∧
      (∀ i p, look s.pcie.ports i = some p → p.up = true → (look t.pcie.ports i).map (·.l1) = some (if l = 1 then 1 else 3)) ∧ t.petals = s.petals ∧ t.mem = s.mem
    (entryPending s = true → (l = 3 → parkFits s = true) → enters (exec .moduleLevelEntry s)) ∧
    (entryPending s = true → l = 3 → parkFits s = false → ∃ t, exec .moduleLevelEntry s = .next t ∧ t.pwr = { s.pwr with moduleHeld := none } ∧
      entryPending t = false) ∧
    (entryPending s = false → (l = 3 → parkFits s = true) → s.pwr.wokeAt.toNat * 10 + 1000000 ≤ s.elapsed.toNat * 10 →
      enters (exec .moduleIdleReturn s))) ∧
  (∀ (s : State), 1 ≤ s.pwr.module → s.pwr.module ≤ 3 →
    ∃ t, exec .moduleWake s = .next t ∧ t.pwr.module = 0 ∧ t.pwr.parked = false ∧ t.pwr.moduleHeld = s.pwr.moduleHeld ∧ t.pwr.wokeAt = s.elapsed ∧
      (∀ e ∈ t.pcie.ports, e.2.l1 = 0) ∧ t.petals = s.petals ∧ t.mem = s.mem) ∧
  (∀ (s : State) (r : Fin 5), (lookD s.pwr.thermalAt r.val 0).toNat * 10 + 10000000 ≤ s.elapsed.toNat * 10 →
    let l := lookD s.pwr.thermal r.val 2100
    let valid (c : Int) : Prop := ∃ i, 16 * r.val ≤ i ∧ i < 16 * r.val + 16 ∧ tempOf s i = some c
    let moves (v : Nat) : Prop := exec (.thermalLimitStep r) s = .next { s with pwr := { s.pwr with
      thermal := put s.pwr.thermal r.val v
      thermalAt := put s.pwr.thermalAt r.val s.elapsed } }
    ((∃ c, valid c ∧ 1600 ≤ c) → moves (max 900 (l - 50))) ∧
    ((∃ c, valid c) → (∀ c, valid c → c < 1520) → moves (min 2100 (l + 50))) ∧
    ((∀ c, valid c → c < 1600) → (∃ c, valid c ∧ 1520 ≤ c) → moves l)) ∧
  (∀ (s : State), s.pwr.powerAt.toNat * 10 + 1000000 ≤ s.elapsed.toNat * 10 →
    let l := s.pwr.power.getD 2100
    let moves (v : Option Nat) : Prop := exec .powerLimitStep s = .next { s with pwr := { s.pwr with
      power := v
      powerAt := s.elapsed } }
    (750000 < s.ink.sample.inputMw → moves (some (l - 50))) ∧
    (s.ink.sample.inputMw < 700000 → l + 50 < 2100 → moves (some (l + 50))) ∧
    (s.ink.sample.inputMw < 700000 → 2100 ≤ l + 50 → moves none) ∧
    (700000 ≤ s.ink.sample.inputMw → s.ink.sample.inputMw ≤ 750000 → moves s.pwr.power))

/-- R529, R530, R532 to R536, R539, R543, R549: power, the boot of a slot and recovery, resets of the module and of its PCIe side, the 48 V
input, PWR_EN and THERMTRIP. Where the rules leave it open, it states the choices of log entries 44, 45, 46 and 68, which are the model's.
-/
def Obligations.StartUp : Prop :=
  (∀ (s : State) (sel : Bool), s.board.stage = .off → s.board.inputValid = false → s.board.needReturn = false →
    (s.board.pwrEn = true → ∃ t, exec (.inputValid sel) s = .next t ∧ ModuleReset { s with board := { s.board with
        inputValid := true
        refSel := sel } } t .input) ∧
    (s.board.pwrEn = false → exec (.inputValid sel) s = .next { s with board := { s.board with
        inputValid := true
        refSel := sel
        stage := .aux } })) ∧
  (∀ (s : State), s.board.stage = .aux → s.board.inputValid = true → s.board.pwrEn = true → s.board.overVoltage = false →
    20000000 ≤ s.elapsed.toNat * 10 →
    (s.board.perst = true → exec .regulatorsUp s = .next { s with board := { s.board with stage := .rom } }) ∧
    (s.board.perst = false → ∃ t, exec .regulatorsUp s = .next t ∧ Booting s t s.board.refSel s.board.t0)) ∧
  (∀ (s : State) (second : Bool), s.board.stage = .booting second → slotBoots s second = true →
    s.elapsed.toNat * 10 < s.board.t0.toNat * 10 + (if second then 1800000000 else 900000000) → s.board.refUsed ≠ 2 →
    ∃ t, exec .firmwareReady s = .next t ∧ t.ready = true ∧ t.board = { s.board with
        stage := .service
        readyAt := s.elapsed
        raised := false } ∧
      slotOf t s.board.slot = { slotOf s s.board.slot with fallback := true } ∧ slotOf t (!s.board.slot) = slotOf s (!s.board.slot) ∧
      (∀ k < 64, look t.ink.quills k = some ⟨.inService, s.elapsed, []⟩) ∧ t.pcie.retry = false ∧ t.ink.refreshed = s.elapsed ∧
      t.mem = s.mem ∧ t.petals = s.petals) ∧
  (∀ (s : State) (why : BootFail) (second : Bool), s.board.stage = .booting second → LogRoom s →
    (why = .image → slotBoots s second = false) →
    (why = .timeout → s.board.t0.toNat * 10 + (if second then 1800000000 else 900000000) ≤ s.elapsed.toNat * 10) →
    let e := withEntry s 0 3 (bootFailText why) (if s.board.slot then 1 else 0) 0xFFFF []
    (second = false → exec (.bootAttemptFail why) s = .next { e with board := { s.board with
        stage := .booting true
        slot := !s.board.slot } }) ∧
    (second = true → exec (.recoveryEntry why) s = .next { e with
        board := { s.board with
          stage := .recovery
          slot := s.sec.bootPref }
        pcie := { s.pcie with retry := false } })) ∧
  (∀ (s : State) (sel : Bool) (w : W64), s.board.resetAt = some w → w.toNat * 10 + 10000000 ≤ s.elapsed.toNat * 10 →
    ∃ r t, exec (.moduleReset sel) s = .next t ∧ ModuleReset s r .command ∧ Booting r t sel 0) ∧
  (∀ (s : State), s.board.perst = false →
    (started s = false ∨ s.pwr.module = 4 → exec .perstAssert s = .next { s with board := { s.board with perst := true } }) ∧
    (started s = true → s.pwr.module ≠ 4 → s.sec.sessions = [] → s.sec.d2 = none →
      ∃ t, exec .perstAssert s = .next t ∧ t.board = { s.board with perst := true } ∧ HostCut s t ∧ PortsReset s t true ∧
        (swPort t 0).up = false ∧ (s.pwr.module ≤ 3 → t.pwr.module = 0))) ∧
  (∀ (s : State) (sel : Bool), s.board.perst = true →
    let h : State := { s with board := { s.board with perst := false } }
    (s.pwr.module ≠ 4 → s.board.stage = .aux → exec (.perstDeassert sel) s = .next { s with board := { s.board with
        perst := false
        t0 := s.elapsed
        refSel := sel } }) ∧
    (s.pwr.module ≠ 4 → s.board.stage = .rom → ∃ t, exec (.perstDeassert sel) s = .next t ∧ Booting h t sel s.elapsed) ∧
    (s.pwr.module ≠ 4 → s.board.stage = .service → exec (.perstDeassert sel) s = .next h) ∧
    (s.pwr.module = 4 → ∃ r t, exec (.perstDeassert sel) s = .next t ∧ ModuleReset h r .exitW4 ∧ Booting r t sel 0)) ∧
  (∀ (s : State) (second : Bool), s.board.stage ≠ .off →
    ∃ t, exec (.inputUndervoltage second) s = .next t ∧ PowerLost s t ∧ t.logBuf = [] ∧ t.logFlash = s.logFlash ∧ t.board = { s.board with
        stage := if s.board.stage = .tripped ∧ second = false then .tripped else .off
        inputValid := false
        needReturn := true
        overVoltage := false
        resetAt := none
        cause := if s.board.stage = .tripped then .thermtrip else .input }) ∧
  (∀ (s : State), s.board.stage ≠ .off → s.board.stage ≠ .tripped → LogRoom s →
    ∃ t, exec .inputOvervoltage s = .next t ∧ PowerLost s t ∧ t.logBuf = [] ∧
      t.logFlash.getLast? = some (logged s 6 4 "input over-voltage" 0 0xFFFF []) ∧ t.ink.latched.toNat.testBit 4 = true ∧ t.board = { s.board with
        stage := .aux
        inputValid := false
        overVoltage := true
        needReturn := true
        resetAt := none
        cause := .input }) ∧
  (∀ (s : State) (sel : Bool), s.board.needReturn = true → s.board.stage ≠ .tripped →
    (s.board.pwrEn = true → ∃ t, exec (.inputReturn sel) s = .next t ∧ ModuleReset { s with board := { s.board with
        inputValid := true
        refSel := sel } } t s.board.cause) ∧
    (s.board.pwrEn = false → exec (.inputReturn sel) s = .next { s with board := { s.board with
        inputValid := true
        refSel := sel
        stage := .aux
        needReturn := false } })) ∧
  (∀ (s : State), s.board.pwrEn = true →
    (s.board.stage = .off ∨ s.board.stage = .tripped → exec .pwrEnLow s = .next { s with board := { s.board with pwrEn := false } }) ∧
    (s.board.stage ≠ .off → s.board.stage ≠ .tripped → ∃ t, exec .pwrEnLow s = .next t ∧ PowerLost s t ∧ t.logBuf = s.logBuf ∧
      t.ink.latched = s.ink.latched ∧ t.board = { s.board with
        pwrEn := false
        stage := .aux
        resetAt := none })) ∧
  (∀ (s : State) (sel : Bool), s.board.pwrEn = false →
    (s.board.stage = .aux → s.board.inputValid = true → ∃ t, exec (.pwrEnHigh sel) s = .next t ∧ ModuleReset { s with board := { s.board with
        pwrEn := true
        refSel := sel } } t .input) ∧
    (s.board.stage ≠ .aux ∨ s.board.inputValid = false →
      exec (.pwrEnHigh sel) s = .next { s with board := { s.board with pwrEn := true } })) ∧
  (∀ (s : State) (i : Fin 80) (c : W16), started s = true ∨ s.board.stage = .rom →
    (1840 ≤ c.toInt → LogRoom s → ∃ t, exec (.thermtrip i c) s = .next t ∧ PowerLost s t ∧ t.logBuf = [] ∧
      t.logFlash.getLast? = some (logged s 6 4 "THERMTRIP" i.val 0xFFFF []) ∧ t.board = { s.board with
        stage := .tripped
        resetAt := none }) ∧
    (c.toInt < 1840 → exec (.thermtrip i c) s = .next s))

/-- R540, R541, R544, R157: an output over its current is latched off; a reference that is lost or back; a memory device that fails; and the
calibration of a channel. Where the rules leave it open, it states the choices of log entries 44, 46 and 47, which are the model's. -/
def Obligations.BoardFaults : Prop :=
  (∀ (s : State) (i : Fin 34), s.board.stage ≠ .off → s.board.latched.toNat.testBit i.val = false → (i.val = 32 → s.ink.latched ≠ 0) → LogRoom s →
    ∃ t, exec (.outputOvercurrent i) s = .next t ∧ t.board = { s.board with latched := s.board.latched ||| BitVec.ofNat 34 (2 ^ i.val) } ∧
      t.ink.latched = s.ink.latched ||| 8 ∧ t.logBuf = s.logBuf ++ [logged s 6 2 "output latched off" i.val 0xFFFF []] ∧
      t.petals = s.petals ∧ t.mem = s.mem ∧ t.pcie = s.pcie) ∧
  (∀ (s : State), s.board.refGood.toNat.testBit 2 = true → s.board.stage ≠ .off →
    ∃ t, exec (.refclkLoss 2) s = .next t ∧ t.board = { s.board with refGood := s.board.refGood &&& 3 } ∧ t.ink.latched.toNat.testBit 3 = true ∧
      (∀ j < 32, (getPort t j).link = 0 ∧ (getPort t j).time = portTime s (getPort s j) ∧ (getPort t j).timeAt = s.elapsed) ∧
      t.petals = s.petals ∧ t.mem = s.mem ∧ t.pcie = s.pcie) ∧
  (∀ (s : State) (r : Fin 3), r.val < 2 → s.board.refGood.toNat.testBit r.val = true → started s = true → s.sec.sessions = [] → s.sec.d2 = none →
    (s.board.refUsed < 2 → s.board.refGood.toNat.testBit s.board.refUsed = true) →
    let other := 1 - r.val
    let source := if s.board.refUsed = r.val then (if s.board.refGood.toNat.testBit other then other else 2) else s.board.refUsed
    ∃ t, exec (.refclkLoss r) s = .next t ∧ t.board = { s.board with
        refGood := s.board.refGood &&& ~~~ BitVec.ofNat 3 (2 ^ r.val)
        refUsed := source } ∧
      t.ink.latched.toNat.testBit 3 = true ∧ (s.board.refUsed = r.val → source = 2 → t.ready = false) ∧ (source ≠ 2 → t.ready = s.ready) ∧ t.mem = s.mem ∧
      ((if s.board.refSel then 1 else 0) = r.val → (∀ i < 9, (swPort t i).up = false) ∧ ((swPort s 0).up = true → HostCut s t)) ∧
      ((if s.board.refSel then 1 else 0) ≠ r.val → t.pcie = s.pcie ∧ t.petals = s.petals)) ∧
  (∀ (s : State) (r : Fin 3), s.board.refGood.toNat.testBit r.val = false →
    ∃ t, exec (.refclkReturn r) s = .next t ∧ t.board = { s.board with
        refGood := s.board.refGood ||| BitVec.ofNat 3 (2 ^ r.val)
        refUsed := if r.val < 2 ∧ s.board.refUsed = 2 ∧ started s = true then r.val else s.board.refUsed } ∧
      (r.val < 2 → s.board.refUsed = 2 → started s = true → t.ready = (s.board.stage == .service && s.pwr.module != 4)) ∧
      (r.val = 2 ∨ s.board.refUsed ≠ 2 → t.ready = s.ready) ∧ (r.val = 2 → ∀ j < 32, getPort t j = { getPort s j with timeAt := s.elapsed }) ∧
      t.petals = s.petals ∧ t.mem = s.mem ∧ t.pcie = s.pcie) ∧
  (∀ (s : State) (u : Fin 24) (p g f : Nat) (x : Petal), isFailed s u.val = false → started s = true → s.petals = [(p, x)] →
    pagesInUnit x u.val = [g] → g < 2 ^ 27 → rising x.loc = true →
    tierFrame { s with
      unitFailed := put s.unitFailed u.val true
      moves := s.moves.filter (fun m => !(moveUnits m).contains u.val) } (if u.val < 8 then hbmUnits else lpddrUnits) = some f →
    ∃ t y, exec (.memoryDeviceFailure u []) s = .next t ∧ isFailed t u.val = true ∧ getPetal t p = some y ∧ frameAt y g = f ∧
      (∀ q, q ≠ g → frameAt y q = frameAt x q) ∧ (∀ i < 32768, lineBad t p (32768 * g + i) = true) ∧ t.ink.latched.toNat.testBit 6 = true ∧
      (∀ m ∈ t.moves, u.val ∉ moveUnits m) ∧ t.mem = s.mem) ∧
  (∀ (s : State) (u : Fin 24) (p : PetalId) (n : BitVec 20) (q : Qp), isFailed s u.val = false → started s = true → 8 ≤ u.val →
    (∀ e ∈ s.petals, pagesInUnit e.2 u.val = []) → getQp s p.val n.toNat = some q → q.resident = false → q.wqes = [] →
    ∃ t, exec (.memoryDeviceFailure u [(p, n)]) s = .next t ∧ isFailed t u.val = true ∧ (getQp t p.val n.toNat).map (·.st) = some .error ∧
      t.ink.latched.toNat.testBit 6 = true) ∧
  (∀ (s : State) (c : Fin 320), exec (.calibrationRefresh c) s = .next s)

/-- R18, R323 to R325, R334: a completion ends its request, or is unexpected; a request times out and its tag is held; an invalidation; and
what the switch does with a packet between its ports. Where the rules leave it open, it states the choices of log entries 42 and 43, which
are the model's. -/
def Obligations.PcieRequests : Prop :=
  (∀ (s : State) (i : Fin 9) (tag : BitVec 14) (ok : Bool),
    let found := s.pcie.reqs.find? (fun r => r.tag == tag.toNat && r.port == i.val)
    (∀ r, found = some r → ∃ t, exec (.pcieCompletionReceive i tag ok) s = .next t ∧
      t.pcie.reqs = s.pcie.reqs.filter (fun q => q.tag != tag.toNat) ∧
      t.pcie.failed = s.pcie.failed ++ (if ok then [] else [(r.petal, r.task)]) ∧ InvsSettled s t ∧ (swPort t i.val).l1 = 0 ∧
      t.petals = s.petals ∧ t.mem = s.mem ∧ t.bus = s.bus ∧ t.ctr = s.ctr) ∧
    (found = none → ∃ t, exec (.pcieCompletionReceive i tag ok) s = .next t ∧ t.pcie.reqs = s.pcie.reqs ∧ t.pcie.failed = s.pcie.failed ∧
      t.pcie.aer = s.pcie.aer + 1 ∧ countVal t kPort i.val 6 = (countVal s kPort i.val 6 + 1) % 2 ^ 64 ∧
      (LogRoom s → t.logBuf = s.logBuf ++ [logged s 3 1 "unexpected completion" i.val 0xFFFF (leBytes 4 tag.toNat)]) ∧
      t.petals = s.petals ∧ t.mem = s.mem ∧ t.bus = s.bus)) ∧
  (∀ (s : State) (tag : BitVec 14) (r : PcieReq) (ns : Nat), s.pcie.reqs.find? (fun r => r.tag == tag.toNat) = some r →
    (s.pcie.cto.toNat, ns) ∈ [(0, 40000000), (1, 80000), (2, 8000000), (5, 40000000), (6, 160000000), (9, 640000000), (10, 2800000000),
      (13, 10000000000), (14, 48000000000)] →
    (r.since.toNat * 10 + ns ≤ s.elapsed.toNat * 10 → r.port ≤ 8 → ∃ t, exec (.pcieCompletionTimeout tag) s = .next t ∧
      t.pcie.reqs = s.pcie.reqs.filter (fun q => q.tag != tag.toNat) ∧ t.pcie.heldTags = s.pcie.heldTags ++ [(tag.toNat, s.elapsed)] ∧
      t.pcie.failed = s.pcie.failed ++ [(r.petal, r.task)] ∧ InvsSettled s t ∧
      countVal t kPort r.port 5 = (countVal s kPort r.port 5 + 1) % 2 ^ 64 ∧ t.petals = s.petals ∧ t.mem = s.mem ∧ t.bus = s.bus) ∧
    (s.elapsed.toNat * 10 < r.since.toNat * 10 + ns → exec (.pcieCompletionTimeout tag) s = .next s)) ∧
  (∀ (s : State) (tag : BitVec 14), ∃ (t : State) (l : List (Nat × W64)),
    exec (.pcieTagHoldExpiry tag) s = .next t ∧ t = { s with pcie := { s.pcie with heldTags := l } } ∧
    ∀ h, h ∈ l ↔ h ∈ s.pcie.heldTags ∧ (h.1 = tag.toNat → s.elapsed.toNat * 10 < h.2.toNat * 10 + 2 * completionNs s)) ∧
  (∀ (s : State) (every : Bool) (pasid : Option (BitVec 20)) (page : BitVec 52),
    let k := if every then 2 ^ 21 else (pasid.map (·.toNat)).getD (2 ^ 20)
    let hit (x : Xlat) : Prop := (k = 2 ^ 21 ∨ x.pasid = k) ∧ x.page = page.toNat
    ∃ t, exec (.atsInvalidation every pasid page) s = .next t ∧ (∀ x, x ∈ t.pcie.atc ↔ x ∈ s.pcie.atc ∧ ¬ hit x) ∧
      (∀ x, x ∈ t.pcie.host ↔ x ∈ s.pcie.host ∧ ¬ hit x) ∧
      InvsSettled { s with pcie := { s.pcie with invs := s.pcie.invs ++ [(k, page.toNat)] } } t ∧ t.pcie.reqs = s.pcie.reqs ∧
      countVal t kPort 0 7 = (countVal s kPort 0 7 + 1) % 2 ^ 64 ∧ t.petals = s.petals ∧ t.mem = s.mem) ∧
  (∀ (s : State) (source : Fin 9) (a : W64) (n : Fin 4097) (posted : Bool),
    let target := switchRoute s source.val a.toNat
    ((swPort s source.val).up = true → ∃ t, exec (.integratedSwitchRoute source a n posted) s = .next t ∧ (swPort t source.val).l1 = 0 ∧
      countVal t kPort source.val 0 = (countVal s kPort source.val 0 + n.val) % 2 ^ 64 ∧
      (target = source.val → t.sent = s.sent) ∧
      (target ≠ source.val → (swPort s target).up = true → t.sent = s.sent ++ [.routed source.val target] ∧ (swPort t target).l1 = 0 ∧
        countVal t kPort target 1 = (countVal s kPort target 1 + n.val) % 2 ^ 64) ∧
      (target ≠ source.val → (swPort s target).up = false → t.sent = s.sent ++ (if posted then [] else [.completion 1 false []]) ∧
        countVal t kPort source.val 2 = (countVal s kPort source.val 2 + 1) % 2 ^ 64) ∧
      t.petals = s.petals ∧ t.mem = s.mem ∧ t.bus = s.bus) ∧
    ((swPort s source.val).up = false → exec (.integratedSwitchRoute source a n posted) s = .next s))

/-- R326 to R335: the training of a port and its power states, links that go down, slot power, indicators, presence, the attention button
and re-arming, and the resets of PCI Express. Where the rules leave it open, it states the choices of log entries 41 and 43, which are the
model's. -/
def Obligations.PcieLinks : Prop :=
  (∀ (s : State) (i : Fin 9) (failed : BitVec 16) (swapped flit : Bool) (polarity : BitVec 16),
    let pass (n : Nat) (top : Bool) : Prop := ∀ l < n, failed.getLsbD (if top then 15 - l else l) = false
    (mayTrain s i.val = true → ∃ t, exec (.linkTraining i failed swapped polarity flit) s = .next t ∧ (swPort t i.val).laneFault = failed ∧
      (∀ n ∈ [16, 8, 4, 2, 1], (pass n false ∨ pass n true) → (∀ m ∈ [16, 8, 4, 2, 1], n < m → ¬ pass m false ∧ ¬ pass m true) →
        (swPort t i.val).up = true ∧ (swPort t i.val).width = n ∧ (swPort t i.val).active = n ∧ (swPort t i.val).flit = flit ∧
        (swPort t i.val).polarity = polarity ∧ (swPort t i.val).l1 = 0 ∧ ((swPort t i.val).reversed = true ↔ swapped = true ∨ ¬ pass n false) ∧
        (1 ≤ i.val → (swPort t i.val).slot.perst = false)) ∧
      (¬ pass 1 false → ¬ pass 1 true → (swPort t i.val).up = false) ∧
      (failed ≠ 0 → LogRoom s → t.logBuf = s.logBuf ++ [logged s 3 1 "PCIe lanes failed" i.val 0xFFFF (leBytes 2 failed.toNat)]) ∧
      (∀ j, j ≠ i.val → swPort t j = swPort s j) ∧ t.petals = s.petals ∧ t.mem = s.mem) ∧
    (mayTrain s i.val = false → exec (.linkTraining i failed swapped polarity flit) s = .next s)) ∧
  (∀ (s : State) (i : Fin 9) (off : Bool),
    let x := swPort s i.val
    let low (off : Bool) := if off = true ∧ x.l12En = true then 3 else if off = true ∧ x.l11En = true then 2 else 1
    (x.up = true → x.aspmL1 = true → x.l1 = 0 → exec (.linkL1Entry i) s = .next (setSwPort s i.val { x with l1 := low x.clkreqOff })) ∧
    (x.l1 = 0 → exec (.clkreqNChange i off) s = .next (setSwPort s i.val { x with clkreqOff := off })) ∧
    (x.l1 ≠ 0 → exec (.clkreqNChange i off) s = .next (setSwPort s i.val { x with
      clkreqOff := off
      l1 := low off }))) ∧
  (∀ (s : State) (i : Fin 9) (log : Fin 5), (swPort s i.val).up = true → (swPort s i.val).flit = true → (swPort s i.val).l0pEn = true →
    (swPort s i.val).l1 = 0 → 2 ^ log.val ≤ (swPort s i.val).width → 2 ^ log.val ≠ (swPort s i.val).active →
    ∃ t, exec (.linkWidthChange i log) s = .next t ∧ swPort t i.val = { swPort s i.val with active := 2 ^ log.val } ∧
      (∀ j, j ≠ i.val → swPort t j = swPort s j) ∧ countVal t kPort i.val 9 = (countVal s kPort i.val 9 + 1) % 2 ^ 64 ∧
      t.petals = s.petals ∧ t.mem = s.mem ∧ t.sent = s.sent) ∧
  (∀ (s : State) (i : Fin 8), (swPort s (i.val + 1)).up = true →
    (∃ t, exec (.surpriseRemoval i) s = .next t ∧ LinkLost s t (i.val + 1)) ∧
    (∃ t, exec (.secondaryBusReset i) s = .next t ∧ LinkLost s t (i.val + 1)) ∧
    (∃ r t, exec (.slotPowerOff i) s = .next t ∧ LinkLost s r (i.val + 1) ∧ t = modSlot r (i.val + 1) (fun x => { x with
      pcc := true
      perst := true
      offAt := if x.pwren then some (x.offAt.getD s.elapsed) else none }))) ∧
  (∀ (s : State) (i : Fin 8), (swPort s (i.val + 1)).up = false →
    exec (.surpriseRemoval i) s = .next (awake s) ∧ exec (.secondaryBusReset i) s = .next (awake s) ∧
    exec (.slotPowerOff i) s = .next (modSlot (awake s) (i.val + 1) (fun x => { x with
      pcc := true
      perst := true
      offAt := if x.pwren then some (x.offAt.getD s.elapsed) else none }))) ∧
  (∀ (s : State) (i : Fin 8),
    let x := (swPort s (i.val + 1)).slot
    (∃ t, exec (.slotPowerOn i) s = .next t ∧ t.sent = slotSent s (i.val + 1) x.ccEn ∧ SlotNow s t (i.val + 1) { x with
      pcc := false
      pwren := true
      offAt := none
      cc := true }) ∧
    (x.offAt.isSome = true → s.pwr.module = 0 → ∃ t, exec (.slotPowerOffDone i) s = .next t ∧ t.sent = slotSent s (i.val + 1) x.ccEn ∧
      SlotNow s t (i.val + 1) { x with
        pwren := false
        offAt := none
        cc := true }) ∧
    (∀ attn pwr : BitVec 2,
      let attn' := if attn = 0 then x.attnInd else attn
      let pwr' := if pwr = 0 then x.pwrInd else pwr
      (attn' ≠ x.attnInd ∨ pwr' ≠ x.pwrInd → ∃ t, exec (.slotIndicatorSet i attn pwr) s = .next t ∧ t.sent = slotSent s (i.val + 1) x.ccEn ∧
        SlotNow s t (i.val + 1) { x with
          attnInd := attn'
          pwrInd := pwr'
          cc := true }) ∧
      (attn' = x.attnInd → pwr' = x.pwrInd → exec (.slotIndicatorSet i attn pwr) s = .next (awake s))) ∧
    (x.pressed = false → ∃ t, exec (.attentionButton i true) s = .next t ∧ t.sent = slotSent s (i.val + 1) x.abpEn ∧
      SlotNow s t (i.val + 1) { x with
        pressed := true
        abp := true }) ∧
    (x.pressed = true → exec (.attentionButton i true) s = .next s) ∧
    exec (.attentionButton i false) s = .next (modSlot s (i.val + 1) (fun x => { x with pressed := false }))) ∧
  (∀ (s : State) (i : Fin 8) (prsnt inBand : Bool),
    let x := (swPort s (i.val + 1)).slot
    let now := prsnt || (inBand && !x.inBandOff)
    let hits := x.changes.filter (fun c => decide (s.elapsed.toNat * 10 < c.toNat * 10 + 1000000000)) ++ [s.elapsed]
    (now = presence x → ∃ t, exec (.presenceChange i prsnt inBand) s = .next t ∧ t.sent = s.sent ∧ SlotNow s t (i.val + 1) { x with
      prsnt := prsnt
      inBand := inBand }) ∧
    (now ≠ presence x → x.unstable = false → hits.length ≤ 16 →
      ∃ t, exec (.presenceChange i prsnt inBand) s = .next t ∧ t.sent = slotSent s (i.val + 1) x.pdcEn ∧ SlotNow s t (i.val + 1) { x with
        prsnt := prsnt
        inBand := inBand
        changes := hits
        pdc := true
        reported := now }) ∧
    (now ≠ presence x → x.unstable = false → 16 < hits.length → LogRoom s →
      ∃ t, exec (.presenceChange i prsnt inBand) s = .next t ∧ t.sent = s.sent ∧
        t.logBuf = s.logBuf ++ [logged s 3 2 "slot unstable" (i.val + 1) 0xFFFF []] ∧ SlotNow s t (i.val + 1) { x with
          prsnt := prsnt
          inBand := inBand
          changes := hits
          unstable := true }) ∧
    (now ≠ presence x → x.unstable = true → ∃ t, exec (.presenceChange i prsnt inBand) s = .next t ∧ t.sent = s.sent ∧
      SlotNow s t (i.val + 1) { x with
        prsnt := prsnt
        inBand := inBand
        changes := hits })) ∧
  (∀ (s : State) (i : Fin 8),
    let x := (swPort s (i.val + 1)).slot
    let armed := { x with
      unstable := false
      changes := [] }
    (presence x = x.reported → ∃ t, exec (.rearm i) s = .next t ∧ t.sent = s.sent ∧ SlotNow s t (i.val + 1) armed) ∧
    (presence x ≠ x.reported → ∃ t, exec (.rearm i) s = .next t ∧ (x.hpie = true → x.pdcEn = true → Out.slotMsi (i.val + 1) ∈ t.sent) ∧
      SlotNow s t (i.val + 1) { armed with
        pdc := true
        reported := presence x })) ∧
  (∀ (s : State), s.sec.sessions = [] → s.sec.d2 = none →
    (∃ t, exec .functionLevelReset s = .next t ∧ HostCut s t ∧ t.pcie.ports = (awake s).pcie.ports ∧ ∀ r ∈ s.pcie.reqs, r.port ≠ 0 → r ∈ t.pcie.reqs) ∧
    (∀ dlDown, ∃ t, exec (.hotReset dlDown) s = .next t ∧ HostCut s t ∧ PortsReset s t false ∧
      (swPort t 0).up = (!dlDown && (swPort s 0).up) ∧ (swPort t 0).aspmL1 = false)) ∧
  (∀ (s : State), s.pcie.flr.isSome = true → s.ready = true → exec .flrComplete s = .next { s with pcie := { s.pcie with
    flr := none
    retry := false } })

/-- R474, R476 to R482, R487: the challenge, the authorisation buffer and the opening of a debug session at each level, its close, query and
expiry; Nibs halted and resumed; the reads of Nibs, scratch and firmware; and the commands that retire the module and fuse the operator's
key. Where the rules leave it open, it states the choices of log entry 52, which are the model's. -/
def Obligations.DebugCommands : Prop :=
  (∀ (s : State) (m : Mbx), Served cmdDbgChallenge m s →
    let g := m.page.val
    ∃ (t : State) (n : Nat), Answers (.dbgChallenge m) m s t (replyData (n + Config.serial.toNat * 2 ^ 256) 40) ∧ n < 2 ^ 256 ∧
      look t.sec.nonces g = some ⟨leBytes 32 n, s.elapsed⟩ ∧ (∀ j, j ≠ g → look t.sec.nonces j = look s.sec.nonces j) ∧
      (g = 512 → t.sec.authBuf = []) ∧ (g ≠ 512 → t.sec.authBuf = s.sec.authBuf) ∧ t.sec.sessions = s.sec.sessions ∧ t.mem = s.mem) ∧
  (∀ (s : State) (page : PageId) (n : DbgNonce), look s.sec.nonces page.val = some n → rising s.sec.nonces = true →
    (n.since.toNat * 10 + 60000000000 ≤ s.elapsed.toNat * 10 → ∃ (t : State) (l : Tbl DbgNonce), exec (.dbgNonceLapse page) s = .next t ∧
      t = { s with sec := { s.sec with nonces := l } } ∧ look l page.val = none ∧ ∀ j, j ≠ page.val → look l j = look s.sec.nonces j) ∧
    (s.elapsed.toNat * 10 < n.since.toNat * 10 + 60000000000 → exec (.dbgNonceLapse page) s = .next s)) ∧
  (∀ (s : State) (m : Mbx), Served cmdDbgAuthLoad m s →
    let b := begun cmdDbgAuthLoad m s
    let a := mf m 0x10 0 12
    let n := mf m 0x10 16 8
    let bytes := leBytes n (mf m 0x20 0 1792)
    (1 ≤ n → n ≤ 224 → a + n ≤ 3796 → 0x20 + n ≤ m.length.toNat → mf m (0x20 + n) 0 (8 * (m.length.toNat - 0x20 - n)) = 0 →
      ∃ t, Answers (.dbgAuthLoad m) m s t replyOk ∧ t = { b with sec := { b.sec with authBuf := t.sec.authBuf } } ∧
        (∀ i < n, look t.sec.authBuf (a + i) = bytes[i]?) ∧ ∀ k, k < a ∨ a + n ≤ k → look t.sec.authBuf k = look b.sec.authBuf k) ∧
    (n = 0 ∨ 224 < n ∨ 3796 < a + n → Answers (.dbgAuthLoad m) m s b (replyErr stInvalidArgument 0))) ∧
  (∀ (s : State) (m : Mbx) (x : Petal) (k : KeySlot), Served cmdDbgOpen m s →
    let b := begun cmdDbgOpen m s
    let g := m.page.val
    let body := leBytes 64 (mf m 0x20 0 512)
    g ≠ 512 → 0x70 ≤ m.length.toNat → bodyLevel body = 1 →
    (b.sec.lifecycle ≠ .deployed → Answers (.dbgOpen m) m s b (replyErr stNotPermitted dtLifecycle)) ∧
    (b.sec.lifecycle = .deployed → deviceLevel b = 2 ∨ b.sec.d2.isSome = true → Answers (.dbgOpen m) m s b (replyErr stBusy 0x82)) ∧
    (b.sec.lifecycle = .deployed → deviceLevel b ≠ 2 → b.sec.d2 = none →
      ((sessionOf b g).isSome = true → Answers (.dbgOpen m) m s b (replyErr stBusy 0x81)) ∧
      (sessionOf b g = none → bodyFormed body 1 g = false → Answers (.dbgOpen m) m s (nonceUsed b g) (replyErr stInvalidArgument 0x84)) ∧
      (sessionOf b g = none → bodyFormed body 1 g = true → liveNonce b g ≠ some (bytesAt body 0x10 32) →
        Answers (.dbgOpen m) m s (nonceUsed b g) (replyErr stAuthFailed 0x85)) ∧
      (sessionOf b g = none → bodyFormed body 1 g = true → liveNonce b g = some (bytesAt body 0x10 32) → getPetal b g = some x →
        slotKey x (mf m 0x10 0 16) 3 = some k →
        (cmac (keyBytes k 32) body ≠ leBytes 16 (mf m 0x60 0 128) → Answers (.dbgOpen m) m s (nonceUsed b g) (replyErr stAuthFailed 0x87)) ∧
        (cmac (keyBytes k 32) body = leBytes 16 (mf m 0x60 0 128) → rising b.sec.nonces = true →
          ∃ t, Answers (.dbgOpen m) m s t replyOk ∧ sessionOf t g = some ⟨1, s.elapsed, bodySeconds body⟩ ∧ look t.sec.nonces g = none ∧
            (∀ j, j ≠ g → sessionOf t j = sessionOf b j) ∧
            (LogRoom b → t.logBuf = b.logBuf ++ [logged b 7 1 "debug session opened" 1 g []]) ∧ t.petals = b.petals ∧ t.nibs = b.nibs ∧ t.mem = s.mem)))) ∧
  (∀ (s : State) (m : Mbx), Served cmdDbgOpen m s →
    let b := begun cmdDbgOpen m s
    let buf := authBytes b
    let body := bytesAt buf 0 64
    m.page.val = 512 → mf m 0x10 0 (8 * (m.length.toNat - 16)) = 0 → (look b.sec.authBuf 4).isSome = true →
    (bodyLevel body = 3 → b.sec.lifecycle = .retired → sessionOf b 512 = none → b.sec.d2 = none →
      (authLoaded b = false → Answers (.dbgOpen m) m s (nonceUsed b 512) (replyErr stInvalidArgument 0x83)) ∧
      (authRefusal b m 3 body buf = none →
        ∃ t, Answers (.dbgOpen m) m s t replyOk ∧ sessionOf t 512 = some ⟨3, s.elapsed, bodySeconds body⟩ ∧ t.petals = b.petals ∧ t.mem = s.mem)) ∧
    (bodyLevel body = 2 → b.sec.lifecycle = .deployed → b.sec.sessions = [] → b.sec.d2 = none → authRefusal b m 2 body buf = none →
      (∀ e ∈ b.petals, e.2.control = true → e.2.causeDebug = false) → rising b.petals = true → b.launches = [] → b.cphReqs = [] → b.colOps = [] → b.sclCmds = [] → b.atnEntries = [] →
      let idle := b.petals.all (fun e => e.2.control || (e.2.st != .active && e.2.st != .quiescing))
      ∃ t, exec (.dbgOpen m) s = .next (postPending cmdDbgOpen m .debugDrain
          (if idle then some replyOk else none) t) ∧
        (∀ p x, getPetal b p = some x → x.control = false → getPetal t p = some { x with
          causeDebug := true
          st := if x.st = .active then .quiescing else x.st
          drainForced := if x.st = .active then false else x.drainForced }) ∧
        (∀ p x, getPetal b p = some x → x.control = true → getPetal t p = some x) ∧
        (idle = false →
          t.sec.d2 = some ⟨bodySeconds body, s.elapsed, false⟩ ∧ sessionOf t 512 = none ∧ t.keysWithdrawn = s.keysWithdrawn) ∧
        (idle = true → t.sec.d2 = none ∧ sessionOf t 512 = some ⟨2, s.elapsed, bodySeconds body⟩ ∧ t.keysWithdrawn = true))) ∧
  (∀ (s : State) (d : D2Open), s.sec.d2 = some d → d.forced = false →
    (d.since.toNat * 10 + 1000000000 ≤ s.elapsed.toNat * 10 → ∀ p x, s.petals = [(p, x)] → x.causeDebug = true → x.st = .quiescing →
      exec .dbgD2DrainExpiry s = .next (stopRunning { fresh s with sec := { s.sec with d2 := some { d with forced := true } } } p)) ∧
    (s.elapsed.toNat * 10 < d.since.toNat * 10 + 1000000000 → exec .dbgD2DrainExpiry s = .next s)) ∧
  (∀ (s : State) (m : Mbx), Served cmdDbgClose m s →
    let b := begun cmdDbgClose m s
    (∀ d, sessionOf b m.page.val = some d → 1 ≤ d.level → d.level ≤ 3 → rising b.sec.sessions = true → b.pwr.deferred = [] →
      ∃ t, Answers (.dbgClose m) m s t replyOk ∧ SessionClosed b t m.page.val d) ∧
    (sessionOf b m.page.val = none → Answers (.dbgClose m) m s b (replyErr stNotPermitted 0x88))) ∧
  (∀ (s : State) (page : PageId) (d : DbgSess), sessionOf s page.val = some d → rising s.sec.sessions = true → s.pwr.deferred = [] →
    (d.since.toNat * 10 + d.seconds * 1000000000 ≤ s.elapsed.toNat * 10 →
      ∃ t, exec (.dbgSessionExpiry page) s = .next t ∧ SessionClosed s t page.val d) ∧
    (s.elapsed.toNat * 10 < d.since.toNat * 10 + d.seconds * 1000000000 → exec (.dbgSessionExpiry page) s = .next s)) ∧
  (∀ (s : State) (m : Mbx), Served cmdDbgQuery m s →
    let b := begun cmdDbgQuery m s
    let device := ((look b.sec.sessions 512).map (·.level)).getD 0
    let own := if m.page.val ≠ 512 ∧ (look b.sec.sessions m.page.val).isSome = true then 1 else 0
    ∃ left, Answers (.dbgQuery m) m s b (replyData (device + 4 * own + left * 2 ^ 32) 8) ∧
      (look b.sec.sessions m.page.val = none → left = 0) ∧
      ∀ d, look b.sec.sessions m.page.val = some d → d.since.toNat ≤ s.elapsed.toNat → s.elapsed.toNat ≤ d.since.toNat + d.seconds * 100000000 →
        d.since.toNat + (d.seconds - left) * 100000000 ≤ s.elapsed.toNat ∧ s.elapsed.toNat < d.since.toNat + (d.seconds - left + 1) * 100000000) ∧
  (∀ (s : State) (m : Mbx) (resume : Bool) (c k : Nat), m.page.val ≠ 512 → Served cmdDbgNib (nibControl resume m) s →
    let b := begun cmdDbgNib (nibControl resume m) s
    let named (i : Nat) : Prop := i < 4 ∧ (mf m 0x10 16 4).testBit i = true
    (sessionOf b m.page.val).map (·.level) = some 1 → mf m 0x10 0 10 = c → petalCore b m.page.val c = some k →
    (resume = false → ∃ t, exec (.dbgNibHalt m) s = .next (answered (nibControl false m) replyOk t) ∧
      (∀ i, named i → (getNib b (4 * k + i)).st = .running ∨ (∃ w e, (getNib b (4 * k + i)).st = .waiting w e) →
        getNib t (4 * k + i) = { getNib b (4 * k + i) with halted := true }) ∧
      (∀ i, named i → (∃ w e, (getNib b (4 * k + i)).st = .waiting w e) → (getNib b (4 * k + i)).halted = false →
        ∀ q ∈ t.waiters, q.who ≠ .nib (4 * k + i)) ∧
      (∀ n, (∀ i, named i → n ≠ 4 * k + i) → getNib t n = getNib b n) ∧ t.petals = b.petals ∧ t.mem = s.mem) ∧
    (resume = true → (∀ i, named i → (getNib b (4 * k + i)).st = .running) →
      ∃ t, exec (.dbgNibResume m) s = .next (answered (nibControl true m) replyOk t) ∧
        (∀ i, named i → getNib t (4 * k + i) = { getNib b (4 * k + i) with halted := false }) ∧
        (∀ n, (∀ i, named i → n ≠ 4 * k + i) → getNib t n = getNib b n) ∧ t.petals = b.petals ∧ t.mem = s.mem)) ∧
  (∀ (s : State) (m : Mbx) (x : Petal) (k : Nat) (bs : List Byte), Served cmdDbgNibRead m s →
    let b := begun cmdDbgNibRead m s
    let g := m.page.val
    let n := 4 * k + mf m 0x10 16 2
    let file := mf m 0x14 0 4
    let a := mf m 0x18 0 48
    (sessionOf b g).map (·.level) = some 1 → getPetal b g = some x → x.cores[mf m 0x10 0 10]? = some k →
    ((getNib b n).halted = true ∨ (getNib b n).st = .stopped → regBytes b n file (mf m 0x14 8 5) = some bs → pdaInside x a bs.length = true →
      keyPresent b g = true → Answers (.dbgNibRead m) m s (memPut (raiseTo1 b ukNib n) g a bs) replyOk ∧
      (file, bs.length) ∈ [(0, 128), (1, 256), (2, 256), (3, 1024), (4, 5376)]) ∧
    ((getNib b n).halted = false → (getNib b n).st ≠ .stopped → Answers (.dbgNibRead m) m s (raiseTo1 b ukNib n) (replyErr stBusy 0x89))) ∧
  (∀ (s : State) (m : Mbx) (x : Petal) (k : Nat), Served cmdDbgScratchRead m s →
    let b := begun cmdDbgScratchRead m s
    let g := m.page.val
    let from_ := mf m 0x14 0 32
    let n := mf m 0x18 0 32
    let a := mf m 0x20 0 48
    let bs := (List.range n).map (fun i => scratchByte (getCore b k) (from_ + i))
    (sessionOf b g).map (·.level) = some 1 → getPetal b g = some x → x.cores[mf m 0x10 0 10]? = some k →
    from_ % 64 = 0 → n % 64 = 0 → 0 < n → from_ + n ≤ 2 ^ 20 →
    ((getCore b k).launch = none ∨ (∀ i < 4, (getNib b (4 * k + i)).halted = true) → pdaInside x a n = true → keyPresent b g = true →
      Answers (.dbgScratchRead m) m s (memPut (raiseTo1 b ukCore k) g a bs) replyOk) ∧
    ((getCore b k).launch ≠ none → (∃ i < 4, (getNib b (4 * k + i)).halted = false) →
      Answers (.dbgScratchRead m) m s (raiseTo1 b ukCore k) (replyErr stBusy 0x89))) ∧
  (∀ (s : State) (m : Mbx) (x : Petal) (c : Nat), Served cmdDbgFwRead m s →
    let b := begun cmdDbgFwRead m s
    let n := mf m 0x20 0 32
    let a := mf m 0x28 0 48
    (sessionOf b 512 = none → Answers (.dbgFwRead m) m s b (replyErr stNotPermitted 0x88)) ∧
    ((sessionOf b 512).map (·.level) = some 2 ∨ (sessionOf b 512).map (·.level) = some 3 → 1 ≤ n → n ≤ 2 ^ 20 → controlPetal b = some c →
      getPetal b c = some x → pdaInside x a n = true → keyPresent b c = true →
      ∃ bs, Answers (.dbgFwRead m) m s (memPut (fresh b) c a bs) replyOk ∧ bs.length = n)) ∧
  (∀ (s : State) (m : Mbx), Served cmdLifecycleRetire m s →
    let b := begun cmdLifecycleRetire m s
    (b.sec.lifecycle ≠ .deployed → Answers (.lifecycleRetire m) m s b (replyErr stNotPermitted dtLifecycle)) ∧
    (b.sec.lifecycle = .deployed → mf m 0x10 0 32 = 0x49544552 →
      (b.petals ≠ [] → Answers (.lifecycleRetire m) m s b (replyErr stNotPermitted 0x8A)) ∧
      (b.petals = [] → b.sec.sessions = [] → b.sec.d2 = none → ∃ t, Answers (.lifecycleRetire m) m s t replyOk ∧ t.mem = s.mem ∧ t.sec = { b.sec with
        identityOff := true
        lifecycle := .retired }))) ∧
  (∀ (s : State) (m : Mbx), Served cmdDbgOperatorKeySet m s →
    let b := begun cmdDbgOperatorKeySet m s
    b.sec.lifecycle = .deployed → sessionOf b 512 = none →
    (b.sec.operatorKey = none → Answers (.dbgOperatorKeySet m) m s { b with
      sec := { b.sec with operatorKey := some (leBytes 32 (mf m 0x20 0 256)) } } replyOk) ∧
    (b.sec.operatorKey.isSome = true → Answers (.dbgOperatorKeySet m) m s b (replyErr stNotPermitted 0x8B)))

/-- R525 to R527, R503, R514: the commands of the sideband, whose codes and layouts are those of the DMTF standards that R525 and R527 name
(entry 51, and 46 at W4): MCTP control and PLDM base where the Inkstand runs, PLDM monitoring with its firmware, and firmware update; at
module W4 each first starts a module reset. R483: the JTAG port (IEEE 1149.1, entry 55): IDCODE is 0x179105AF with its fields, BYPASS and
IDCODE are always available, the other instructions in MANUFACTURE or at D3, and at other times they select the bypass register and change
no pin. -/
def Obligations.SideCommands : Prop :=
  (∀ (s : State), s.pwr.module = 0 → inkUp s = true → s.ink.restarting = none →
    (∀ (op : BitVec 2) (eid : BitVec 8),
      (op.toNat ≤ 1 → eid ≠ 0 → eid ≠ 0xFF → ∃ t, exec (.setEndpointId op eid) s = .next t ∧ t = { s with
        ink := { s.ink with side := { s.ink.side with eid := eid } }
        sent := s.sent ++ [.sideband 0 1 [0, 0, eid, 0]] }) ∧
      (2 ≤ op.toNat ∨ eid = 0 ∨ eid = 0xFF → exec (.setEndpointId op eid) s = .next (sideReply s 0 1 [2]))) ∧
    exec .getEndpointId s = .next (sideReply s 0 2 [0, s.ink.side.eid, 0, 0]) ∧
    (∀ type : BitVec 8,
      (type = 0xFF ∨ type = 0 ∨ type = 1 → ∃ v, exec (.getMctpVersionSupport type) s = .next (sideReply (fresh s) 0 4 ([0, 1] ++ v)) ∧ v.length = 4) ∧
      (type ≠ 0xFF → type ≠ 0 → type ≠ 1 → exec (.getMctpVersionSupport type) s = .next (sideReply (fresh s) 0 4 [0x80]))) ∧
    exec .getMessageTypeSupport s = .next (sideReply s 0 5 [0, 1, 1]) ∧
    exec .getEndpointUuid s = .next (sideReply s 0 3 (0 :: leBytes 16 Config.uuid.toNat)) ∧
    exec .gettid s = .next (sideReply s 1 2 [0, s.ink.side.tid]) ∧
    (∀ tid : BitVec 8,
      (tid ≠ 0 → tid ≠ 0xFF → ∃ t, exec (.settid tid) s = .next t ∧ t = { s with
        ink := { s.ink with side := { s.ink.side with tid := tid } }
        sent := s.sent ++ [.sideband 1 1 [0]] }) ∧
      (tid = 0 ∨ tid = 0xFF → exec (.settid tid) s = .next (sideReply s 1 1 [2]))) ∧
    (∀ type : BitVec 6,
      let served : Prop := type = 0 ∨ type = 2 ∨ type = 5
      (served → ∃ v, exec (.getpldmversion type) s = .next (sideReply (fresh s) 1 3 ([0, 0, 0, 0, 0, 5] ++ v ++ leBytes 4 (crc32 v))) ∧ v.length = 4 ∧
        (type = 5 → v = [0x00, 0xF0, 0xF1, 0xF1])) ∧
      (¬ served → exec (.getpldmversion type) s = .next (sideReply (fresh s) 1 3 [0x83]) ∧
        exec (.getpldmcommands type) s = .next (sideReply s 1 5 [0x83])) ∧
      (served → exec (.getpldmcommands type) s = .next (sideReply s 1 5 (0 :: leBytes 32
        (if type = 0 then 0x3e else if type = 2 then 0x300000000000200020410 else 0x3c190006))))) ∧
    exec .getpldmtypes s = .next (sideReply s 1 4 (0 :: leBytes 8 0x25))) ∧
  (∀ (s : State), s.pwr.module = 0 → inkFirmware s = true → s.ink.restarting = none →
    (∃ v, exec .getpdrrepositoryinfo s = .next (sideReply (fresh s) 3 0x50 ([0, 0] ++ v)) ∧ v.length = 39) ∧
    (∀ record : W32, ∃ v, exec (.getpdr record) s = .next (sideReply (fresh s) 3 0x51 (0 :: v)) ∧ 11 ≤ v.length) ∧
    (∀ (id : W16) (size state : Nat) (bs : List Byte),
      (numericSensor s id.toNat = some (size, state, bs) → ∃ v, exec (.getsensorreading id) s =
        .next (sideReply (fresh s) 3 0x11 ([0, BitVec.ofNat 8 size, BitVec.ofNat 8 state] ++ v ++ bs)) ∧ v.length = 4) ∧
      (numericSensor s id.toNat = none → exec (.getsensorreading id) s = .next (sideReply (fresh s) 3 0x11 [0x80]))) ∧
    (∀ id : W16,
      (id = 0x500 → ∃ f : Nat → List Byte, exec (.getstatesensorreadings id) s = .next (sideReply (fresh s) 3 0x21 ([0, 8] ++ (List.range 8).flatMap f)) ∧
        ∀ i < 8, (f i).length = 4 ∧ (f i)[0]? = some 0 ∧ (f i)[1]? = some (if s.ink.latched.toNat.testBit i then 2 else 1)) ∧
      (id ≠ 0x500 → exec (.getstatesensorreadings id) s = .next (sideReply (fresh s) 3 0x21 [0x80]))) ∧
    (∀ enable a : BitVec 8, ∃ t, exec (.seteventreceiver enable a) s = .next t ∧ t = { s with
      ink := { s.ink with side := { s.ink.side with receiver := if enable = 0 then none else some a } }
      sent := s.sent ++ [.sideband 3 4 [0]] })) ∧
  (∀ (s : State), s.pwr.module = 0 → inkFirmware s = true ∨ s.board.stage = .recovery → s.ink.restarting = none →
    (∀ l,
      (s.ink.update.isSome = true → exec (.requestupdate l) s = .next (sideReply s 6 0x10 [0x81])) ∧
      (s.ink.update = none → imageFail s l = none → ∃ t, exec (.requestupdate l) s = .next t ∧ t.ink.update = some ⟨true, some l⟩ ∧
        slotOf t (updateSlot s) = ⟨.erased, false, false⟩ ∧ slotOf t (!updateSlot s) = slotOf s (!updateSlot s) ∧
        t.sent = s.sent ++ [.sideband 6 0x10 [0, 0, 0, 0]]) ∧
      (s.ink.update = none → ∀ e, imageFail s l = some e → ∃ t, exec (.requestupdate l) s = .next t ∧ t.ink.update = some ⟨true, none⟩ ∧ t.sec = s.sec ∧
        t.sent = s.sent ++ [.sideband 6 0x10 [0, 0, 0, 0], .sideband 6 0x17 [verifyResult (some e)]])) ∧
    (∀ l, s.ink.update = some ⟨true, some l⟩ →
      (s.ink.flashFails = false → ∃ t, exec (.activatefirmware false) s = .next t ∧ t.ink.update = none ∧
        slotOf t (updateSlot s) = ⟨.written l, true, false⟩ ∧ slotOf t (!updateSlot s) = slotOf s (!updateSlot s) ∧ t.sec.bootPref = updateSlot s ∧
        t.sent = s.sent ++ [.sideband 6 0x17 [0], .sideband 6 0x1A [0, 0, 0]]) ∧
      (s.ink.flashFails = true → ∃ t, exec (.activatefirmware false) s = .next t ∧ t.ink.update = none ∧ t.sec = s.sec ∧
        t.sent = s.sent ++ [.sideband 6 0x17 [1], .sideband 6 0x1A [0x85]]) ∧
      exec (.activatefirmware true) s = .next (sideReply s 6 0x1A [0x8C]) ∧
      exec .cancelupdate s = .next (sideReply { s with ink := { s.ink with update := none } } 6 0x1D (List.replicate 10 0))) ∧
    (sideUpdating s = false → exec .cancelupdate s = .next (sideReply s 6 0x1D [0x80]) ∧
      ∀ c, exec (.activatefirmware c) s = .next (sideReply s 6 0x1A [0x80]))) ∧
  (∀ (s : State) (i : Instr), i ∈ [.getEndpointId, .getMessageTypeSupport, .getEndpointUuid, .gettid, .getpldmtypes, .getpdrrepositoryinfo,
      .cancelupdate] →
    (1 ≤ s.pwr.module → s.pwr.module ≤ 3 → exec i s = exec i (awake s)) ∧
    (s.pwr.module = 4 → ∃ r q, ModuleReset s r .exitW4 ∧ Booting r q s.board.refSel 0 ∧ exec i s = exec i q) ∧
    (s.pwr.module = 0 → inkUp s = false ∨ s.ink.restarting.isSome = true → exec i s = .next s)) ∧
  (∀ (s : State) (a : Option (BitVec 7)), ∃ t, exec (.i3cDynamicAddress a) s = .next t ∧
    t = { s with ink := { s.ink with side := { s.ink.side with i3c := a } } } ∧ smbusAddress t = if a = none then some 0x5A else none) ∧
  (∀ (s : State),
    exec .jtagTapReset s = .next { s with jtag := ⟨.idcode, .idcode, .untouched⟩ } ∧
    exec .idcode s = .next { s with jtag := ⟨.idcode, .idcode, .untouched⟩ } ∧
    exec .bypass s = .next { s with jtag := ⟨.bypass, .bypass, .untouched⟩ } ∧
    (s.sec.lifecycle = .manufacture ∨ deviceLevel s = 3 →
      exec .samplePreload s = .next { s with jtag := ⟨.samplePreload, .samplePreload, .untouched⟩ } ∧
      exec .extest s = .next { s with jtag := ⟨.extest, .extest, .boundary⟩ } ∧ exec .intest s = .next { s with jtag := ⟨.intest, .intest, .boundary⟩ } ∧
      exec .clamp s = .next { s with jtag := ⟨.clamp, .clamp, .clamped⟩ } ∧ exec .highz s = .next { s with jtag := ⟨.highz, .highz, .highz⟩ }) ∧
    (s.sec.lifecycle ≠ .manufacture → deviceLevel s ≠ 3 →
      exec .samplePreload s = .next { s with jtag := ⟨.samplePreload, .bypass, .untouched⟩ } ∧
      exec .extest s = .next { s with jtag := ⟨.extest, .bypass, .untouched⟩ } ∧ exec .intest s = .next { s with jtag := ⟨.intest, .bypass, .untouched⟩ } ∧
      exec .clamp s = .next { s with jtag := ⟨.clamp, .bypass, .untouched⟩ } ∧ exec .highz s = .next { s with jtag := ⟨.highz, .bypass, .untouched⟩ })) ∧
  (∀ (s : State), s.jtag.selected = .idcode → ∃ v, jtagCapture s = some v ∧ v = 0x179105AF ∧ v.toNat / 2 ^ 28 = 1 ∧ v.toNat / 2 ^ 12 % 2 ^ 16 = 0x7910 ∧
    v.toNat / 2 % 2 ^ 11 = 0x2D7 ∧ v.toNat % 2 = 1) ∧
  (∀ (s : State), s.jtag.selected = .bypass → jtagCapture s = some 0) ∧
  (∀ (s : State) (sel : Bool) (w : W64), s.board.resetAt = some w → w.toNat * 10 + 10000000 ≤ s.elapsed.toNat * 10 →
    ∃ t, exec (.moduleReset sel) s = .next t ∧ t.jtag = ⟨.idcode, .idcode, .untouched⟩)

/-- A step takes the command at the front of the queue and runs it with the queue's rest; on an empty queue one step of the elapsed counter
passes (R24; that it does so there is the model's choice, entry 1), and a command put in front is the next to run. Every command runs in
every state: exec answers a next state, but for a REGISTER_WRITE of an offset at which the interrupt controller has no register (R437, entry
61). Where the rules leave it open, it states the choices of log entry 4, which are the model's. -/
def Obligations.StepRunsQueue : Prop :=
  (∀ (s : State) (c : Instr) (rest : List Instr), s.pending = c :: rest → step s = exec c { s with pending := rest }) ∧
  (∀ (s : State) (c : Instr), step (s.withCommand c) = exec c s) ∧
  (∀ (s : State), s.pending = [] → s.board.stage = .off ∨ s.pwr.module = 4 → step s = .next s) ∧
  (∀ (s : State), s.pending = [] → s.board.stage ≠ .off → s.pwr.module ≠ 4 → ∃ t, step s = .next t ∧ t.elapsed = s.elapsed + 1 ∧ t = { s with
    elapsed := t.elapsed
    ctr := t.ctr
    wrapped := t.wrapped }) ∧
  (∀ (s : State) (nbits w : Nat), s.withFetchWord nbits w = s) ∧
  (∀ (s : State) (c : Instr), (∃ t, exec c s = .next t) ∨
      ∃ (o : BitVec 17) (v : W32), c = .registerWrite (.hub o) v ∧ NoHubRegister o.toNat ∧ exec c s = .fault .noSuchRegister)

/-- R3, R24, R288 to R291, R316, R324, R326, R336, R437, R483, R504, R529: what reset leaves: no petal, no session, no command waiting,
nothing in memory, every counter and the elapsed counter at zero, PF0 and the ports at their reset configuration, rails at their reset
target, interrupt sources without a target and disabled, IDCODE selected, and a module without input. Where the rules leave it open, it
states the choices of log entries 5, 41, 55 and 68, which are the model's. -/
def Obligations.ResetState : Prop :=
  let s := State.reset
  s.pending = [] ∧ s.elapsed = 0 ∧ s.ready = false ∧ s.board.stage = .off ∧ (∀ p, getPetal s p = none) ∧
  (∀ g, (getPage s g).session = 0 ∧ (getPage s g).busy = false ∧ (getPage s g).overrun = false ∧ (getPage s g).done = 0 ∧ (getPage s g).rsp = 0) ∧
  (∀ kind inst fld, countVal s kind inst fld = 0) ∧ s.mem = [] ∧ Canonical s ∧ s.poison = [] ∧ s.launches = [] ∧ s.waiters = [] ∧
  s.busMaster = false ∧ s.pcie.memSpace = false ∧ s.pcie.bar0 = 0 ∧ s.pcie.bar2 = 0 ∧ s.pcie.bar4 = 0 ∧ s.pcie.msixEnable = false ∧
  s.pcie.ats = false ∧ s.pcie.cto = 0 ∧ s.pcie.retry = true ∧ (∀ v, msixEntry s v = 1 <<< 96) ∧
  (∀ i, (swPort s i).up = false ∧ (swPort s i).laneFault = 0 ∧ (swPort s i).reversed = false ∧ (swPort s i).polarity = 0 ∧
    (swPort s i).slot.unstable = false ∧ (swPort s i).slot.pcc = false ∧ (swPort s i).slot.changes = []) ∧
  (∀ r, lookD s.pwr.targets r 1600 = 1600) ∧ s.pwr.module = 0 ∧ (∀ k, unitLevel s ukNib k = 0) ∧
  (∀ n, (getSrc s n).priority = 0 ∧ (getSrc s n).target = 0x7F ∧ (getSrc s n).enable = false ∧ (getSrc s n).pending = false ∧ (getSrc s n).active = false) ∧
  (∀ k, (getProc s k).threshold = 0 ∧ (getProc s k).stack = []) ∧ jtagCapture s = some 0x179105AF ∧ s.sec.sessions = [] ∧ s.sec.rollback = 0 ∧
  (∀ w, (windowOf s w).owner = 0x3FF)

/-- R293 to R295: a page that does not answer leaves the module as it was; a doorbell of a busy page is an overrun; the checks of R295 in
their order, each with its response; and how a response stands in the page. Where the rules leave it open, it states the choices of log
entries 26 and 27, which are the model's. -/
def Obligations.MailboxProtocol : Prop :=
  (∀ (c : Cmd) (body : Mbx → State → State × Ans) (m : Mbx) (s : State),
    let g := m.page.val
    let b := begun c m s
    let pg := getPage b g
    let len := m.length.toNat
    let refused (r : Reply) : Prop := mailbox c body m s = answered m r b
    (pageAnswers s g = false → mailbox c body m s = s) ∧
    (pageAnswers s g = true → pg.busy = true → (getPage (mailbox c body m s) g).overrun = true ∧ (getPage (mailbox c body m s) g).rsp = pg.rsp ∧
      (getPage (mailbox c body m s) g).done = pg.done) ∧
    (pageAnswers s g = true → pg.busy = false →
      (c.opcode ≠ 0 → pg.session = 0 → refused (replyErr 0x08 0x90)) ∧ (c.opcode ≠ 0 → pg.session = 3 → refused (replyErr 0x08 0x91)) ∧
      (c.opcode ≠ 0 → pg.session = 2 → refused (replyErr 0x11 0)) ∧
      (c.opcode = 0 ∨ pg.session = 1 → b.board.stage ≠ .recovery →
        (len % 4 ≠ 0 ∨ len < 16 ∨ len < c.len ∨ 256 < len → refused (replyErr 0x09 0)) ∧
        (len % 4 = 0 → 16 ≤ len → c.len ≤ len → len ≤ 256 →
          ((c.pages = .device ∧ g ≠ 512) ∨ (c.pages = .own ∧ g = 512) ∨ (c.petalAt = true ∧ g ≠ 512 ∧ mf m 0x10 0 9 ≠ g) → refused (replyErr 0x06 0)) ∧
          ((c.pages = .device → g = 512) → (c.pages = .own → g ≠ 512) → (c.petalAt = true → g = 512 ∨ mf m 0x10 0 9 = g) →
            (∀ x, g ≠ 512 → getPetal b g = some x → recTags x.record ≤ m.tag.toNat → refused (replyErr 0x04 0x92)) ∧
            (∀ x, g ≠ 512 → getPetal b g = some x → m.tag.toNat < recTags x.record → tagHeld x m.tag.toNat = true → refused (replyErr 0x04 0x93)) ∧
            (g = 512 → (∃ q ∈ pg.pends, q.tag = m.tag.toNat) → refused (replyErr 0x04 0x93)) ∧
            ((g = 512 ∧ (∀ q ∈ pg.pends, q.tag ≠ m.tag.toNat)) ∨
                (g ≠ 512 ∧ ∃ x, getPetal b g = some x ∧ m.tag.toNat < recTags x.record ∧ tagHeld x m.tag.toNat = false) →
              (c.canPend = true → freeSlots pg = [] → refused (replyErr 0x02 0x94)) ∧
              (c.canPend = true → freeSlots pg ≠ [] ∨ c.canPend = false → reservedClear c m = false → refused (replyErr 0x04 0)))))))) ∧
  (∀ (m : Mbx) (r : Reply) (s : State), r.status < 2 ^ 8 → r.detail < 2 ^ 24 → r.bytes ≤ 240 →
    let old := (getPage s m.page.val).rsp.toNat
    let new := (getPage (answered m r s) m.page.val).rsp.toNat
    new % 2 ^ 8 = r.status ∧ new / 2 ^ 8 % 2 ^ 24 = r.detail ∧ new / 2 ^ 32 % 2 ^ 16 = m.tag.toNat ∧ new / 2 ^ 48 % 2 ^ 16 = 16 + r.bytes ∧
    new / 2 ^ 64 % 2 ^ 64 = 0 ∧ new / 2 ^ 128 % 2 ^ (8 * r.bytes) = r.payload % 2 ^ (8 * r.bytes) ∧
    new / 2 ^ (8 * (16 + r.bytes)) = old / 2 ^ (8 * (16 + r.bytes)) ∧ (getPage (answered m r s) m.page.val).done = (getPage s m.page.val).done + 1 ∧
    (getPage (answered m r s) m.page.val).busy = false ∧ (m.irq = false → (answered m r s).sent = s.sent) ∧ (answered m r s).mem = s.mem ∧
    ∀ k, k ≠ m.page.val → getPage (answered m r s) k = getPage s k)

/-- R134, R152, R159: whatever a step does, it keeps the memory of the petals, what the module has written on the bus, and the marks of the
uncorrectable lines in the canonical form of entry 6: every byte and every mark is listed once, in the order of the addresses. -/
def Obligations.MemoryStaysCanonical : Prop :=
  ∀ (s t : State), Canonical s → step s = .next t → Canonical t

/-- R84 to R88, R113: decoding the word of a syllable gives the syllable back, whatever the stop bit, for every syllable of the opcode map
with every field at every value; and a word that decodes is the word of what it decodes to, so that no bit of an encoding is dropped. -/
def Obligations.SyllableRoundTrip : Prop :=
  (∀ (x : Syl) (stop : Bool), sylOk x = true →
    decodeSyl ((sylEnc x).1 + (if stop then 4 else 0)) = some x ∧ (sylEnc x).1 < 2 ^ (8 * sylBytes x) ∧ (sylEnc x).1 / 4 % 2 = 0 ∧
    ((sylEnc x).1.testBit 3 = (sylEnc x).2)) ∧
  (∀ (w : Nat) (x : Syl), w < (if w.testBit 3 then 2 ^ 32 else 2 ^ 16) → decodeSyl w = some x →
    sylOk x = true ∧ sylEnc x = (w - 4 * (w / 4 % 2), w.testBit 3))

/-- R28: g0 reads as zero, and a write to it is discarded without a fault. -/
def Obligations.RegisterZero : Prop :=
  (∀ f : Vector W32 32, gGet f 0 = 0) ∧ (∀ (x : Nib) (v : W32), landOne x (.g 0 v) = x) ∧
  (∀ o ∈ aluRows, ∀ (s : State) (n : NibId) (f : AluForm), Issues s n.val (o.syl f) → (aluRegs f).1 = 0 →
    ∃ t, exec (o.ins n true f) s = .next t ∧ (getNib t n.val).g = (readyNib s n.val).g ∧ (getNib t n.val).st = .running) ∧
  (∀ o ∈ immRows, ∀ (s : State) (n : NibId) (f : LI), Issues s n.val (o.syl f) → f.d = 0 →
    ∃ t, exec (o.ins n true f) s = .next t ∧ (getNib t n.val).g = (readyNib s n.val).g ∧ (getNib t n.val).st = .running) ∧
  (∀ o ∈ loadRows, ∀ (s : State) (n : NibId) (f : LI), Issues s n.val (o.syl f) → f.d = 0 →
    accessOk (addrLI (readyNib s n.val) f o.val.1) o.val.1 → cleanAccess s n.val (addrLI (readyNib s n.val) f o.val.1) o.val.1 →
    ∃ t, exec (o.ins n true f) s = .next t ∧ (getNib t n.val).g = (readyNib s n.val).g ∧ (getNib t n.val).st = .running)

/-- R16, R134, R148, R150, R152: what is written to petal memory is what is then read there, no other byte of any petal changes, and memory
keeps its canonical form; a poisoned line takes only a whole write, which clears it; without a key nothing is written. Where the rules leave
it open, it states the choices of log entry 6, which are the model's. -/
def Obligations.PetalMemory : Prop :=
  (∀ (s : State) (p a : Nat) (bs : List Byte), keyPresent s p = true → s.unitFailed = [] → a + bs.length ≤ 2 ^ 48 →
    (∀ l ∈ pdaLines a bs.length, look s.poison (memKey p (64 * l) / 64) ≠ some true) →
    memRead (memPut s p a bs) p a bs.length = bs ∧ (memWrite s p a bs).2 = true ∧
    (∀ k, k < memKey p a ∨ memKey p a + bs.length ≤ k → look (memPut s p a bs).mem k = look s.mem k) ∧
    (Memory.wf s.mem → Memory.wf (memPut s p a bs).mem) ∧ (memPut s p a bs).poison = s.poison ∧ (memPut s p a bs).freeCtr = s.freeCtr) ∧
  (∀ (s : State) (p l : Nat) (bs : List Byte), keyPresent s p = true → s.unitFailed = [] → l < 2 ^ 42 → look s.poison (memKey p (64 * l) / 64) = some true →
    rising s.poison = true →
    (bs.length = 64 → memRead (memPut s p (64 * l) bs) p (64 * l) 64 = bs ∧ lineBad (memPut s p (64 * l) bs) p l = false) ∧
    (1 ≤ bs.length → bs.length < 64 → (memPut s p (64 * l) bs).mem = s.mem ∧ lineBad (memPut s p (64 * l) bs) p l = true ∧
      (memWrite s p (64 * l) bs).2 = false)) ∧
  (∀ (s : State) (p a : Nat) (bs : List Byte), keyPresent s p = false → memPut s p a bs = s)
end

