-- ==== Sys2Proof/Laws/Tbl.lean ====
section
/-!
SUPPORT. What the operations on tables do, and that each keeps the keys strictly rising.
-/

namespace Sys2Proof.Machine

/-- Every key of a table lies above a bound. -/
def above {α : Type} (b : Nat) (t : Tbl α) : Prop := ∀ e ∈ t, b < e.1

theorem rising_cons {α : Type} (j : Nat) (x : α) (t : Tbl α) :
    rising ((j, x) :: t) = true ↔ above j t ∧ rising t = true := by
  induction t generalizing j x with
  | nil => simp [rising, above]
  | cons e t ih =>
    obtain ⟨k, y⟩ := e
    simp only [rising, Bool.and_eq_true, decide_eq_true_eq]
    constructor
    · intro h
      refine ⟨?_, h.2⟩
      have := ((ih k y).mp h.2).1
      intro e he
      rcases List.mem_cons.mp he with rfl | he
      · exact h.1
      · exact Nat.lt_trans h.1 (this e he)
    · intro h
      exact ⟨h.1 (k, y) (List.mem_cons_self ..), h.2⟩

@[simp] theorem look_nil {α : Type} (k : Nat) : look ([] : Tbl α) k = none := rfl

theorem look_cons {α : Type} (j : Nat) (x : α) (t : Tbl α) (k : Nat) :
    look ((j, x) :: t) k = if j = k then some x else look t k := rfl

@[simp] theorem look_put_self {α : Type} (t : Tbl α) (k : Nat) (x : α) : look (put t k x) k = some x := by
  induction t with
  | nil => simp [put, look]
  | cons e t ih =>
    obtain ⟨j, y⟩ := e
    simp only [put]
    split
    · simp [look]
    · split
      · simp [look]
      · rename_i h _
        simp only [look]
        rw [if_neg (by omega)]
        exact ih

theorem look_put_ne {α : Type} (t : Tbl α) {k j : Nat} (x : α) (h : k ≠ j) : look (put t k x) j = look t j := by
  induction t with
  | nil => simp [put, look, h]
  | cons e t ih =>
    obtain ⟨i, y⟩ := e
    simp only [put]
    split
    · simp [look, h]
    · split
      · subst_vars
        simp [look, h]
      · simp only [look, ih]

theorem look_put {α : Type} (t : Tbl α) (k j : Nat) (x : α) :
    look (put t k x) j = if k = j then some x else look t j := by
  by_cases h : k = j
  · subst h; simp
  · simp [h, look_put_ne t x h]

@[simp] theorem lookD_put_self {α : Type} (t : Tbl α) (k : Nat) (x d : α) : lookD (put t k x) k d = x := by simp [lookD]

theorem lookD_put_ne {α : Type} (t : Tbl α) {k j : Nat} (x d : α) (h : k ≠ j) : lookD (put t k x) j d = lookD t j d := by
  simp [lookD, look_put_ne t x h]

theorem above_put {α : Type} {b : Nat} {t : Tbl α} {k : Nat} {x : α} (h : above b t) (hk : b < k) : above b (put t k x) := by
  induction t with
  | nil => intro e he; simp [put] at he; subst he; exact hk
  | cons f t ih =>
    obtain ⟨j, y⟩ := f
    have ht : above b t := fun e he => h e (List.mem_cons_of_mem _ he)
    have hj : b < j := h (j, y) (List.mem_cons_self ..)
    intro e he
    simp only [put] at he
    split at he
    · rcases List.mem_cons.mp he with rfl | he
      · exact hk
      · exact h e he
    · split at he
      · rcases List.mem_cons.mp he with rfl | he
        · exact hk
        · exact ht e he
      · rcases List.mem_cons.mp he with rfl | he
        · exact hj
        · exact ih ht e he

@[simp] theorem rising_put {α : Type} {t : Tbl α} (k : Nat) (x : α) (h : rising t = true) : rising (put t k x) = true := by
  induction t with
  | nil => rfl
  | cons f t ih =>
    obtain ⟨j, y⟩ := f
    have hs := (rising_cons j y t).mp h
    simp only [put]
    split
    · rename_i hk
      refine (rising_cons ..).mpr ⟨?_, h⟩
      intro e he
      rcases List.mem_cons.mp he with rfl | he
      · exact hk
      · exact Nat.lt_trans hk (hs.1 e he)
    · split
      · subst_vars
        exact (rising_cons ..).mpr hs
      · exact (rising_cons ..).mpr ⟨above_put hs.1 (by omega), ih hs.2⟩

theorem rising_filter {α : Type} {t : Tbl α} (p : Nat × α → Bool) (h : rising t = true) : rising (t.filter p) = true := by
  induction t with
  | nil => rfl
  | cons f t ih =>
    obtain ⟨j, y⟩ := f
    have hs := (rising_cons j y t).mp h
    simp only [List.filter_cons]
    split
    · exact (rising_cons ..).mpr ⟨fun e he => hs.1 e (List.mem_filter.mp he).1, ih hs.2⟩
    · exact ih hs.2

theorem rising_sel {α : Type} {t : Tbl α} (p : Nat → α → Bool) (h : rising t = true) : rising (sel t p) = true :=
  rising_filter _ h

theorem rising_del {α : Type} {t : Tbl α} (k : Nat) (h : rising t = true) : rising (del t k) = true := by
  induction t with
  | nil => rfl
  | cons f t ih =>
    obtain ⟨j, y⟩ := f
    have hs := (rising_cons j y t).mp h
    simp only [del]
    split
    · exact hs.2
    · refine (rising_cons ..).mpr ⟨?_, ih hs.2⟩
      have : ∀ (u : Tbl α), above j u → above j (del u k) := by
        intro u
        induction u with
        | nil => intro h; exact h
        | cons g u ih2 =>
          obtain ⟨i, z⟩ := g
          intro h
          simp only [del]
          split
          · exact fun e he => h e (List.mem_cons_of_mem _ he)
          · intro e he
            rcases List.mem_cons.mp he with rfl | he
            · exact h _ (List.mem_cons_self ..)
            · exact ih2 (fun e he => h e (List.mem_cons_of_mem _ he)) e he
      exact this t hs.1

theorem rising_storeBytes {m : Memory} (a : Nat) (bs : List Byte) (h : rising m = true) : rising (storeBytes m a bs) = true := by
  induction bs generalizing m a with
  | nil => exact h
  | cons b bs ih => exact ih (a + 1) (rising_put a b h)

theorem rising_dropCells {m : Memory} (a n : Nat) (h : rising m = true) : rising (dropCells m a n) = true := rising_filter _ h

theorem rising_upd {α : Type} {t : Tbl α} (k : Nat) (f : α → α) (h : rising t = true) : rising (upd t k f) = true := by
  unfold upd
  split
  · exact rising_put _ _ h
  · exact h

theorem rising_mapT {α : Type} {t : Tbl α} (f : Nat → α → α) (h : rising t = true) : rising (mapT t f) = true := by
  induction t with
  | nil => rfl
  | cons g t ih =>
    obtain ⟨j, y⟩ := g
    have hs := (rising_cons j y t).mp h
    refine (rising_cons ..).mpr ⟨?_, ih hs.2⟩
    intro e he
    simp only [List.mem_map] at he
    obtain ⟨e', he', rfl⟩ := he
    exact hs.1 e' he'

/-- A byte outside the stored range is as it was. -/
theorem look_storeBytes_outside (m : Memory) (a : Nat) (bs : List Byte) (k : Nat) (h : k < a ∨ a + bs.length ≤ k) :
    look (storeBytes m a bs) k = look m k := by
  induction bs generalizing m a with
  | nil => rfl
  | cons b bs ih =>
    simp only [List.length_cons] at h
    rw [storeBytes, ih _ _ (by omega), look_put_ne m b (by omega)]

/-- A byte inside the stored range is the byte stored there. -/
theorem look_storeBytes_inside (m : Memory) (a : Nat) (bs : List Byte) (i : Nat) (h : i < bs.length) :
    look (storeBytes m a bs) (a + i) = bs[i]? := by
  induction bs generalizing m a i with
  | nil => simp at h
  | cons b bs ih =>
    cases i with
    | zero =>
      rw [storeBytes, look_storeBytes_outside _ _ _ _ (by omega)]
      simp
    | succ i =>
      simp only [List.length_cons] at h
      rw [storeBytes, show a + (i + 1) = a + 1 + i by omega, ih _ _ _ (by omega)]
      simp

@[simp] theorem loadBytes_length (m : Memory) (d : Nat → Byte) (a n : Nat) : (loadBytes m d a n).length = n := by
  induction n generalizing a with
  | zero => rfl
  | succ n ih => simp [loadBytes, ih]

theorem getElem?_loadBytes (m : Memory) (d : Nat → Byte) (a n i : Nat) (h : i < n) :
    (loadBytes m d a n)[i]? = some (lookD m (a + i) (d (a + i))) := by
  induction n generalizing a i with
  | zero => omega
  | succ n ih =>
    cases i with
    | zero => rfl
    | succ i =>
      simp only [loadBytes, List.getElem?_cons_succ]
      rw [ih (a + 1) i (by omega), show a + 1 + i = a + (i + 1) by omega]

/-- A read of a range that has just been stored gives what was stored. -/
theorem loadBytes_storeBytes (m : Memory) (d : Nat → Byte) (a : Nat) (bs : List Byte) : loadBytes (storeBytes m a bs) d a bs.length = bs := by
  apply List.ext_getElem?
  intro i
  by_cases h : i < bs.length
  · rw [getElem?_loadBytes _ _ _ _ _ h, lookD, look_storeBytes_inside _ _ _ _ h, List.getElem?_eq_getElem h]
    rfl
  · rw [List.getElem?_eq_none (by simp; omega), List.getElem?_eq_none (by omega)]

theorem loadBytes_congr (m m' : Memory) (d : Nat → Byte) (a n : Nat) (h : ∀ k, a ≤ k → k < a + n → look m k = look m' k) :
    loadBytes m d a n = loadBytes m' d a n := by
  induction n generalizing a with
  | zero => rfl
  | succ n ih =>
    simp only [loadBytes, lookD]
    rw [h a (by omega) (by omega), ih (a + 1) (fun k h1 h2 => h k (by omega) (by omega))]

end Sys2Proof.Machine
end

