-- ==== Sys2Proof/Laws/State.lean ====
section
/-!
SUPPORT. What each update of State leaves of every field, and what the accessors read after an update.
-/

namespace Sys2Proof.Machine

@[simp] theorem fresh_elapsed (s : State) : (fresh s).elapsed = s.elapsed := rfl
@[simp] theorem fresh_pending (s : State) : (fresh s).pending = s.pending := rfl
@[simp] theorem fresh_nibs (s : State) : (fresh s).nibs = s.nibs := rfl
@[simp] theorem fresh_cores (s : State) : (fresh s).cores = s.cores := rfl
@[simp] theorem fresh_petals (s : State) : (fresh s).petals = s.petals := rfl
@[simp] theorem fresh_pages (s : State) : (fresh s).pages = s.pages := rfl
@[simp] theorem fresh_launches (s : State) : (fresh s).launches = s.launches := rfl
@[simp] theorem fresh_waiters (s : State) : (fresh s).waiters = s.waiters := rfl
@[simp] theorem fresh_ctr (s : State) : (fresh s).ctr = s.ctr := rfl
@[simp] theorem fresh_wrapped (s : State) : (fresh s).wrapped = s.wrapped := rfl
@[simp] theorem fresh_windows (s : State) : (fresh s).windows = s.windows := rfl
@[simp] theorem fresh_msixOwner (s : State) : (fresh s).msixOwner = s.msixOwner := rfl
@[simp] theorem fresh_msixTable (s : State) : (fresh s).msixTable = s.msixTable := rfl
@[simp] theorem fresh_msixPend (s : State) : (fresh s).msixPend = s.msixPend := rfl
@[simp] theorem fresh_pcie (s : State) : (fresh s).pcie = s.pcie := rfl
@[simp] theorem fresh_busMaster (s : State) : (fresh s).busMaster = s.busMaster := rfl
@[simp] theorem fresh_ready (s : State) : (fresh s).ready = s.ready := rfl
@[simp] theorem fresh_devArea (s : State) : (fresh s).devArea = s.devArea := rfl
@[simp] theorem fresh_mem (s : State) : (fresh s).mem = s.mem := rfl
@[simp] theorem fresh_poison (s : State) : (fresh s).poison = s.poison := rfl
@[simp] theorem fresh_plots (s : State) : (fresh s).plots = s.plots := rfl
@[simp] theorem fresh_retired (s : State) : (fresh s).retired = s.retired := rfl
@[simp] theorem fresh_sparesUsed (s : State) : (fresh s).sparesUsed = s.sparesUsed := rfl
@[simp] theorem fresh_frameCorr (s : State) : (fresh s).frameCorr = s.frameCorr := rfl
@[simp] theorem fresh_unitCorr (s : State) : (fresh s).unitCorr = s.unitCorr := rfl
@[simp] theorem fresh_unitFailed (s : State) : (fresh s).unitFailed = s.unitFailed := rfl
@[simp] theorem fresh_moves (s : State) : (fresh s).moves = s.moves := rfl
@[simp] theorem fresh_walks (s : State) : (fresh s).walks = s.walks := rfl
@[simp] theorem fresh_scratchWalks (s : State) : (fresh s).scratchWalks = s.scratchWalks := rfl
@[simp] theorem fresh_scrubHbm (s : State) : (fresh s).scrubHbm = s.scrubHbm := rfl
@[simp] theorem fresh_scrubLpddr (s : State) : (fresh s).scrubLpddr = s.scrubLpddr := rfl
@[simp] theorem fresh_scrubHub (s : State) : (fresh s).scrubHub = s.scrubHub := rfl
@[simp] theorem fresh_hbmFilled (s : State) : (fresh s).hbmFilled = s.hbmFilled := rfl
@[simp] theorem fresh_lpddrFilled (s : State) : (fresh s).lpddrFilled = s.lpddrFilled := rfl
@[simp] theorem fresh_keysWithdrawn (s : State) : (fresh s).keysWithdrawn = s.keysWithdrawn := rfl
@[simp] theorem fresh_bus (s : State) : (fresh s).bus = s.bus := rfl
@[simp] theorem fresh_net (s : State) : (fresh s).net = s.net := rfl
@[simp] theorem fresh_rdma (s : State) : (fresh s).rdma = s.rdma := rfl
@[simp] theorem fresh_keySess (s : State) : (fresh s).keySess = s.keySess := rfl
@[simp] theorem fresh_cphQs (s : State) : (fresh s).cphQs = s.cphQs := rfl
@[simp] theorem fresh_cphReqs (s : State) : (fresh s).cphReqs = s.cphReqs := rfl
@[simp] theorem fresh_comms (s : State) : (fresh s).comms = s.comms := rfl
@[simp] theorem fresh_colOps (s : State) : (fresh s).colOps = s.colOps := rfl
@[simp] theorem fresh_sclQps (s : State) : (fresh s).sclQps = s.sclQps := rfl
@[simp] theorem fresh_sclCmds (s : State) : (fresh s).sclCmds = s.sclCmds := rfl
@[simp] theorem fresh_vols (s : State) : (fresh s).vols = s.vols := rfl
@[simp] theorem fresh_sclIgnored (s : State) : (fresh s).sclIgnored = s.sclIgnored := rfl
@[simp] theorem fresh_ctxs (s : State) : (fresh s).ctxs = s.ctxs := rfl
@[simp] theorem fresh_atnEntries (s : State) : (fresh s).atnEntries = s.atnEntries := rfl
@[simp] theorem fresh_sec (s : State) : (fresh s).sec = s.sec := rfl
@[simp] theorem fresh_pwr (s : State) : (fresh s).pwr = s.pwr := rfl
@[simp] theorem fresh_ink (s : State) : (fresh s).ink = s.ink := rfl
@[simp] theorem fresh_board (s : State) : (fresh s).board = s.board := rfl
@[simp] theorem fresh_irq (s : State) : (fresh s).irq = s.irq := rfl
@[simp] theorem fresh_jtag (s : State) : (fresh s).jtag = s.jtag := rfl
@[simp] theorem fresh_logBuf (s : State) : (fresh s).logBuf = s.logBuf := rfl
@[simp] theorem fresh_logFlash (s : State) : (fresh s).logFlash = s.logFlash := rfl
@[simp] theorem fresh_logSeq (s : State) : (fresh s).logSeq = s.logSeq := rfl
@[simp] theorem fresh_logLost (s : State) : (fresh s).logLost = s.logLost := rfl
@[simp] theorem fresh_boots (s : State) : (fresh s).boots = s.boots := rfl
@[simp] theorem fresh_sent (s : State) : (fresh s).sent = s.sent := rfl

@[simp] theorem gauge_elapsed (s : State) (kind inst fld v : Nat) : (gauge s kind inst fld v).elapsed = s.elapsed := rfl
@[simp] theorem gauge_freeCtr (s : State) (kind inst fld v : Nat) : (gauge s kind inst fld v).freeCtr = s.freeCtr := rfl
@[simp] theorem gauge_pending (s : State) (kind inst fld v : Nat) : (gauge s kind inst fld v).pending = s.pending := rfl
@[simp] theorem gauge_nibs (s : State) (kind inst fld v : Nat) : (gauge s kind inst fld v).nibs = s.nibs := rfl
@[simp] theorem gauge_cores (s : State) (kind inst fld v : Nat) : (gauge s kind inst fld v).cores = s.cores := rfl
@[simp] theorem gauge_petals (s : State) (kind inst fld v : Nat) : (gauge s kind inst fld v).petals = s.petals := rfl
@[simp] theorem gauge_pages (s : State) (kind inst fld v : Nat) : (gauge s kind inst fld v).pages = s.pages := rfl
@[simp] theorem gauge_launches (s : State) (kind inst fld v : Nat) : (gauge s kind inst fld v).launches = s.launches := rfl
@[simp] theorem gauge_waiters (s : State) (kind inst fld v : Nat) : (gauge s kind inst fld v).waiters = s.waiters := rfl
@[simp] theorem gauge_wrapped (s : State) (kind inst fld v : Nat) : (gauge s kind inst fld v).wrapped = s.wrapped := rfl
@[simp] theorem gauge_windows (s : State) (kind inst fld v : Nat) : (gauge s kind inst fld v).windows = s.windows := rfl
@[simp] theorem gauge_msixOwner (s : State) (kind inst fld v : Nat) : (gauge s kind inst fld v).msixOwner = s.msixOwner := rfl
@[simp] theorem gauge_msixTable (s : State) (kind inst fld v : Nat) : (gauge s kind inst fld v).msixTable = s.msixTable := rfl
@[simp] theorem gauge_msixPend (s : State) (kind inst fld v : Nat) : (gauge s kind inst fld v).msixPend = s.msixPend := rfl
@[simp] theorem gauge_pcie (s : State) (kind inst fld v : Nat) : (gauge s kind inst fld v).pcie = s.pcie := rfl
@[simp] theorem gauge_busMaster (s : State) (kind inst fld v : Nat) : (gauge s kind inst fld v).busMaster = s.busMaster := rfl
@[simp] theorem gauge_ready (s : State) (kind inst fld v : Nat) : (gauge s kind inst fld v).ready = s.ready := rfl
@[simp] theorem gauge_devArea (s : State) (kind inst fld v : Nat) : (gauge s kind inst fld v).devArea = s.devArea := rfl
@[simp] theorem gauge_mem (s : State) (kind inst fld v : Nat) : (gauge s kind inst fld v).mem = s.mem := rfl
@[simp] theorem gauge_poison (s : State) (kind inst fld v : Nat) : (gauge s kind inst fld v).poison = s.poison := rfl
@[simp] theorem gauge_plots (s : State) (kind inst fld v : Nat) : (gauge s kind inst fld v).plots = s.plots := rfl
@[simp] theorem gauge_retired (s : State) (kind inst fld v : Nat) : (gauge s kind inst fld v).retired = s.retired := rfl
@[simp] theorem gauge_sparesUsed (s : State) (kind inst fld v : Nat) : (gauge s kind inst fld v).sparesUsed = s.sparesUsed := rfl
@[simp] theorem gauge_frameCorr (s : State) (kind inst fld v : Nat) : (gauge s kind inst fld v).frameCorr = s.frameCorr := rfl
@[simp] theorem gauge_unitCorr (s : State) (kind inst fld v : Nat) : (gauge s kind inst fld v).unitCorr = s.unitCorr := rfl
@[simp] theorem gauge_unitFailed (s : State) (kind inst fld v : Nat) : (gauge s kind inst fld v).unitFailed = s.unitFailed := rfl
@[simp] theorem gauge_moves (s : State) (kind inst fld v : Nat) : (gauge s kind inst fld v).moves = s.moves := rfl
@[simp] theorem gauge_walks (s : State) (kind inst fld v : Nat) : (gauge s kind inst fld v).walks = s.walks := rfl
@[simp] theorem gauge_scratchWalks (s : State) (kind inst fld v : Nat) : (gauge s kind inst fld v).scratchWalks = s.scratchWalks := rfl
@[simp] theorem gauge_scrubHbm (s : State) (kind inst fld v : Nat) : (gauge s kind inst fld v).scrubHbm = s.scrubHbm := rfl
@[simp] theorem gauge_scrubLpddr (s : State) (kind inst fld v : Nat) : (gauge s kind inst fld v).scrubLpddr = s.scrubLpddr := rfl
@[simp] theorem gauge_scrubHub (s : State) (kind inst fld v : Nat) : (gauge s kind inst fld v).scrubHub = s.scrubHub := rfl
@[simp] theorem gauge_hbmFilled (s : State) (kind inst fld v : Nat) : (gauge s kind inst fld v).hbmFilled = s.hbmFilled := rfl
@[simp] theorem gauge_lpddrFilled (s : State) (kind inst fld v : Nat) : (gauge s kind inst fld v).lpddrFilled = s.lpddrFilled := rfl
@[simp] theorem gauge_keysWithdrawn (s : State) (kind inst fld v : Nat) : (gauge s kind inst fld v).keysWithdrawn = s.keysWithdrawn := rfl
@[simp] theorem gauge_bus (s : State) (kind inst fld v : Nat) : (gauge s kind inst fld v).bus = s.bus := rfl
@[simp] theorem gauge_net (s : State) (kind inst fld v : Nat) : (gauge s kind inst fld v).net = s.net := rfl
@[simp] theorem gauge_rdma (s : State) (kind inst fld v : Nat) : (gauge s kind inst fld v).rdma = s.rdma := rfl
@[simp] theorem gauge_keySess (s : State) (kind inst fld v : Nat) : (gauge s kind inst fld v).keySess = s.keySess := rfl
@[simp] theorem gauge_cphQs (s : State) (kind inst fld v : Nat) : (gauge s kind inst fld v).cphQs = s.cphQs := rfl
@[simp] theorem gauge_cphReqs (s : State) (kind inst fld v : Nat) : (gauge s kind inst fld v).cphReqs = s.cphReqs := rfl
@[simp] theorem gauge_comms (s : State) (kind inst fld v : Nat) : (gauge s kind inst fld v).comms = s.comms := rfl
@[simp] theorem gauge_colOps (s : State) (kind inst fld v : Nat) : (gauge s kind inst fld v).colOps = s.colOps := rfl
@[simp] theorem gauge_sclQps (s : State) (kind inst fld v : Nat) : (gauge s kind inst fld v).sclQps = s.sclQps := rfl
@[simp] theorem gauge_sclCmds (s : State) (kind inst fld v : Nat) : (gauge s kind inst fld v).sclCmds = s.sclCmds := rfl
@[simp] theorem gauge_vols (s : State) (kind inst fld v : Nat) : (gauge s kind inst fld v).vols = s.vols := rfl
@[simp] theorem gauge_sclIgnored (s : State) (kind inst fld v : Nat) : (gauge s kind inst fld v).sclIgnored = s.sclIgnored := rfl
@[simp] theorem gauge_ctxs (s : State) (kind inst fld v : Nat) : (gauge s kind inst fld v).ctxs = s.ctxs := rfl
@[simp] theorem gauge_atnEntries (s : State) (kind inst fld v : Nat) : (gauge s kind inst fld v).atnEntries = s.atnEntries := rfl
@[simp] theorem gauge_sec (s : State) (kind inst fld v : Nat) : (gauge s kind inst fld v).sec = s.sec := rfl
@[simp] theorem gauge_pwr (s : State) (kind inst fld v : Nat) : (gauge s kind inst fld v).pwr = s.pwr := rfl
@[simp] theorem gauge_ink (s : State) (kind inst fld v : Nat) : (gauge s kind inst fld v).ink = s.ink := rfl
@[simp] theorem gauge_board (s : State) (kind inst fld v : Nat) : (gauge s kind inst fld v).board = s.board := rfl
@[simp] theorem gauge_irq (s : State) (kind inst fld v : Nat) : (gauge s kind inst fld v).irq = s.irq := rfl
@[simp] theorem gauge_jtag (s : State) (kind inst fld v : Nat) : (gauge s kind inst fld v).jtag = s.jtag := rfl
@[simp] theorem gauge_logBuf (s : State) (kind inst fld v : Nat) : (gauge s kind inst fld v).logBuf = s.logBuf := rfl
@[simp] theorem gauge_logFlash (s : State) (kind inst fld v : Nat) : (gauge s kind inst fld v).logFlash = s.logFlash := rfl
@[simp] theorem gauge_logSeq (s : State) (kind inst fld v : Nat) : (gauge s kind inst fld v).logSeq = s.logSeq := rfl
@[simp] theorem gauge_logLost (s : State) (kind inst fld v : Nat) : (gauge s kind inst fld v).logLost = s.logLost := rfl
@[simp] theorem gauge_boots (s : State) (kind inst fld v : Nat) : (gauge s kind inst fld v).boots = s.boots := rfl
@[simp] theorem gauge_sent (s : State) (kind inst fld v : Nat) : (gauge s kind inst fld v).sent = s.sent := rfl

@[simp] theorem setNib_elapsed (s : State) (n : Nat) (x : Nib) : (setNib s n x).elapsed = s.elapsed := rfl
@[simp] theorem setNib_freeCtr (s : State) (n : Nat) (x : Nib) : (setNib s n x).freeCtr = s.freeCtr := rfl
@[simp] theorem setNib_pending (s : State) (n : Nat) (x : Nib) : (setNib s n x).pending = s.pending := rfl
@[simp] theorem setNib_cores (s : State) (n : Nat) (x : Nib) : (setNib s n x).cores = s.cores := rfl
@[simp] theorem setNib_petals (s : State) (n : Nat) (x : Nib) : (setNib s n x).petals = s.petals := rfl
@[simp] theorem setNib_pages (s : State) (n : Nat) (x : Nib) : (setNib s n x).pages = s.pages := rfl
@[simp] theorem setNib_launches (s : State) (n : Nat) (x : Nib) : (setNib s n x).launches = s.launches := rfl
@[simp] theorem setNib_waiters (s : State) (n : Nat) (x : Nib) : (setNib s n x).waiters = s.waiters := rfl
@[simp] theorem setNib_ctr (s : State) (n : Nat) (x : Nib) : (setNib s n x).ctr = s.ctr := rfl
@[simp] theorem setNib_wrapped (s : State) (n : Nat) (x : Nib) : (setNib s n x).wrapped = s.wrapped := rfl
@[simp] theorem setNib_windows (s : State) (n : Nat) (x : Nib) : (setNib s n x).windows = s.windows := rfl
@[simp] theorem setNib_msixOwner (s : State) (n : Nat) (x : Nib) : (setNib s n x).msixOwner = s.msixOwner := rfl
@[simp] theorem setNib_msixTable (s : State) (n : Nat) (x : Nib) : (setNib s n x).msixTable = s.msixTable := rfl
@[simp] theorem setNib_msixPend (s : State) (n : Nat) (x : Nib) : (setNib s n x).msixPend = s.msixPend := rfl
@[simp] theorem setNib_pcie (s : State) (n : Nat) (x : Nib) : (setNib s n x).pcie = s.pcie := rfl
@[simp] theorem setNib_busMaster (s : State) (n : Nat) (x : Nib) : (setNib s n x).busMaster = s.busMaster := rfl
@[simp] theorem setNib_ready (s : State) (n : Nat) (x : Nib) : (setNib s n x).ready = s.ready := rfl
@[simp] theorem setNib_devArea (s : State) (n : Nat) (x : Nib) : (setNib s n x).devArea = s.devArea := rfl
@[simp] theorem setNib_mem (s : State) (n : Nat) (x : Nib) : (setNib s n x).mem = s.mem := rfl
@[simp] theorem setNib_poison (s : State) (n : Nat) (x : Nib) : (setNib s n x).poison = s.poison := rfl
@[simp] theorem setNib_plots (s : State) (n : Nat) (x : Nib) : (setNib s n x).plots = s.plots := rfl
@[simp] theorem setNib_retired (s : State) (n : Nat) (x : Nib) : (setNib s n x).retired = s.retired := rfl
@[simp] theorem setNib_sparesUsed (s : State) (n : Nat) (x : Nib) : (setNib s n x).sparesUsed = s.sparesUsed := rfl
@[simp] theorem setNib_frameCorr (s : State) (n : Nat) (x : Nib) : (setNib s n x).frameCorr = s.frameCorr := rfl
@[simp] theorem setNib_unitCorr (s : State) (n : Nat) (x : Nib) : (setNib s n x).unitCorr = s.unitCorr := rfl
@[simp] theorem setNib_unitFailed (s : State) (n : Nat) (x : Nib) : (setNib s n x).unitFailed = s.unitFailed := rfl
@[simp] theorem setNib_moves (s : State) (n : Nat) (x : Nib) : (setNib s n x).moves = s.moves := rfl
@[simp] theorem setNib_walks (s : State) (n : Nat) (x : Nib) : (setNib s n x).walks = s.walks := rfl
@[simp] theorem setNib_scratchWalks (s : State) (n : Nat) (x : Nib) : (setNib s n x).scratchWalks = s.scratchWalks := rfl
@[simp] theorem setNib_scrubHbm (s : State) (n : Nat) (x : Nib) : (setNib s n x).scrubHbm = s.scrubHbm := rfl
@[simp] theorem setNib_scrubLpddr (s : State) (n : Nat) (x : Nib) : (setNib s n x).scrubLpddr = s.scrubLpddr := rfl
@[simp] theorem setNib_scrubHub (s : State) (n : Nat) (x : Nib) : (setNib s n x).scrubHub = s.scrubHub := rfl
@[simp] theorem setNib_hbmFilled (s : State) (n : Nat) (x : Nib) : (setNib s n x).hbmFilled = s.hbmFilled := rfl
@[simp] theorem setNib_lpddrFilled (s : State) (n : Nat) (x : Nib) : (setNib s n x).lpddrFilled = s.lpddrFilled := rfl
@[simp] theorem setNib_keysWithdrawn (s : State) (n : Nat) (x : Nib) : (setNib s n x).keysWithdrawn = s.keysWithdrawn := rfl
@[simp] theorem setNib_bus (s : State) (n : Nat) (x : Nib) : (setNib s n x).bus = s.bus := rfl
@[simp] theorem setNib_net (s : State) (n : Nat) (x : Nib) : (setNib s n x).net = s.net := rfl
@[simp] theorem setNib_rdma (s : State) (n : Nat) (x : Nib) : (setNib s n x).rdma = s.rdma := rfl
@[simp] theorem setNib_keySess (s : State) (n : Nat) (x : Nib) : (setNib s n x).keySess = s.keySess := rfl
@[simp] theorem setNib_cphQs (s : State) (n : Nat) (x : Nib) : (setNib s n x).cphQs = s.cphQs := rfl
@[simp] theorem setNib_cphReqs (s : State) (n : Nat) (x : Nib) : (setNib s n x).cphReqs = s.cphReqs := rfl
@[simp] theorem setNib_comms (s : State) (n : Nat) (x : Nib) : (setNib s n x).comms = s.comms := rfl
@[simp] theorem setNib_colOps (s : State) (n : Nat) (x : Nib) : (setNib s n x).colOps = s.colOps := rfl
@[simp] theorem setNib_sclQps (s : State) (n : Nat) (x : Nib) : (setNib s n x).sclQps = s.sclQps := rfl
@[simp] theorem setNib_sclCmds (s : State) (n : Nat) (x : Nib) : (setNib s n x).sclCmds = s.sclCmds := rfl
@[simp] theorem setNib_vols (s : State) (n : Nat) (x : Nib) : (setNib s n x).vols = s.vols := rfl
@[simp] theorem setNib_sclIgnored (s : State) (n : Nat) (x : Nib) : (setNib s n x).sclIgnored = s.sclIgnored := rfl
@[simp] theorem setNib_ctxs (s : State) (n : Nat) (x : Nib) : (setNib s n x).ctxs = s.ctxs := rfl
@[simp] theorem setNib_atnEntries (s : State) (n : Nat) (x : Nib) : (setNib s n x).atnEntries = s.atnEntries := rfl
@[simp] theorem setNib_sec (s : State) (n : Nat) (x : Nib) : (setNib s n x).sec = s.sec := rfl
@[simp] theorem setNib_pwr (s : State) (n : Nat) (x : Nib) : (setNib s n x).pwr = s.pwr := rfl
@[simp] theorem setNib_ink (s : State) (n : Nat) (x : Nib) : (setNib s n x).ink = s.ink := rfl
@[simp] theorem setNib_board (s : State) (n : Nat) (x : Nib) : (setNib s n x).board = s.board := rfl
@[simp] theorem setNib_irq (s : State) (n : Nat) (x : Nib) : (setNib s n x).irq = s.irq := rfl
@[simp] theorem setNib_jtag (s : State) (n : Nat) (x : Nib) : (setNib s n x).jtag = s.jtag := rfl
@[simp] theorem setNib_logBuf (s : State) (n : Nat) (x : Nib) : (setNib s n x).logBuf = s.logBuf := rfl
@[simp] theorem setNib_logFlash (s : State) (n : Nat) (x : Nib) : (setNib s n x).logFlash = s.logFlash := rfl
@[simp] theorem setNib_logSeq (s : State) (n : Nat) (x : Nib) : (setNib s n x).logSeq = s.logSeq := rfl
@[simp] theorem setNib_logLost (s : State) (n : Nat) (x : Nib) : (setNib s n x).logLost = s.logLost := rfl
@[simp] theorem setNib_boots (s : State) (n : Nat) (x : Nib) : (setNib s n x).boots = s.boots := rfl
@[simp] theorem setNib_sent (s : State) (n : Nat) (x : Nib) : (setNib s n x).sent = s.sent := rfl

@[simp] theorem setCore_elapsed (s : State) (k : Nat) (x : Core) : (setCore s k x).elapsed = s.elapsed := rfl
@[simp] theorem setCore_freeCtr (s : State) (k : Nat) (x : Core) : (setCore s k x).freeCtr = s.freeCtr := rfl
@[simp] theorem setCore_pending (s : State) (k : Nat) (x : Core) : (setCore s k x).pending = s.pending := rfl
@[simp] theorem setCore_nibs (s : State) (k : Nat) (x : Core) : (setCore s k x).nibs = s.nibs := rfl
@[simp] theorem setCore_petals (s : State) (k : Nat) (x : Core) : (setCore s k x).petals = s.petals := rfl
@[simp] theorem setCore_pages (s : State) (k : Nat) (x : Core) : (setCore s k x).pages = s.pages := rfl
@[simp] theorem setCore_launches (s : State) (k : Nat) (x : Core) : (setCore s k x).launches = s.launches := rfl
@[simp] theorem setCore_waiters (s : State) (k : Nat) (x : Core) : (setCore s k x).waiters = s.waiters := rfl
@[simp] theorem setCore_ctr (s : State) (k : Nat) (x : Core) : (setCore s k x).ctr = s.ctr := rfl
@[simp] theorem setCore_wrapped (s : State) (k : Nat) (x : Core) : (setCore s k x).wrapped = s.wrapped := rfl
@[simp] theorem setCore_windows (s : State) (k : Nat) (x : Core) : (setCore s k x).windows = s.windows := rfl
@[simp] theorem setCore_msixOwner (s : State) (k : Nat) (x : Core) : (setCore s k x).msixOwner = s.msixOwner := rfl
@[simp] theorem setCore_msixTable (s : State) (k : Nat) (x : Core) : (setCore s k x).msixTable = s.msixTable := rfl
@[simp] theorem setCore_msixPend (s : State) (k : Nat) (x : Core) : (setCore s k x).msixPend = s.msixPend := rfl
@[simp] theorem setCore_pcie (s : State) (k : Nat) (x : Core) : (setCore s k x).pcie = s.pcie := rfl
@[simp] theorem setCore_busMaster (s : State) (k : Nat) (x : Core) : (setCore s k x).busMaster = s.busMaster := rfl
@[simp] theorem setCore_ready (s : State) (k : Nat) (x : Core) : (setCore s k x).ready = s.ready := rfl
@[simp] theorem setCore_devArea (s : State) (k : Nat) (x : Core) : (setCore s k x).devArea = s.devArea := rfl
@[simp] theorem setCore_mem (s : State) (k : Nat) (x : Core) : (setCore s k x).mem = s.mem := rfl
@[simp] theorem setCore_poison (s : State) (k : Nat) (x : Core) : (setCore s k x).poison = s.poison := rfl
@[simp] theorem setCore_plots (s : State) (k : Nat) (x : Core) : (setCore s k x).plots = s.plots := rfl
@[simp] theorem setCore_retired (s : State) (k : Nat) (x : Core) : (setCore s k x).retired = s.retired := rfl
@[simp] theorem setCore_sparesUsed (s : State) (k : Nat) (x : Core) : (setCore s k x).sparesUsed = s.sparesUsed := rfl
@[simp] theorem setCore_frameCorr (s : State) (k : Nat) (x : Core) : (setCore s k x).frameCorr = s.frameCorr := rfl
@[simp] theorem setCore_unitCorr (s : State) (k : Nat) (x : Core) : (setCore s k x).unitCorr = s.unitCorr := rfl
@[simp] theorem setCore_unitFailed (s : State) (k : Nat) (x : Core) : (setCore s k x).unitFailed = s.unitFailed := rfl
@[simp] theorem setCore_moves (s : State) (k : Nat) (x : Core) : (setCore s k x).moves = s.moves := rfl
@[simp] theorem setCore_walks (s : State) (k : Nat) (x : Core) : (setCore s k x).walks = s.walks := rfl
@[simp] theorem setCore_scratchWalks (s : State) (k : Nat) (x : Core) : (setCore s k x).scratchWalks = s.scratchWalks := rfl
@[simp] theorem setCore_scrubHbm (s : State) (k : Nat) (x : Core) : (setCore s k x).scrubHbm = s.scrubHbm := rfl
@[simp] theorem setCore_scrubLpddr (s : State) (k : Nat) (x : Core) : (setCore s k x).scrubLpddr = s.scrubLpddr := rfl
@[simp] theorem setCore_scrubHub (s : State) (k : Nat) (x : Core) : (setCore s k x).scrubHub = s.scrubHub := rfl
@[simp] theorem setCore_hbmFilled (s : State) (k : Nat) (x : Core) : (setCore s k x).hbmFilled = s.hbmFilled := rfl
@[simp] theorem setCore_lpddrFilled (s : State) (k : Nat) (x : Core) : (setCore s k x).lpddrFilled = s.lpddrFilled := rfl
@[simp] theorem setCore_keysWithdrawn (s : State) (k : Nat) (x : Core) : (setCore s k x).keysWithdrawn = s.keysWithdrawn := rfl
@[simp] theorem setCore_bus (s : State) (k : Nat) (x : Core) : (setCore s k x).bus = s.bus := rfl
@[simp] theorem setCore_net (s : State) (k : Nat) (x : Core) : (setCore s k x).net = s.net := rfl
@[simp] theorem setCore_rdma (s : State) (k : Nat) (x : Core) : (setCore s k x).rdma = s.rdma := rfl
@[simp] theorem setCore_keySess (s : State) (k : Nat) (x : Core) : (setCore s k x).keySess = s.keySess := rfl
@[simp] theorem setCore_cphQs (s : State) (k : Nat) (x : Core) : (setCore s k x).cphQs = s.cphQs := rfl
@[simp] theorem setCore_cphReqs (s : State) (k : Nat) (x : Core) : (setCore s k x).cphReqs = s.cphReqs := rfl
@[simp] theorem setCore_comms (s : State) (k : Nat) (x : Core) : (setCore s k x).comms = s.comms := rfl
@[simp] theorem setCore_colOps (s : State) (k : Nat) (x : Core) : (setCore s k x).colOps = s.colOps := rfl
@[simp] theorem setCore_sclQps (s : State) (k : Nat) (x : Core) : (setCore s k x).sclQps = s.sclQps := rfl
@[simp] theorem setCore_sclCmds (s : State) (k : Nat) (x : Core) : (setCore s k x).sclCmds = s.sclCmds := rfl
@[simp] theorem setCore_vols (s : State) (k : Nat) (x : Core) : (setCore s k x).vols = s.vols := rfl
@[simp] theorem setCore_sclIgnored (s : State) (k : Nat) (x : Core) : (setCore s k x).sclIgnored = s.sclIgnored := rfl
@[simp] theorem setCore_ctxs (s : State) (k : Nat) (x : Core) : (setCore s k x).ctxs = s.ctxs := rfl
@[simp] theorem setCore_atnEntries (s : State) (k : Nat) (x : Core) : (setCore s k x).atnEntries = s.atnEntries := rfl
@[simp] theorem setCore_sec (s : State) (k : Nat) (x : Core) : (setCore s k x).sec = s.sec := rfl
@[simp] theorem setCore_pwr (s : State) (k : Nat) (x : Core) : (setCore s k x).pwr = s.pwr := rfl
@[simp] theorem setCore_ink (s : State) (k : Nat) (x : Core) : (setCore s k x).ink = s.ink := rfl
@[simp] theorem setCore_board (s : State) (k : Nat) (x : Core) : (setCore s k x).board = s.board := rfl
@[simp] theorem setCore_irq (s : State) (k : Nat) (x : Core) : (setCore s k x).irq = s.irq := rfl
@[simp] theorem setCore_jtag (s : State) (k : Nat) (x : Core) : (setCore s k x).jtag = s.jtag := rfl
@[simp] theorem setCore_logBuf (s : State) (k : Nat) (x : Core) : (setCore s k x).logBuf = s.logBuf := rfl
@[simp] theorem setCore_logFlash (s : State) (k : Nat) (x : Core) : (setCore s k x).logFlash = s.logFlash := rfl
@[simp] theorem setCore_logSeq (s : State) (k : Nat) (x : Core) : (setCore s k x).logSeq = s.logSeq := rfl
@[simp] theorem setCore_logLost (s : State) (k : Nat) (x : Core) : (setCore s k x).logLost = s.logLost := rfl
@[simp] theorem setCore_boots (s : State) (k : Nat) (x : Core) : (setCore s k x).boots = s.boots := rfl
@[simp] theorem setCore_sent (s : State) (k : Nat) (x : Core) : (setCore s k x).sent = s.sent := rfl

@[simp] theorem setPetal_elapsed (s : State) (p : Nat) (x : Petal) : (setPetal s p x).elapsed = s.elapsed := rfl
@[simp] theorem setPetal_freeCtr (s : State) (p : Nat) (x : Petal) : (setPetal s p x).freeCtr = s.freeCtr := rfl
@[simp] theorem setPetal_pending (s : State) (p : Nat) (x : Petal) : (setPetal s p x).pending = s.pending := rfl
@[simp] theorem setPetal_nibs (s : State) (p : Nat) (x : Petal) : (setPetal s p x).nibs = s.nibs := rfl
@[simp] theorem setPetal_cores (s : State) (p : Nat) (x : Petal) : (setPetal s p x).cores = s.cores := rfl
@[simp] theorem setPetal_pages (s : State) (p : Nat) (x : Petal) : (setPetal s p x).pages = s.pages := rfl
@[simp] theorem setPetal_launches (s : State) (p : Nat) (x : Petal) : (setPetal s p x).launches = s.launches := rfl
@[simp] theorem setPetal_waiters (s : State) (p : Nat) (x : Petal) : (setPetal s p x).waiters = s.waiters := rfl
@[simp] theorem setPetal_ctr (s : State) (p : Nat) (x : Petal) : (setPetal s p x).ctr = s.ctr := rfl
@[simp] theorem setPetal_wrapped (s : State) (p : Nat) (x : Petal) : (setPetal s p x).wrapped = s.wrapped := rfl
@[simp] theorem setPetal_windows (s : State) (p : Nat) (x : Petal) : (setPetal s p x).windows = s.windows := rfl
@[simp] theorem setPetal_msixOwner (s : State) (p : Nat) (x : Petal) : (setPetal s p x).msixOwner = s.msixOwner := rfl
@[simp] theorem setPetal_msixTable (s : State) (p : Nat) (x : Petal) : (setPetal s p x).msixTable = s.msixTable := rfl
@[simp] theorem setPetal_msixPend (s : State) (p : Nat) (x : Petal) : (setPetal s p x).msixPend = s.msixPend := rfl
@[simp] theorem setPetal_pcie (s : State) (p : Nat) (x : Petal) : (setPetal s p x).pcie = s.pcie := rfl
@[simp] theorem setPetal_busMaster (s : State) (p : Nat) (x : Petal) : (setPetal s p x).busMaster = s.busMaster := rfl
@[simp] theorem setPetal_ready (s : State) (p : Nat) (x : Petal) : (setPetal s p x).ready = s.ready := rfl
@[simp] theorem setPetal_devArea (s : State) (p : Nat) (x : Petal) : (setPetal s p x).devArea = s.devArea := rfl
@[simp] theorem setPetal_mem (s : State) (p : Nat) (x : Petal) : (setPetal s p x).mem = s.mem := rfl
@[simp] theorem setPetal_poison (s : State) (p : Nat) (x : Petal) : (setPetal s p x).poison = s.poison := rfl
@[simp] theorem setPetal_plots (s : State) (p : Nat) (x : Petal) : (setPetal s p x).plots = s.plots := rfl
@[simp] theorem setPetal_retired (s : State) (p : Nat) (x : Petal) : (setPetal s p x).retired = s.retired := rfl
@[simp] theorem setPetal_sparesUsed (s : State) (p : Nat) (x : Petal) : (setPetal s p x).sparesUsed = s.sparesUsed := rfl
@[simp] theorem setPetal_frameCorr (s : State) (p : Nat) (x : Petal) : (setPetal s p x).frameCorr = s.frameCorr := rfl
@[simp] theorem setPetal_unitCorr (s : State) (p : Nat) (x : Petal) : (setPetal s p x).unitCorr = s.unitCorr := rfl
@[simp] theorem setPetal_unitFailed (s : State) (p : Nat) (x : Petal) : (setPetal s p x).unitFailed = s.unitFailed := rfl
@[simp] theorem setPetal_moves (s : State) (p : Nat) (x : Petal) : (setPetal s p x).moves = s.moves := rfl
@[simp] theorem setPetal_walks (s : State) (p : Nat) (x : Petal) : (setPetal s p x).walks = s.walks := rfl
@[simp] theorem setPetal_scratchWalks (s : State) (p : Nat) (x : Petal) : (setPetal s p x).scratchWalks = s.scratchWalks := rfl
@[simp] theorem setPetal_scrubHbm (s : State) (p : Nat) (x : Petal) : (setPetal s p x).scrubHbm = s.scrubHbm := rfl
@[simp] theorem setPetal_scrubLpddr (s : State) (p : Nat) (x : Petal) : (setPetal s p x).scrubLpddr = s.scrubLpddr := rfl
@[simp] theorem setPetal_scrubHub (s : State) (p : Nat) (x : Petal) : (setPetal s p x).scrubHub = s.scrubHub := rfl
@[simp] theorem setPetal_hbmFilled (s : State) (p : Nat) (x : Petal) : (setPetal s p x).hbmFilled = s.hbmFilled := rfl
@[simp] theorem setPetal_lpddrFilled (s : State) (p : Nat) (x : Petal) : (setPetal s p x).lpddrFilled = s.lpddrFilled := rfl
@[simp] theorem setPetal_keysWithdrawn (s : State) (p : Nat) (x : Petal) : (setPetal s p x).keysWithdrawn = s.keysWithdrawn := rfl
@[simp] theorem setPetal_bus (s : State) (p : Nat) (x : Petal) : (setPetal s p x).bus = s.bus := rfl
@[simp] theorem setPetal_net (s : State) (p : Nat) (x : Petal) : (setPetal s p x).net = s.net := rfl
@[simp] theorem setPetal_rdma (s : State) (p : Nat) (x : Petal) : (setPetal s p x).rdma = s.rdma := rfl
@[simp] theorem setPetal_keySess (s : State) (p : Nat) (x : Petal) : (setPetal s p x).keySess = s.keySess := rfl
@[simp] theorem setPetal_cphQs (s : State) (p : Nat) (x : Petal) : (setPetal s p x).cphQs = s.cphQs := rfl
@[simp] theorem setPetal_cphReqs (s : State) (p : Nat) (x : Petal) : (setPetal s p x).cphReqs = s.cphReqs := rfl
@[simp] theorem setPetal_comms (s : State) (p : Nat) (x : Petal) : (setPetal s p x).comms = s.comms := rfl
@[simp] theorem setPetal_colOps (s : State) (p : Nat) (x : Petal) : (setPetal s p x).colOps = s.colOps := rfl
@[simp] theorem setPetal_sclQps (s : State) (p : Nat) (x : Petal) : (setPetal s p x).sclQps = s.sclQps := rfl
@[simp] theorem setPetal_sclCmds (s : State) (p : Nat) (x : Petal) : (setPetal s p x).sclCmds = s.sclCmds := rfl
@[simp] theorem setPetal_vols (s : State) (p : Nat) (x : Petal) : (setPetal s p x).vols = s.vols := rfl
@[simp] theorem setPetal_sclIgnored (s : State) (p : Nat) (x : Petal) : (setPetal s p x).sclIgnored = s.sclIgnored := rfl
@[simp] theorem setPetal_ctxs (s : State) (p : Nat) (x : Petal) : (setPetal s p x).ctxs = s.ctxs := rfl
@[simp] theorem setPetal_atnEntries (s : State) (p : Nat) (x : Petal) : (setPetal s p x).atnEntries = s.atnEntries := rfl
@[simp] theorem setPetal_sec (s : State) (p : Nat) (x : Petal) : (setPetal s p x).sec = s.sec := rfl
@[simp] theorem setPetal_pwr (s : State) (p : Nat) (x : Petal) : (setPetal s p x).pwr = s.pwr := rfl
@[simp] theorem setPetal_ink (s : State) (p : Nat) (x : Petal) : (setPetal s p x).ink = s.ink := rfl
@[simp] theorem setPetal_board (s : State) (p : Nat) (x : Petal) : (setPetal s p x).board = s.board := rfl
@[simp] theorem setPetal_irq (s : State) (p : Nat) (x : Petal) : (setPetal s p x).irq = s.irq := rfl
@[simp] theorem setPetal_jtag (s : State) (p : Nat) (x : Petal) : (setPetal s p x).jtag = s.jtag := rfl
@[simp] theorem setPetal_logBuf (s : State) (p : Nat) (x : Petal) : (setPetal s p x).logBuf = s.logBuf := rfl
@[simp] theorem setPetal_logFlash (s : State) (p : Nat) (x : Petal) : (setPetal s p x).logFlash = s.logFlash := rfl
@[simp] theorem setPetal_logSeq (s : State) (p : Nat) (x : Petal) : (setPetal s p x).logSeq = s.logSeq := rfl
@[simp] theorem setPetal_logLost (s : State) (p : Nat) (x : Petal) : (setPetal s p x).logLost = s.logLost := rfl
@[simp] theorem setPetal_boots (s : State) (p : Nat) (x : Petal) : (setPetal s p x).boots = s.boots := rfl
@[simp] theorem setPetal_sent (s : State) (p : Nat) (x : Petal) : (setPetal s p x).sent = s.sent := rfl

@[simp] theorem modPetal_elapsed (s : State) (p : Nat) (f : Petal → Petal) : (modPetal s p f).elapsed = s.elapsed := rfl
@[simp] theorem modPetal_freeCtr (s : State) (p : Nat) (f : Petal → Petal) : (modPetal s p f).freeCtr = s.freeCtr := rfl
@[simp] theorem modPetal_pending (s : State) (p : Nat) (f : Petal → Petal) : (modPetal s p f).pending = s.pending := rfl
@[simp] theorem modPetal_nibs (s : State) (p : Nat) (f : Petal → Petal) : (modPetal s p f).nibs = s.nibs := rfl
@[simp] theorem modPetal_cores (s : State) (p : Nat) (f : Petal → Petal) : (modPetal s p f).cores = s.cores := rfl
@[simp] theorem modPetal_pages (s : State) (p : Nat) (f : Petal → Petal) : (modPetal s p f).pages = s.pages := rfl
@[simp] theorem modPetal_launches (s : State) (p : Nat) (f : Petal → Petal) : (modPetal s p f).launches = s.launches := rfl
@[simp] theorem modPetal_waiters (s : State) (p : Nat) (f : Petal → Petal) : (modPetal s p f).waiters = s.waiters := rfl
@[simp] theorem modPetal_ctr (s : State) (p : Nat) (f : Petal → Petal) : (modPetal s p f).ctr = s.ctr := rfl
@[simp] theorem modPetal_wrapped (s : State) (p : Nat) (f : Petal → Petal) : (modPetal s p f).wrapped = s.wrapped := rfl
@[simp] theorem modPetal_windows (s : State) (p : Nat) (f : Petal → Petal) : (modPetal s p f).windows = s.windows := rfl
@[simp] theorem modPetal_msixOwner (s : State) (p : Nat) (f : Petal → Petal) : (modPetal s p f).msixOwner = s.msixOwner := rfl
@[simp] theorem modPetal_msixTable (s : State) (p : Nat) (f : Petal → Petal) : (modPetal s p f).msixTable = s.msixTable := rfl
@[simp] theorem modPetal_msixPend (s : State) (p : Nat) (f : Petal → Petal) : (modPetal s p f).msixPend = s.msixPend := rfl
@[simp] theorem modPetal_pcie (s : State) (p : Nat) (f : Petal → Petal) : (modPetal s p f).pcie = s.pcie := rfl
@[simp] theorem modPetal_busMaster (s : State) (p : Nat) (f : Petal → Petal) : (modPetal s p f).busMaster = s.busMaster := rfl
@[simp] theorem modPetal_ready (s : State) (p : Nat) (f : Petal → Petal) : (modPetal s p f).ready = s.ready := rfl
@[simp] theorem modPetal_devArea (s : State) (p : Nat) (f : Petal → Petal) : (modPetal s p f).devArea = s.devArea := rfl
@[simp] theorem modPetal_mem (s : State) (p : Nat) (f : Petal → Petal) : (modPetal s p f).mem = s.mem := rfl
@[simp] theorem modPetal_poison (s : State) (p : Nat) (f : Petal → Petal) : (modPetal s p f).poison = s.poison := rfl
@[simp] theorem modPetal_plots (s : State) (p : Nat) (f : Petal → Petal) : (modPetal s p f).plots = s.plots := rfl
@[simp] theorem modPetal_retired (s : State) (p : Nat) (f : Petal → Petal) : (modPetal s p f).retired = s.retired := rfl
@[simp] theorem modPetal_sparesUsed (s : State) (p : Nat) (f : Petal → Petal) : (modPetal s p f).sparesUsed = s.sparesUsed := rfl
@[simp] theorem modPetal_frameCorr (s : State) (p : Nat) (f : Petal → Petal) : (modPetal s p f).frameCorr = s.frameCorr := rfl
@[simp] theorem modPetal_unitCorr (s : State) (p : Nat) (f : Petal → Petal) : (modPetal s p f).unitCorr = s.unitCorr := rfl
@[simp] theorem modPetal_unitFailed (s : State) (p : Nat) (f : Petal → Petal) : (modPetal s p f).unitFailed = s.unitFailed := rfl
@[simp] theorem modPetal_moves (s : State) (p : Nat) (f : Petal → Petal) : (modPetal s p f).moves = s.moves := rfl
@[simp] theorem modPetal_walks (s : State) (p : Nat) (f : Petal → Petal) : (modPetal s p f).walks = s.walks := rfl
@[simp] theorem modPetal_scratchWalks (s : State) (p : Nat) (f : Petal → Petal) : (modPetal s p f).scratchWalks = s.scratchWalks := rfl
@[simp] theorem modPetal_scrubHbm (s : State) (p : Nat) (f : Petal → Petal) : (modPetal s p f).scrubHbm = s.scrubHbm := rfl
@[simp] theorem modPetal_scrubLpddr (s : State) (p : Nat) (f : Petal → Petal) : (modPetal s p f).scrubLpddr = s.scrubLpddr := rfl
@[simp] theorem modPetal_scrubHub (s : State) (p : Nat) (f : Petal → Petal) : (modPetal s p f).scrubHub = s.scrubHub := rfl
@[simp] theorem modPetal_hbmFilled (s : State) (p : Nat) (f : Petal → Petal) : (modPetal s p f).hbmFilled = s.hbmFilled := rfl
@[simp] theorem modPetal_lpddrFilled (s : State) (p : Nat) (f : Petal → Petal) : (modPetal s p f).lpddrFilled = s.lpddrFilled := rfl
@[simp] theorem modPetal_keysWithdrawn (s : State) (p : Nat) (f : Petal → Petal) : (modPetal s p f).keysWithdrawn = s.keysWithdrawn := rfl
@[simp] theorem modPetal_bus (s : State) (p : Nat) (f : Petal → Petal) : (modPetal s p f).bus = s.bus := rfl
@[simp] theorem modPetal_net (s : State) (p : Nat) (f : Petal → Petal) : (modPetal s p f).net = s.net := rfl
@[simp] theorem modPetal_rdma (s : State) (p : Nat) (f : Petal → Petal) : (modPetal s p f).rdma = s.rdma := rfl
@[simp] theorem modPetal_keySess (s : State) (p : Nat) (f : Petal → Petal) : (modPetal s p f).keySess = s.keySess := rfl
@[simp] theorem modPetal_cphQs (s : State) (p : Nat) (f : Petal → Petal) : (modPetal s p f).cphQs = s.cphQs := rfl
@[simp] theorem modPetal_cphReqs (s : State) (p : Nat) (f : Petal → Petal) : (modPetal s p f).cphReqs = s.cphReqs := rfl
@[simp] theorem modPetal_comms (s : State) (p : Nat) (f : Petal → Petal) : (modPetal s p f).comms = s.comms := rfl
@[simp] theorem modPetal_colOps (s : State) (p : Nat) (f : Petal → Petal) : (modPetal s p f).colOps = s.colOps := rfl
@[simp] theorem modPetal_sclQps (s : State) (p : Nat) (f : Petal → Petal) : (modPetal s p f).sclQps = s.sclQps := rfl
@[simp] theorem modPetal_sclCmds (s : State) (p : Nat) (f : Petal → Petal) : (modPetal s p f).sclCmds = s.sclCmds := rfl
@[simp] theorem modPetal_vols (s : State) (p : Nat) (f : Petal → Petal) : (modPetal s p f).vols = s.vols := rfl
@[simp] theorem modPetal_sclIgnored (s : State) (p : Nat) (f : Petal → Petal) : (modPetal s p f).sclIgnored = s.sclIgnored := rfl
@[simp] theorem modPetal_ctxs (s : State) (p : Nat) (f : Petal → Petal) : (modPetal s p f).ctxs = s.ctxs := rfl
@[simp] theorem modPetal_atnEntries (s : State) (p : Nat) (f : Petal → Petal) : (modPetal s p f).atnEntries = s.atnEntries := rfl
@[simp] theorem modPetal_sec (s : State) (p : Nat) (f : Petal → Petal) : (modPetal s p f).sec = s.sec := rfl
@[simp] theorem modPetal_pwr (s : State) (p : Nat) (f : Petal → Petal) : (modPetal s p f).pwr = s.pwr := rfl
@[simp] theorem modPetal_ink (s : State) (p : Nat) (f : Petal → Petal) : (modPetal s p f).ink = s.ink := rfl
@[simp] theorem modPetal_board (s : State) (p : Nat) (f : Petal → Petal) : (modPetal s p f).board = s.board := rfl
@[simp] theorem modPetal_irq (s : State) (p : Nat) (f : Petal → Petal) : (modPetal s p f).irq = s.irq := rfl
@[simp] theorem modPetal_jtag (s : State) (p : Nat) (f : Petal → Petal) : (modPetal s p f).jtag = s.jtag := rfl
@[simp] theorem modPetal_logBuf (s : State) (p : Nat) (f : Petal → Petal) : (modPetal s p f).logBuf = s.logBuf := rfl
@[simp] theorem modPetal_logFlash (s : State) (p : Nat) (f : Petal → Petal) : (modPetal s p f).logFlash = s.logFlash := rfl
@[simp] theorem modPetal_logSeq (s : State) (p : Nat) (f : Petal → Petal) : (modPetal s p f).logSeq = s.logSeq := rfl
@[simp] theorem modPetal_logLost (s : State) (p : Nat) (f : Petal → Petal) : (modPetal s p f).logLost = s.logLost := rfl
@[simp] theorem modPetal_boots (s : State) (p : Nat) (f : Petal → Petal) : (modPetal s p f).boots = s.boots := rfl
@[simp] theorem modPetal_sent (s : State) (p : Nat) (f : Petal → Petal) : (modPetal s p f).sent = s.sent := rfl

@[simp] theorem setPage_elapsed (s : State) (g : Nat) (x : MPage) : (setPage s g x).elapsed = s.elapsed := rfl
@[simp] theorem setPage_freeCtr (s : State) (g : Nat) (x : MPage) : (setPage s g x).freeCtr = s.freeCtr := rfl
@[simp] theorem setPage_pending (s : State) (g : Nat) (x : MPage) : (setPage s g x).pending = s.pending := rfl
@[simp] theorem setPage_nibs (s : State) (g : Nat) (x : MPage) : (setPage s g x).nibs = s.nibs := rfl
@[simp] theorem setPage_cores (s : State) (g : Nat) (x : MPage) : (setPage s g x).cores = s.cores := rfl
@[simp] theorem setPage_petals (s : State) (g : Nat) (x : MPage) : (setPage s g x).petals = s.petals := rfl
@[simp] theorem setPage_launches (s : State) (g : Nat) (x : MPage) : (setPage s g x).launches = s.launches := rfl
@[simp] theorem setPage_waiters (s : State) (g : Nat) (x : MPage) : (setPage s g x).waiters = s.waiters := rfl
@[simp] theorem setPage_ctr (s : State) (g : Nat) (x : MPage) : (setPage s g x).ctr = s.ctr := rfl
@[simp] theorem setPage_wrapped (s : State) (g : Nat) (x : MPage) : (setPage s g x).wrapped = s.wrapped := rfl
@[simp] theorem setPage_windows (s : State) (g : Nat) (x : MPage) : (setPage s g x).windows = s.windows := rfl
@[simp] theorem setPage_msixOwner (s : State) (g : Nat) (x : MPage) : (setPage s g x).msixOwner = s.msixOwner := rfl
@[simp] theorem setPage_msixTable (s : State) (g : Nat) (x : MPage) : (setPage s g x).msixTable = s.msixTable := rfl
@[simp] theorem setPage_msixPend (s : State) (g : Nat) (x : MPage) : (setPage s g x).msixPend = s.msixPend := rfl
@[simp] theorem setPage_pcie (s : State) (g : Nat) (x : MPage) : (setPage s g x).pcie = s.pcie := rfl
@[simp] theorem setPage_busMaster (s : State) (g : Nat) (x : MPage) : (setPage s g x).busMaster = s.busMaster := rfl
@[simp] theorem setPage_ready (s : State) (g : Nat) (x : MPage) : (setPage s g x).ready = s.ready := rfl
@[simp] theorem setPage_devArea (s : State) (g : Nat) (x : MPage) : (setPage s g x).devArea = s.devArea := rfl
@[simp] theorem setPage_mem (s : State) (g : Nat) (x : MPage) : (setPage s g x).mem = s.mem := rfl
@[simp] theorem setPage_poison (s : State) (g : Nat) (x : MPage) : (setPage s g x).poison = s.poison := rfl
@[simp] theorem setPage_plots (s : State) (g : Nat) (x : MPage) : (setPage s g x).plots = s.plots := rfl
@[simp] theorem setPage_retired (s : State) (g : Nat) (x : MPage) : (setPage s g x).retired = s.retired := rfl
@[simp] theorem setPage_sparesUsed (s : State) (g : Nat) (x : MPage) : (setPage s g x).sparesUsed = s.sparesUsed := rfl
@[simp] theorem setPage_frameCorr (s : State) (g : Nat) (x : MPage) : (setPage s g x).frameCorr = s.frameCorr := rfl
@[simp] theorem setPage_unitCorr (s : State) (g : Nat) (x : MPage) : (setPage s g x).unitCorr = s.unitCorr := rfl
@[simp] theorem setPage_unitFailed (s : State) (g : Nat) (x : MPage) : (setPage s g x).unitFailed = s.unitFailed := rfl
@[simp] theorem setPage_moves (s : State) (g : Nat) (x : MPage) : (setPage s g x).moves = s.moves := rfl
@[simp] theorem setPage_walks (s : State) (g : Nat) (x : MPage) : (setPage s g x).walks = s.walks := rfl
@[simp] theorem setPage_scratchWalks (s : State) (g : Nat) (x : MPage) : (setPage s g x).scratchWalks = s.scratchWalks := rfl
@[simp] theorem setPage_scrubHbm (s : State) (g : Nat) (x : MPage) : (setPage s g x).scrubHbm = s.scrubHbm := rfl
@[simp] theorem setPage_scrubLpddr (s : State) (g : Nat) (x : MPage) : (setPage s g x).scrubLpddr = s.scrubLpddr := rfl
@[simp] theorem setPage_scrubHub (s : State) (g : Nat) (x : MPage) : (setPage s g x).scrubHub = s.scrubHub := rfl
@[simp] theorem setPage_hbmFilled (s : State) (g : Nat) (x : MPage) : (setPage s g x).hbmFilled = s.hbmFilled := rfl
@[simp] theorem setPage_lpddrFilled (s : State) (g : Nat) (x : MPage) : (setPage s g x).lpddrFilled = s.lpddrFilled := rfl
@[simp] theorem setPage_keysWithdrawn (s : State) (g : Nat) (x : MPage) : (setPage s g x).keysWithdrawn = s.keysWithdrawn := rfl
@[simp] theorem setPage_bus (s : State) (g : Nat) (x : MPage) : (setPage s g x).bus = s.bus := rfl
@[simp] theorem setPage_net (s : State) (g : Nat) (x : MPage) : (setPage s g x).net = s.net := rfl
@[simp] theorem setPage_rdma (s : State) (g : Nat) (x : MPage) : (setPage s g x).rdma = s.rdma := rfl
@[simp] theorem setPage_keySess (s : State) (g : Nat) (x : MPage) : (setPage s g x).keySess = s.keySess := rfl
@[simp] theorem setPage_cphQs (s : State) (g : Nat) (x : MPage) : (setPage s g x).cphQs = s.cphQs := rfl
@[simp] theorem setPage_cphReqs (s : State) (g : Nat) (x : MPage) : (setPage s g x).cphReqs = s.cphReqs := rfl
@[simp] theorem setPage_comms (s : State) (g : Nat) (x : MPage) : (setPage s g x).comms = s.comms := rfl
@[simp] theorem setPage_colOps (s : State) (g : Nat) (x : MPage) : (setPage s g x).colOps = s.colOps := rfl
@[simp] theorem setPage_sclQps (s : State) (g : Nat) (x : MPage) : (setPage s g x).sclQps = s.sclQps := rfl
@[simp] theorem setPage_sclCmds (s : State) (g : Nat) (x : MPage) : (setPage s g x).sclCmds = s.sclCmds := rfl
@[simp] theorem setPage_vols (s : State) (g : Nat) (x : MPage) : (setPage s g x).vols = s.vols := rfl
@[simp] theorem setPage_sclIgnored (s : State) (g : Nat) (x : MPage) : (setPage s g x).sclIgnored = s.sclIgnored := rfl
@[simp] theorem setPage_ctxs (s : State) (g : Nat) (x : MPage) : (setPage s g x).ctxs = s.ctxs := rfl
@[simp] theorem setPage_atnEntries (s : State) (g : Nat) (x : MPage) : (setPage s g x).atnEntries = s.atnEntries := rfl
@[simp] theorem setPage_sec (s : State) (g : Nat) (x : MPage) : (setPage s g x).sec = s.sec := rfl
@[simp] theorem setPage_pwr (s : State) (g : Nat) (x : MPage) : (setPage s g x).pwr = s.pwr := rfl
@[simp] theorem setPage_ink (s : State) (g : Nat) (x : MPage) : (setPage s g x).ink = s.ink := rfl
@[simp] theorem setPage_board (s : State) (g : Nat) (x : MPage) : (setPage s g x).board = s.board := rfl
@[simp] theorem setPage_irq (s : State) (g : Nat) (x : MPage) : (setPage s g x).irq = s.irq := rfl
@[simp] theorem setPage_jtag (s : State) (g : Nat) (x : MPage) : (setPage s g x).jtag = s.jtag := rfl
@[simp] theorem setPage_logBuf (s : State) (g : Nat) (x : MPage) : (setPage s g x).logBuf = s.logBuf := rfl
@[simp] theorem setPage_logFlash (s : State) (g : Nat) (x : MPage) : (setPage s g x).logFlash = s.logFlash := rfl
@[simp] theorem setPage_logSeq (s : State) (g : Nat) (x : MPage) : (setPage s g x).logSeq = s.logSeq := rfl
@[simp] theorem setPage_logLost (s : State) (g : Nat) (x : MPage) : (setPage s g x).logLost = s.logLost := rfl
@[simp] theorem setPage_boots (s : State) (g : Nat) (x : MPage) : (setPage s g x).boots = s.boots := rfl
@[simp] theorem setPage_sent (s : State) (g : Nat) (x : MPage) : (setPage s g x).sent = s.sent := rfl

@[simp] theorem setSwPort_elapsed (s : State) (i : Nat) (x : SwPort) : (setSwPort s i x).elapsed = s.elapsed := rfl
@[simp] theorem setSwPort_freeCtr (s : State) (i : Nat) (x : SwPort) : (setSwPort s i x).freeCtr = s.freeCtr := rfl
@[simp] theorem setSwPort_pending (s : State) (i : Nat) (x : SwPort) : (setSwPort s i x).pending = s.pending := rfl
@[simp] theorem setSwPort_nibs (s : State) (i : Nat) (x : SwPort) : (setSwPort s i x).nibs = s.nibs := rfl
@[simp] theorem setSwPort_cores (s : State) (i : Nat) (x : SwPort) : (setSwPort s i x).cores = s.cores := rfl
@[simp] theorem setSwPort_petals (s : State) (i : Nat) (x : SwPort) : (setSwPort s i x).petals = s.petals := rfl
@[simp] theorem setSwPort_pages (s : State) (i : Nat) (x : SwPort) : (setSwPort s i x).pages = s.pages := rfl
@[simp] theorem setSwPort_launches (s : State) (i : Nat) (x : SwPort) : (setSwPort s i x).launches = s.launches := rfl
@[simp] theorem setSwPort_waiters (s : State) (i : Nat) (x : SwPort) : (setSwPort s i x).waiters = s.waiters := rfl
@[simp] theorem setSwPort_ctr (s : State) (i : Nat) (x : SwPort) : (setSwPort s i x).ctr = s.ctr := rfl
@[simp] theorem setSwPort_wrapped (s : State) (i : Nat) (x : SwPort) : (setSwPort s i x).wrapped = s.wrapped := rfl
@[simp] theorem setSwPort_windows (s : State) (i : Nat) (x : SwPort) : (setSwPort s i x).windows = s.windows := rfl
@[simp] theorem setSwPort_msixOwner (s : State) (i : Nat) (x : SwPort) : (setSwPort s i x).msixOwner = s.msixOwner := rfl
@[simp] theorem setSwPort_msixTable (s : State) (i : Nat) (x : SwPort) : (setSwPort s i x).msixTable = s.msixTable := rfl
@[simp] theorem setSwPort_msixPend (s : State) (i : Nat) (x : SwPort) : (setSwPort s i x).msixPend = s.msixPend := rfl
@[simp] theorem setSwPort_busMaster (s : State) (i : Nat) (x : SwPort) : (setSwPort s i x).busMaster = s.busMaster := rfl
@[simp] theorem setSwPort_ready (s : State) (i : Nat) (x : SwPort) : (setSwPort s i x).ready = s.ready := rfl
@[simp] theorem setSwPort_devArea (s : State) (i : Nat) (x : SwPort) : (setSwPort s i x).devArea = s.devArea := rfl
@[simp] theorem setSwPort_mem (s : State) (i : Nat) (x : SwPort) : (setSwPort s i x).mem = s.mem := rfl
@[simp] theorem setSwPort_poison (s : State) (i : Nat) (x : SwPort) : (setSwPort s i x).poison = s.poison := rfl
@[simp] theorem setSwPort_plots (s : State) (i : Nat) (x : SwPort) : (setSwPort s i x).plots = s.plots := rfl
@[simp] theorem setSwPort_retired (s : State) (i : Nat) (x : SwPort) : (setSwPort s i x).retired = s.retired := rfl
@[simp] theorem setSwPort_sparesUsed (s : State) (i : Nat) (x : SwPort) : (setSwPort s i x).sparesUsed = s.sparesUsed := rfl
@[simp] theorem setSwPort_frameCorr (s : State) (i : Nat) (x : SwPort) : (setSwPort s i x).frameCorr = s.frameCorr := rfl
@[simp] theorem setSwPort_unitCorr (s : State) (i : Nat) (x : SwPort) : (setSwPort s i x).unitCorr = s.unitCorr := rfl
@[simp] theorem setSwPort_unitFailed (s : State) (i : Nat) (x : SwPort) : (setSwPort s i x).unitFailed = s.unitFailed := rfl
@[simp] theorem setSwPort_moves (s : State) (i : Nat) (x : SwPort) : (setSwPort s i x).moves = s.moves := rfl
@[simp] theorem setSwPort_walks (s : State) (i : Nat) (x : SwPort) : (setSwPort s i x).walks = s.walks := rfl
@[simp] theorem setSwPort_scratchWalks (s : State) (i : Nat) (x : SwPort) : (setSwPort s i x).scratchWalks = s.scratchWalks := rfl
@[simp] theorem setSwPort_scrubHbm (s : State) (i : Nat) (x : SwPort) : (setSwPort s i x).scrubHbm = s.scrubHbm := rfl
@[simp] theorem setSwPort_scrubLpddr (s : State) (i : Nat) (x : SwPort) : (setSwPort s i x).scrubLpddr = s.scrubLpddr := rfl
@[simp] theorem setSwPort_scrubHub (s : State) (i : Nat) (x : SwPort) : (setSwPort s i x).scrubHub = s.scrubHub := rfl
@[simp] theorem setSwPort_hbmFilled (s : State) (i : Nat) (x : SwPort) : (setSwPort s i x).hbmFilled = s.hbmFilled := rfl
@[simp] theorem setSwPort_lpddrFilled (s : State) (i : Nat) (x : SwPort) : (setSwPort s i x).lpddrFilled = s.lpddrFilled := rfl
@[simp] theorem setSwPort_keysWithdrawn (s : State) (i : Nat) (x : SwPort) : (setSwPort s i x).keysWithdrawn = s.keysWithdrawn := rfl
@[simp] theorem setSwPort_bus (s : State) (i : Nat) (x : SwPort) : (setSwPort s i x).bus = s.bus := rfl
@[simp] theorem setSwPort_net (s : State) (i : Nat) (x : SwPort) : (setSwPort s i x).net = s.net := rfl
@[simp] theorem setSwPort_rdma (s : State) (i : Nat) (x : SwPort) : (setSwPort s i x).rdma = s.rdma := rfl
@[simp] theorem setSwPort_keySess (s : State) (i : Nat) (x : SwPort) : (setSwPort s i x).keySess = s.keySess := rfl
@[simp] theorem setSwPort_cphQs (s : State) (i : Nat) (x : SwPort) : (setSwPort s i x).cphQs = s.cphQs := rfl
@[simp] theorem setSwPort_cphReqs (s : State) (i : Nat) (x : SwPort) : (setSwPort s i x).cphReqs = s.cphReqs := rfl
@[simp] theorem setSwPort_comms (s : State) (i : Nat) (x : SwPort) : (setSwPort s i x).comms = s.comms := rfl
@[simp] theorem setSwPort_colOps (s : State) (i : Nat) (x : SwPort) : (setSwPort s i x).colOps = s.colOps := rfl
@[simp] theorem setSwPort_sclQps (s : State) (i : Nat) (x : SwPort) : (setSwPort s i x).sclQps = s.sclQps := rfl
@[simp] theorem setSwPort_sclCmds (s : State) (i : Nat) (x : SwPort) : (setSwPort s i x).sclCmds = s.sclCmds := rfl
@[simp] theorem setSwPort_vols (s : State) (i : Nat) (x : SwPort) : (setSwPort s i x).vols = s.vols := rfl
@[simp] theorem setSwPort_sclIgnored (s : State) (i : Nat) (x : SwPort) : (setSwPort s i x).sclIgnored = s.sclIgnored := rfl
@[simp] theorem setSwPort_ctxs (s : State) (i : Nat) (x : SwPort) : (setSwPort s i x).ctxs = s.ctxs := rfl
@[simp] theorem setSwPort_atnEntries (s : State) (i : Nat) (x : SwPort) : (setSwPort s i x).atnEntries = s.atnEntries := rfl
@[simp] theorem setSwPort_sec (s : State) (i : Nat) (x : SwPort) : (setSwPort s i x).sec = s.sec := rfl
@[simp] theorem setSwPort_pwr (s : State) (i : Nat) (x : SwPort) : (setSwPort s i x).pwr = s.pwr := rfl
@[simp] theorem setSwPort_ink (s : State) (i : Nat) (x : SwPort) : (setSwPort s i x).ink = s.ink := rfl
@[simp] theorem setSwPort_board (s : State) (i : Nat) (x : SwPort) : (setSwPort s i x).board = s.board := rfl
@[simp] theorem setSwPort_irq (s : State) (i : Nat) (x : SwPort) : (setSwPort s i x).irq = s.irq := rfl
@[simp] theorem setSwPort_jtag (s : State) (i : Nat) (x : SwPort) : (setSwPort s i x).jtag = s.jtag := rfl
@[simp] theorem setSwPort_logBuf (s : State) (i : Nat) (x : SwPort) : (setSwPort s i x).logBuf = s.logBuf := rfl
@[simp] theorem setSwPort_logFlash (s : State) (i : Nat) (x : SwPort) : (setSwPort s i x).logFlash = s.logFlash := rfl
@[simp] theorem setSwPort_logSeq (s : State) (i : Nat) (x : SwPort) : (setSwPort s i x).logSeq = s.logSeq := rfl
@[simp] theorem setSwPort_logLost (s : State) (i : Nat) (x : SwPort) : (setSwPort s i x).logLost = s.logLost := rfl
@[simp] theorem setSwPort_boots (s : State) (i : Nat) (x : SwPort) : (setSwPort s i x).boots = s.boots := rfl
@[simp] theorem setSwPort_sent (s : State) (i : Nat) (x : SwPort) : (setSwPort s i x).sent = s.sent := rfl

@[simp] theorem count_elapsed (s : State) (kind inst fld n : Nat) : (count s kind inst fld n).elapsed = s.elapsed := by unfold count; dsimp only; split <;> rfl
@[simp] theorem count_freeCtr (s : State) (kind inst fld n : Nat) : (count s kind inst fld n).freeCtr = s.freeCtr := by unfold count; dsimp only; split <;> rfl
@[simp] theorem count_pending (s : State) (kind inst fld n : Nat) : (count s kind inst fld n).pending = s.pending := by unfold count; dsimp only; split <;> rfl
@[simp] theorem count_nibs (s : State) (kind inst fld n : Nat) : (count s kind inst fld n).nibs = s.nibs := by unfold count; dsimp only; split <;> rfl
@[simp] theorem count_cores (s : State) (kind inst fld n : Nat) : (count s kind inst fld n).cores = s.cores := by unfold count; dsimp only; split <;> rfl
@[simp] theorem count_petals (s : State) (kind inst fld n : Nat) : (count s kind inst fld n).petals = s.petals := by unfold count; dsimp only; split <;> rfl
@[simp] theorem count_pages (s : State) (kind inst fld n : Nat) : (count s kind inst fld n).pages = s.pages := by unfold count; dsimp only; split <;> rfl
@[simp] theorem count_launches (s : State) (kind inst fld n : Nat) : (count s kind inst fld n).launches = s.launches := by unfold count; dsimp only; split <;> rfl
@[simp] theorem count_waiters (s : State) (kind inst fld n : Nat) : (count s kind inst fld n).waiters = s.waiters := by unfold count; dsimp only; split <;> rfl
@[simp] theorem count_windows (s : State) (kind inst fld n : Nat) : (count s kind inst fld n).windows = s.windows := by unfold count; dsimp only; split <;> rfl
@[simp] theorem count_msixOwner (s : State) (kind inst fld n : Nat) : (count s kind inst fld n).msixOwner = s.msixOwner := by unfold count; dsimp only; split <;> rfl
@[simp] theorem count_msixTable (s : State) (kind inst fld n : Nat) : (count s kind inst fld n).msixTable = s.msixTable := by unfold count; dsimp only; split <;> rfl
@[simp] theorem count_msixPend (s : State) (kind inst fld n : Nat) : (count s kind inst fld n).msixPend = s.msixPend := by unfold count; dsimp only; split <;> rfl
@[simp] theorem count_pcie (s : State) (kind inst fld n : Nat) : (count s kind inst fld n).pcie = s.pcie := by unfold count; dsimp only; split <;> rfl
@[simp] theorem count_busMaster (s : State) (kind inst fld n : Nat) : (count s kind inst fld n).busMaster = s.busMaster := by unfold count; dsimp only; split <;> rfl
@[simp] theorem count_ready (s : State) (kind inst fld n : Nat) : (count s kind inst fld n).ready = s.ready := by unfold count; dsimp only; split <;> rfl
@[simp] theorem count_devArea (s : State) (kind inst fld n : Nat) : (count s kind inst fld n).devArea = s.devArea := by unfold count; dsimp only; split <;> rfl
@[simp] theorem count_mem (s : State) (kind inst fld n : Nat) : (count s kind inst fld n).mem = s.mem := by unfold count; dsimp only; split <;> rfl
@[simp] theorem count_poison (s : State) (kind inst fld n : Nat) : (count s kind inst fld n).poison = s.poison := by unfold count; dsimp only; split <;> rfl
@[simp] theorem count_plots (s : State) (kind inst fld n : Nat) : (count s kind inst fld n).plots = s.plots := by unfold count; dsimp only; split <;> rfl
@[simp] theorem count_retired (s : State) (kind inst fld n : Nat) : (count s kind inst fld n).retired = s.retired := by unfold count; dsimp only; split <;> rfl
@[simp] theorem count_sparesUsed (s : State) (kind inst fld n : Nat) : (count s kind inst fld n).sparesUsed = s.sparesUsed := by unfold count; dsimp only; split <;> rfl
@[simp] theorem count_frameCorr (s : State) (kind inst fld n : Nat) : (count s kind inst fld n).frameCorr = s.frameCorr := by unfold count; dsimp only; split <;> rfl
@[simp] theorem count_unitCorr (s : State) (kind inst fld n : Nat) : (count s kind inst fld n).unitCorr = s.unitCorr := by unfold count; dsimp only; split <;> rfl
@[simp] theorem count_unitFailed (s : State) (kind inst fld n : Nat) : (count s kind inst fld n).unitFailed = s.unitFailed := by unfold count; dsimp only; split <;> rfl
@[simp] theorem count_moves (s : State) (kind inst fld n : Nat) : (count s kind inst fld n).moves = s.moves := by unfold count; dsimp only; split <;> rfl
@[simp] theorem count_walks (s : State) (kind inst fld n : Nat) : (count s kind inst fld n).walks = s.walks := by unfold count; dsimp only; split <;> rfl
@[simp] theorem count_scratchWalks (s : State) (kind inst fld n : Nat) : (count s kind inst fld n).scratchWalks = s.scratchWalks := by unfold count; dsimp only; split <;> rfl
@[simp] theorem count_scrubHbm (s : State) (kind inst fld n : Nat) : (count s kind inst fld n).scrubHbm = s.scrubHbm := by unfold count; dsimp only; split <;> rfl
@[simp] theorem count_scrubLpddr (s : State) (kind inst fld n : Nat) : (count s kind inst fld n).scrubLpddr = s.scrubLpddr := by unfold count; dsimp only; split <;> rfl
@[simp] theorem count_scrubHub (s : State) (kind inst fld n : Nat) : (count s kind inst fld n).scrubHub = s.scrubHub := by unfold count; dsimp only; split <;> rfl
@[simp] theorem count_hbmFilled (s : State) (kind inst fld n : Nat) : (count s kind inst fld n).hbmFilled = s.hbmFilled := by unfold count; dsimp only; split <;> rfl
@[simp] theorem count_lpddrFilled (s : State) (kind inst fld n : Nat) : (count s kind inst fld n).lpddrFilled = s.lpddrFilled := by unfold count; dsimp only; split <;> rfl
@[simp] theorem count_keysWithdrawn (s : State) (kind inst fld n : Nat) : (count s kind inst fld n).keysWithdrawn = s.keysWithdrawn := by unfold count; dsimp only; split <;> rfl
@[simp] theorem count_bus (s : State) (kind inst fld n : Nat) : (count s kind inst fld n).bus = s.bus := by unfold count; dsimp only; split <;> rfl
@[simp] theorem count_net (s : State) (kind inst fld n : Nat) : (count s kind inst fld n).net = s.net := by unfold count; dsimp only; split <;> rfl
@[simp] theorem count_rdma (s : State) (kind inst fld n : Nat) : (count s kind inst fld n).rdma = s.rdma := by unfold count; dsimp only; split <;> rfl
@[simp] theorem count_keySess (s : State) (kind inst fld n : Nat) : (count s kind inst fld n).keySess = s.keySess := by unfold count; dsimp only; split <;> rfl
@[simp] theorem count_cphQs (s : State) (kind inst fld n : Nat) : (count s kind inst fld n).cphQs = s.cphQs := by unfold count; dsimp only; split <;> rfl
@[simp] theorem count_cphReqs (s : State) (kind inst fld n : Nat) : (count s kind inst fld n).cphReqs = s.cphReqs := by unfold count; dsimp only; split <;> rfl
@[simp] theorem count_comms (s : State) (kind inst fld n : Nat) : (count s kind inst fld n).comms = s.comms := by unfold count; dsimp only; split <;> rfl
@[simp] theorem count_colOps (s : State) (kind inst fld n : Nat) : (count s kind inst fld n).colOps = s.colOps := by unfold count; dsimp only; split <;> rfl
@[simp] theorem count_sclQps (s : State) (kind inst fld n : Nat) : (count s kind inst fld n).sclQps = s.sclQps := by unfold count; dsimp only; split <;> rfl
@[simp] theorem count_sclCmds (s : State) (kind inst fld n : Nat) : (count s kind inst fld n).sclCmds = s.sclCmds := by unfold count; dsimp only; split <;> rfl
@[simp] theorem count_vols (s : State) (kind inst fld n : Nat) : (count s kind inst fld n).vols = s.vols := by unfold count; dsimp only; split <;> rfl
@[simp] theorem count_sclIgnored (s : State) (kind inst fld n : Nat) : (count s kind inst fld n).sclIgnored = s.sclIgnored := by unfold count; dsimp only; split <;> rfl
@[simp] theorem count_ctxs (s : State) (kind inst fld n : Nat) : (count s kind inst fld n).ctxs = s.ctxs := by unfold count; dsimp only; split <;> rfl
@[simp] theorem count_atnEntries (s : State) (kind inst fld n : Nat) : (count s kind inst fld n).atnEntries = s.atnEntries := by unfold count; dsimp only; split <;> rfl
@[simp] theorem count_sec (s : State) (kind inst fld n : Nat) : (count s kind inst fld n).sec = s.sec := by unfold count; dsimp only; split <;> rfl
@[simp] theorem count_pwr (s : State) (kind inst fld n : Nat) : (count s kind inst fld n).pwr = s.pwr := by unfold count; dsimp only; split <;> rfl
@[simp] theorem count_ink (s : State) (kind inst fld n : Nat) : (count s kind inst fld n).ink = s.ink := by unfold count; dsimp only; split <;> rfl
@[simp] theorem count_board (s : State) (kind inst fld n : Nat) : (count s kind inst fld n).board = s.board := by unfold count; dsimp only; split <;> rfl
@[simp] theorem count_irq (s : State) (kind inst fld n : Nat) : (count s kind inst fld n).irq = s.irq := by unfold count; dsimp only; split <;> rfl
@[simp] theorem count_jtag (s : State) (kind inst fld n : Nat) : (count s kind inst fld n).jtag = s.jtag := by unfold count; dsimp only; split <;> rfl
@[simp] theorem count_logBuf (s : State) (kind inst fld n : Nat) : (count s kind inst fld n).logBuf = s.logBuf := by unfold count; dsimp only; split <;> rfl
@[simp] theorem count_logFlash (s : State) (kind inst fld n : Nat) : (count s kind inst fld n).logFlash = s.logFlash := by unfold count; dsimp only; split <;> rfl
@[simp] theorem count_logSeq (s : State) (kind inst fld n : Nat) : (count s kind inst fld n).logSeq = s.logSeq := by unfold count; dsimp only; split <;> rfl
@[simp] theorem count_logLost (s : State) (kind inst fld n : Nat) : (count s kind inst fld n).logLost = s.logLost := by unfold count; dsimp only; split <;> rfl
@[simp] theorem count_boots (s : State) (kind inst fld n : Nat) : (count s kind inst fld n).boots = s.boots := by unfold count; dsimp only; split <;> rfl
@[simp] theorem count_sent (s : State) (kind inst fld n : Nat) : (count s kind inst fld n).sent = s.sent := by unfold count; dsimp only; split <;> rfl

@[simp] theorem fresh_freeCtr (s : State) : (fresh s).freeCtr = s.freeCtr + 1 := rfl

@[simp] theorem getNib_setNib_self (s : State) (n : Nat) (x : Nib) : getNib (setNib s n x) n = x := by simp [getNib, setNib]
theorem getNib_setNib_ne (s : State) {n m : Nat} (x : Nib) (h : n ≠ m) : getNib (setNib s n x) m = getNib s m :=
  lookD_put_ne s.nibs x Nib.zero h
@[simp] theorem getNib_setCore (s : State) (k n : Nat) (x : Core) : getNib (setCore s k x) n = getNib s n := rfl
@[simp] theorem getCore_setNib (s : State) (k n : Nat) (x : Nib) : getCore (setNib s n x) k = getCore s k := rfl
@[simp] theorem getCore_setCore_self (s : State) (k : Nat) (x : Core) : getCore (setCore s k x) k = x := by simp [getCore, setCore]
theorem getCore_setCore_ne (s : State) {k m : Nat} (x : Core) (h : k ≠ m) : getCore (setCore s k x) m = getCore s m :=
  lookD_put_ne s.cores x Core.zero h
@[simp] theorem getPetal_setNib (s : State) (n p : Nat) (x : Nib) : getPetal (setNib s n x) p = getPetal s p := rfl
@[simp] theorem getPetal_setCore (s : State) (k p : Nat) (x : Core) : getPetal (setCore s k x) p = getPetal s p := rfl
@[simp] theorem getPetal_setPetal_self (s : State) (p : Nat) (x : Petal) : getPetal (setPetal s p x) p = some x := by
  simp [getPetal, setPetal]
theorem getPetal_setPetal_ne (s : State) {p q : Nat} (x : Petal) (h : p ≠ q) : getPetal (setPetal s p x) q = getPetal s q :=
  look_put_ne s.petals x h
@[simp] theorem getPetal_setPage (s : State) (g p : Nat) (x : MPage) : getPetal (setPage s g x) p = getPetal s p := rfl
@[simp] theorem getPage_setPage_self (s : State) (g : Nat) (x : MPage) : getPage (setPage s g x) g = x := by simp [getPage, setPage]
theorem getPage_setPage_ne (s : State) {g k : Nat} (x : MPage) (h : g ≠ k) : getPage (setPage s g x) k = getPage s k :=
  lookD_put_ne s.pages x MPage.new h
@[simp] theorem getPage_setPetal (s : State) (p g : Nat) (x : Petal) : getPage (setPetal s p x) g = getPage s g := rfl
@[simp] theorem getPage_modPetal (s : State) (p g : Nat) (f : Petal → Petal) : getPage (modPetal s p f) g = getPage s g := rfl
@[simp] theorem getPage_count (s : State) (kind inst fld n g : Nat) : getPage (count s kind inst fld n) g = getPage s g := by
  simp [getPage]
@[simp] theorem getPetal_count (s : State) (kind inst fld n p : Nat) : getPetal (count s kind inst fld n) p = getPetal s p := by
  simp [getPetal]
@[simp] theorem getNib_count (s : State) (kind inst fld n m : Nat) : getNib (count s kind inst fld n) m = getNib s m := by
  simp [getNib]
@[simp] theorem getCore_count (s : State) (kind inst fld n k : Nat) : getCore (count s kind inst fld n) k = getCore s k := by
  simp [getCore]
theorem getPetal_modPetal_self (s : State) (p : Nat) (f : Petal → Petal) : getPetal (modPetal s p f) p = (getPetal s p).map f := by
  unfold getPetal modPetal upd
  cases h : look s.petals p <;> simp [h]
theorem getPetal_modPetal_ne (s : State) {p q : Nat} (f : Petal → Petal) (h : p ≠ q) : getPetal (modPetal s p f) q = getPetal s q := by
  unfold getPetal modPetal upd
  cases hp : look s.petals p
  · rfl
  · exact look_put_ne _ _ h

end Sys2Proof.Machine
end

