-- ==== Sys2Proof/Laws/Mailbox.lean ====
section
/-!
SUPPORT. What the mailbox protocol does with a command, once for every command.
-/

namespace Sys2Proof.Machine

theorem begun_busy (c : Cmd) (m : Mbx) (s : State) :
    (getPage (writeRequest c.opcode m (settleLease (awake s) m.page.val)) m.page.val).busy = (getPage (begun c m s) m.page.val).busy := by
  unfold begun
  dsimp only
  split
  · rfl
  · rw [getPage_count]

theorem mem_count (s : State) (kind inst field n : Nat) : (count s kind inst field n).mem = s.mem := by
  unfold count
  dsimp only
  by_cases h : 2 ^ 64 ≤ lookD s.ctr (ctrKey kind inst field) 0 + n
  · rw [if_pos h]
  · rw [if_neg h]

@[simp] theorem mem_awake (s : State) : (awake s).mem = s.mem := by
  unfold awake
  split <;> rfl

/-- Where no lease ends, the start of a command leaves memory alone. -/
theorem begun_mem (c : Cmd) (m : Mbx) (s : State) (h : leaseDue (awake s) m.page.val = false) : (begun c m s).mem = s.mem := by
  have hs : settleLease (awake s) m.page.val = awake s := by rw [settleLease, if_neg (by simp [h])]
  unfold begun
  rw [hs]
  dsimp only
  split
  · exact mem_awake s
  · rw [mem_count]
    exact mem_awake s

theorem sec_count (s : State) (kind inst field n : Nat) : (count s kind inst field n).sec = s.sec := by
  unfold count
  dsimp only
  by_cases h : 2 ^ 64 ≤ lookD s.ctr (ctrKey kind inst field) 0 + n
  · rw [if_pos h]
  · rw [if_neg h]

@[simp] theorem sec_awake (s : State) : (awake s).sec = s.sec := by
  unfold awake
  split <;> rfl

/-- Where no lease ends, the start of a command leaves security alone. -/
theorem begun_sec (c : Cmd) (m : Mbx) (s : State) (h : leaseDue (awake s) m.page.val = false) : (begun c m s).sec = s.sec := by
  have hs : settleLease (awake s) m.page.val = awake s := by rw [settleLease, if_neg (by simp [h])]
  unfold begun
  rw [hs]
  dsimp only
  split
  · exact sec_awake s
  · rw [sec_count]
    exact sec_awake s

/-- A served command runs its meaning. -/
theorem mailbox_served (c : Cmd) (body : Mbx → State → State × Ans) (m : Mbx) (s : State) (h : Served c m s) :
    mailbox c body m s = runBody c body m (begun c m s) := by
  obtain ⟨h1, h2, h3, _⟩ := h
  unfold mailbox
  rw [if_pos h1]
  unfold doorbell
  simp only [begun_busy, h2, if_false, Bool.false_eq_true]
  have : (if m.page.val = devPage then writeRequest c.opcode m (settleLease (awake s) m.page.val)
      else count (writeRequest c.opcode m (settleLease (awake s) m.page.val)) kPtl m.page.val 8 1) = begun c m s := rfl
  rw [this, h3]

/-- A served command whose meaning answers at once. -/
theorem mailbox_reply (c : Cmd) (body : Mbx → State → State × Ans) (m : Mbx) (s t : State) (r : Reply) (h : Served c m s)
    (hb : body m (begun c m s) = (t, .reply r)) : mailbox c body m s = answered m r t := by
  rw [mailbox_served c body m s h]
  unfold runBody
  rw [if_neg (by simp [h.2.2.2]), hb]
  rfl

/-- A served command whose meaning answers PENDING. -/
theorem mailbox_pend (c : Cmd) (body : Mbx → State → State × Ans) (m : Mbx) (s t : State) (why : PendWhy) (h : Served c m s)
    (hb : body m (begun c m s) = (t, .pend why)) : mailbox c body m s = postPending c m why none t := by
  rw [mailbox_served c body m s h]
  unfold runBody
  rw [if_neg (by simp [h.2.2.2]), hb]

/-- A served command whose meaning answers PENDING with a known outcome. -/
theorem mailbox_late (c : Cmd) (body : Mbx → State → State × Ans) (m : Mbx) (s t : State) (why : PendWhy) (r : Reply) (h : Served c m s)
    (hb : body m (begun c m s) = (t, .late why r)) : mailbox c body m s = postPending c m why (some r) t := by
  rw [mailbox_served c body m s h]
  unfold runBody
  rw [if_neg (by simp [h.2.2.2]), hb]

/-- A page that does not answer leaves the module as it was. -/
theorem mailbox_silent (c : Cmd) (body : Mbx → State → State × Ans) (m : Mbx) (s : State) (h : pageAnswers s m.page.val = false) :
    mailbox c body m s = s := by
  unfold mailbox
  rw [if_neg (by simp [h])]

/-- R295: a refused command gets the response of the first check that fails, and has no effect. -/
theorem mailbox_refused (c : Cmd) (body : Mbx → State → State × Ans) (m : Mbx) (s : State) (r : Reply)
    (h1 : pageAnswers s m.page.val = true) (h2 : (getPage (begun c m s) m.page.val).busy = false)
    (h3 : mbxRefusal c m (begun c m s) = some r) : mailbox c body m s = answered m r (begun c m s) := by
  unfold mailbox
  rw [if_pos h1]
  unfold doorbell
  simp only [begun_busy, h2, if_false, Bool.false_eq_true]
  have : (if m.page.val = devPage then writeRequest c.opcode m (settleLease (awake s) m.page.val)
      else count (writeRequest c.opcode m (settleLease (awake s) m.page.val)) kPtl m.page.val 8 1) = begun c m s := rfl
  rw [this, h3]
  rfl

end Sys2Proof.Machine
end

