-- ==== Sys2Proof/Laws/Nib.lean ====
section
/-!
SUPPORT. What the issue of a bundle of one syllable does, once for every syllable.
-/

namespace Sys2Proof.Machine

theorem landOne_keeps (x : Nib) (l : Land) :
    (landOne x l).pc = x.pc ∧ (landOne x l).unitErr = x.unitErr ∧ (landOne x l).bundles = x.bundles ∧
    (landOne x l).compat = x.compat ∧ (landOne x l).streams = x.streams ∧ (landOne x l).flight = x.flight := by
  cases l <;> simp only [landOne]
  case g r v => split <;> simp
  case cr o v => unfold writeCr; split <;> simp
  all_goals simp

theorem foldl_landOne_keeps (l : List Flight) (x : Nib) :
    let y := l.foldl (fun a f => landOne a f.land) x
    y.pc = x.pc ∧ y.unitErr = x.unitErr ∧ y.bundles = x.bundles ∧ y.compat = x.compat ∧ y.streams = x.streams := by
  induction l generalizing x with
  | nil => simp
  | cons f l ih =>
    have h := landOne_keeps x f.land
    have := ih (landOne x f.land)
    simp only [List.foldl_cons] at *
    simp [this, h]

@[simp] theorem landDue_pc (x : Nib) : (landDue x).pc = x.pc := (foldl_landOne_keeps _ x).1
@[simp] theorem landDue_unitErr (x : Nib) : (landDue x).unitErr = x.unitErr := (foldl_landOne_keeps _ x).2.1
@[simp] theorem landDue_bundles (x : Nib) : (landDue x).bundles = x.bundles := (foldl_landOne_keeps _ x).2.2.1
@[simp] theorem landDue_compat (x : Nib) : (landDue x).compat = x.compat := (foldl_landOne_keeps _ x).2.2.2.1
@[simp] theorem landDue_streams (x : Nib) : (landDue x).streams = x.streams := (foldl_landOne_keeps _ x).2.2.2.2

theorem bundleLen_one (x : Syl) : bundleLen [x] = sylBytes x := by simp [bundleLen]

theorem sylBytes_le (x : Syl) : sylBytes x ≤ 4 := by unfold sylBytes; split <;> omega

theorem formed_one (x : Syl) (h : noTwice (sylDests x) = true) : formed [x] = true := by
  simp [formed, noTwice, h]

/-- R89 to R92: a bundle of one syllable with effects takes them as a whole. -/
theorem issue_ok (s : State) (n : NibId) (x : Syl) (es : List Eff) (h : Issues s n.val x)
    (he : evalSyl (loneCtx s n.val x) x = .ok es) (hd : noTwice (sylDests x) = true)
    (hm : mustStall s n.val (dropRestored es) = false) :
    issueSyl n true x s = commitBundle s n.val (loneCtx s n.val x) (dropRestored es) := by
  obtain ⟨h1, h2, h3, h4, h5, h6, h7, h8⟩ := h
  have hl := sylBytes_le x
  have hf : fetchFault (loneCtx s n.val x) (min (sylBytes x) 16) = none := by
    rw [Nat.min_eq_left (by omega)]
    unfold fetchFault loneCtx bundleCtx
    simp only [readyNib] at h6 h7 h8
    dsimp only
    rw [if_neg (by omega), h8]
    rfl
  have hb : readBundle (loneCtx s n.val x) [x] = .ok (dropRestored es) := by
    unfold readBundle
    simp only [List.map_cons, List.map_nil, he, formed_one x hd]
    cases hc : sylCls x <;> cases hq : es.any isSeed <;> simp [classOrder, effsOf, List.filter, hq]
  have hu : (loneCtx s n.val x).nib.unitErr = none := by simp [loneCtx, bundleCtx, h5]
  unfold issueSyl
  rw [if_pos ⟨h1, h2⟩, h3, h4]
  simp only [List.nil_append, if_true]
  unfold closeBundle
  rw [bundleLen_one]
  simp only [loneCtx] at *
  simp only [hf, hu, hb, hm]
  rw [if_neg (by omega)]
  simp

/-- R57, R58: a bundle of one syllable that faults raises the fault. -/
theorem issue_fault (s : State) (n : NibId) (x : Syl) (f : SylFault) (h : Issues s n.val x)
    (he : evalSyl (loneCtx s n.val x) x = .fault f) (hd : noTwice (sylDests x) = true) (hf : f.code ≠ fcIllegalOpcode) :
    issueSyl n true x s = nibFault s n.val f.code (sylCls x).code f.address (bundleBytes [x] true) := by
  obtain ⟨h1, h2, h3, h4, h5, h6, h7, h8⟩ := h
  have hl := sylBytes_le x
  have hff : fetchFault (loneCtx s n.val x) (min (sylBytes x) 16) = none := by
    rw [Nat.min_eq_left (by omega)]
    unfold fetchFault loneCtx bundleCtx
    simp only [readyNib] at h6 h7 h8
    dsimp only
    rw [if_neg (by omega), h8]
    rfl
  have hb : readBundle (loneCtx s n.val x) [x] = .fault f.code (sylCls x).code f.address := by
    unfold readBundle
    simp only [List.map_cons, List.map_nil, he, formed_one x hd]
    cases hc : sylCls x <;> simp [classOrder, effsOf, hf, List.filter]
  have hu : (loneCtx s n.val x).nib.unitErr = none := by simp [loneCtx, bundleCtx, h5]
  unfold issueSyl
  rw [if_pos ⟨h1, h2⟩, h3, h4]
  simp only [List.nil_append, if_true]
  unfold closeBundle
  rw [bundleLen_one]
  simp only [loneCtx] at *
  simp only [hff, hu, hb]
  rw [if_neg (by omega)]

/-- An effect on the Nib's own registers alone. -/
def ownEff : Eff → Bool
  | .g _ _ _ | .v _ _ _ _ | .p _ _ | .la _ _ | .cr _ _ | .flags _ | .seed _ | .timeHi _ | .sp _ | .restore _ _ | .jump _ => true
  | _ => false

theorem foldl_effCore_own (k : Core) (es : List Eff) (h : es.all ownEff = true) : es.foldl effCore k = k := by
  induction es generalizing k with
  | nil => rfl
  | cons e es ih =>
    simp only [List.all_cons, Bool.and_eq_true] at h
    have : effCore k e = k := by cases e <;> first | rfl | simp [ownEff] at h
    rw [List.foldl_cons, this, ih k h.2]

theorem foldl_effState_own (n : Nat) (s : State) (es : List Eff) (h : es.all ownEff = true) : es.foldl (effState n) s = s := by
  induction es generalizing s with
  | nil => rfl
  | cons e es ih =>
    simp only [List.all_cons, Bool.and_eq_true] at h
    have : effState n s e = s := by cases e <;> first | rfl | simp [ownEff] at h
    rw [List.foldl_cons, this, ih s h.2]

theorem foldl_undo_own (k : Core) (es : List Eff) (h : es.all ownEff = true) : undoOf k es = [] := by
  unfold undoOf
  induction es with
  | nil => rfl
  | cons e es ih =>
    simp only [List.all_cons, Bool.and_eq_true] at h
    rw [List.foldl_cons]
    cases e <;> first | exact ih h.2 | simp [ownEff] at h

theorem mustStall_own (s : State) (n : Nat) (es : List Eff) (h : es.all ownEff = true) : mustStall s n es = false := by
  unfold mustStall
  rw [List.any_eq_false]
  intro e he
  have := List.all_eq_true.mp h e he
  cases e <;> first | (simp [ownEff] at this; done) | simp

theorem waitIn_own (es : List Eff) (h : es.all ownEff = true) : waitIn es = none := by
  unfold waitIn
  rw [List.head?_eq_none_iff, List.filterMap_eq_nil_iff]
  intro e he
  have := List.all_eq_true.mp h e he
  cases e <;> first | rfl | simp [ownEff] at this

theorem finish_own (es : List Eff) (h : es.all ownEff = true) : es.any (· == .finish) = false := by
  rw [List.any_eq_false]
  intro e he
  have := List.all_eq_true.mp h e he
  cases e <;> first | (simp [ownEff] at this; done) | simp

theorem streams_own (es : List Eff) (h : es.all ownEff = true) :
    es.filterMap (fun e => match e with | .stream t => some t | _ => none) = [] := by
  rw [List.filterMap_eq_nil_iff]
  intro e he
  have := List.all_eq_true.mp h e he
  cases e <;> first | rfl | simp [ownEff] at this

theorem all_dropRestored (es : List Eff) (p : Eff → Bool) (h : es.all p = true) : (dropRestored es).all p = true := by
  simp only [dropRestored, List.all_eq_true] at *
  intro e he
  exact h e (List.mem_filter.mp he).1

theorem dropRestored_id (es : List Eff) (h : es.all (fun e => match e with | .restore _ _ => false | _ => true) = true) :
    dropRestored es = es := by
  have hr : es.filterMap (fun e => match e with | .restore r _ => some r | _ => none) = [] := by
    rw [List.filterMap_eq_nil_iff]
    intro e he
    have := List.all_eq_true.mp h e he
    cases e <;> first | rfl | simp at this
  unfold dropRestored
  rw [List.filter_eq_self]
  intro e _
  cases e
  case g r x d _ => exact congrArg (fun l : List Nat => !l.contains r) hr
  all_goals rfl

/-- A bundle of one syllable whose effects are on the Nib's own registers changes that Nib alone. -/
theorem commit_own (s : State) (n : NibId) (x : Syl) (es : List Eff) (h : Issues s n.val x) (ho : es.all ownEff = true) :
    let t := commitBundle s n.val (loneCtx s n.val x) es
    getNib t n.val = afterBundle (loneCtx s n.val x) es ∧ OnlyNib s t n.val := by
  obtain ⟨h1, h2, h3, h4, h5, h6, h7, h8⟩ := h
  have hf : countSingle (scratchErrs (loneCtx s n.val x).core (loneCtx s n.val x).nib.pc.toNat
      ((loneCtx s n.val x).nextPc - (loneCtx s n.val x).nib.pc.toNat)) = 0 := by
    have : (loneCtx s n.val x).nextPc - (loneCtx s n.val x).nib.pc.toNat = sylBytes x := by simp [loneCtx, bundleCtx]
    rw [this]
    simp only [loneCtx, bundleCtx, readyNib] at *
    rw [h8]
    rfl
  have hc : (loneCtx s n.val x).core = getCore s (n.val / 4) := rfl
  intro t
  have ht : t = setCore (setNib s n.val (afterBundle (loneCtx s n.val x) es)) (n.val / 4) (getCore s (n.val / 4)) := by
    simp only [t, commitBundle, hf, if_true, Nat.add_zero, foldl_effCore_own _ _ ho, foldl_effState_own _ _ _ ho, waitIn_own _ ho,
      finish_own _ ho, afterWait]
    simp [hc]
  refine ⟨by simp [ht], ?_, ?_, ?_⟩
  · rw [ht]; rfl
  · intro k
    rw [ht]
    by_cases hk : n.val / 4 = k
    · subst hk; simp
    · rw [getCore_setCore_ne _ _ hk]; simp
  · intro m hm
    rw [ht]
    simp [getNib_setNib_ne _ _ (Ne.symm hm)]

/-- The whole of it for a syllable that ends with effects on the Nib's own registers, none of them a restore. -/
theorem issue_own (s : State) (n : NibId) (x : Syl) (es : List Eff) (h : Issues s n.val x)
    (he : evalSyl (loneCtx s n.val x) x = .ok es) (hd : noTwice (sylDests x) = true) (ho : es.all ownEff = true)
    (hr : es.all (fun e => match e with | .restore _ _ => false | _ => true) = true) :
    getNib (issueSyl n true x s) n.val = afterBundle (loneCtx s n.val x) es ∧ OnlyNib s (issueSyl n true x s) n.val := by
  have := issue_ok s n x es h he hd (by rw [dropRestored_id es hr]; exact mustStall_own _ _ _ ho)
  rw [this, dropRestored_id es hr]
  exact commit_own s n x es h ho

end Sys2Proof.Machine
end

