-- ==== Sys2Proof/Laws/PerInstr.lean ====
section
/-!
SUPPORT. Facts that hold of every command, one lemma per constructor.
-/

/-- No command is refused: a command that the manual defines has its effect. -/
def Sys2Proof.Laws.NoRefusal.Statement (i : Sys2Proof.Instr) : Prop :=
  ∀ (s : Sys2Proof.Machine.State) (r : Sys2Proof.Machine.Refusal), Sys2Proof.Machine.exec i s ≠ .refused r

namespace Sys2Proof.Laws.NoRefusal

open Sys2Proof.Machine

theorem mov (n : NibId) (stop : Bool) (f : MovForm) : Statement (.mov n stop f) := by intro s q h; cases h
theorem add (n : NibId) (stop : Bool) (f : AluForm) : Statement (.add n stop f) := by intro s q h; cases h
theorem sub (n : NibId) (stop : Bool) (f : AluForm) : Statement (.sub n stop f) := by intro s q h; cases h
theorem andS (n : NibId) (stop : Bool) (f : AluForm) : Statement (.andS n stop f) := by intro s q h; cases h
theorem orS (n : NibId) (stop : Bool) (f : AluForm) : Statement (.orS n stop f) := by intro s q h; cases h
theorem xorS (n : NibId) (stop : Bool) (f : AluForm) : Statement (.xorS n stop f) := by intro s q h; cases h
theorem andn (n : NibId) (stop : Bool) (f : RR) : Statement (.andn n stop f) := by intro s q h; cases h
theorem shl (n : NibId) (stop : Bool) (f : AluForm) : Statement (.shl n stop f) := by intro s q h; cases h
theorem shr (n : NibId) (stop : Bool) (f : AluForm) : Statement (.shr n stop f) := by intro s q h; cases h
theorem sra (n : NibId) (stop : Bool) (f : AluForm) : Statement (.sra n stop f) := by intro s q h; cases h
theorem rol (n : NibId) (stop : Bool) (f : RR) : Statement (.rol n stop f) := by intro s q h; cases h
theorem mul (n : NibId) (stop : Bool) (f : RR) : Statement (.mul n stop f) := by intro s q h; cases h
theorem mulhu (n : NibId) (stop : Bool) (f : RR) : Statement (.mulhu n stop f) := by intro s q h; cases h
theorem mulhs (n : NibId) (stop : Bool) (f : RR) : Statement (.mulhs n stop f) := by intro s q h; cases h
theorem min (n : NibId) (stop : Bool) (f : RR) : Statement (.min n stop f) := by intro s q h; cases h
theorem max (n : NibId) (stop : Bool) (f : RR) : Statement (.max n stop f) := by intro s q h; cases h
theorem minu (n : NibId) (stop : Bool) (f : RR) : Statement (.minu n stop f) := by intro s q h; cases h
theorem maxu (n : NibId) (stop : Bool) (f : RR) : Statement (.maxu n stop f) := by intro s q h; cases h
theorem clz (n : NibId) (stop : Bool) (f : RR) : Statement (.clz n stop f) := by intro s q h; cases h
theorem popc (n : NibId) (stop : Bool) (f : RR) : Statement (.popc n stop f) := by intro s q h; cases h
theorem cmpeq (n : NibId) (stop : Bool) (f : AluForm) : Statement (.cmpeq n stop f) := by intro s q h; cases h
theorem cmpne (n : NibId) (stop : Bool) (f : RR) : Statement (.cmpne n stop f) := by intro s q h; cases h
theorem cmplt (n : NibId) (stop : Bool) (f : AluForm) : Statement (.cmplt n stop f) := by intro s q h; cases h
theorem cmpltu (n : NibId) (stop : Bool) (f : RR) : Statement (.cmpltu n stop f) := by intro s q h; cases h
theorem cmple (n : NibId) (stop : Bool) (f : RR) : Statement (.cmple n stop f) := by intro s q h; cases h
theorem cmpleu (n : NibId) (stop : Bool) (f : RR) : Statement (.cmpleu n stop f) := by intro s q h; cases h
theorem addi (n : NibId) (stop : Bool) (f : SAorLI) : Statement (.addi n stop f) := by intro s q h; cases h
theorem andi (n : NibId) (stop : Bool) (f : LI) : Statement (.andi n stop f) := by intro s q h; cases h
theorem ori (n : NibId) (stop : Bool) (f : LI) : Statement (.ori n stop f) := by intro s q h; cases h
theorem xori (n : NibId) (stop : Bool) (f : LI) : Statement (.xori n stop f) := by intro s q h; cases h
theorem shli (n : NibId) (stop : Bool) (f : ShiftImm) : Statement (.shli n stop f) := by intro s q h; cases h
theorem shri (n : NibId) (stop : Bool) (f : ShiftImm) : Statement (.shri n stop f) := by intro s q h; cases h
theorem srai (n : NibId) (stop : Bool) (f : ShiftImm) : Statement (.srai n stop f) := by intro s q h; cases h
theorem roli (n : NibId) (stop : Bool) (f : ShiftImm) : Statement (.roli n stop f) := by intro s q h; cases h
theorem slti (n : NibId) (stop : Bool) (f : LI) : Statement (.slti n stop f) := by intro s q h; cases h
theorem movi (n : NibId) (stop : Bool) (f : SAorLU) : Statement (.movi n stop f) := by intro s q h; cases h
theorem movhi (n : NibId) (stop : Bool) (f : LU) : Statement (.movhi n stop f) := by intro s q h; cases h
theorem mfc (n : NibId) (stop : Bool) (f : SAorLI) : Statement (.mfc n stop f) := by intro s q h; cases h
theorem mtc (n : NibId) (stop : Bool) (f : SAorLI) : Statement (.mtc n stop f) := by intro s q h; cases h
theorem ldb (n : NibId) (stop : Bool) (f : LI) : Statement (.ldb n stop f) := by intro s q h; cases h
theorem ldbu (n : NibId) (stop : Bool) (f : LI) : Statement (.ldbu n stop f) := by intro s q h; cases h
theorem ldh (n : NibId) (stop : Bool) (f : LI) : Statement (.ldh n stop f) := by intro s q h; cases h
theorem ldhu (n : NibId) (stop : Bool) (f : LI) : Statement (.ldhu n stop f) := by intro s q h; cases h
theorem ldw (n : NibId) (stop : Bool) (f : SAorLI) : Statement (.ldw n stop f) := by intro s q h; cases h
theorem stb (n : NibId) (stop : Bool) (f : LI) : Statement (.stb n stop f) := by intro s q h; cases h
theorem sth (n : NibId) (stop : Bool) (f : LI) : Statement (.sth n stop f) := by intro s q h; cases h
theorem stw (n : NibId) (stop : Bool) (f : SAorLI) : Statement (.stw n stop f) := by intro s q h; cases h
theorem vld64 (n : NibId) (stop : Bool) (f : LI) : Statement (.vld64 n stop f) := by intro s q h; cases h
theorem vld128 (n : NibId) (stop : Bool) (f : LI) : Statement (.vld128 n stop f) := by intro s q h; cases h
theorem vld256 (n : NibId) (stop : Bool) (f : SAorLI) : Statement (.vld256 n stop f) := by intro s q h; cases h
theorem vst64 (n : NibId) (stop : Bool) (f : LI) : Statement (.vst64 n stop f) := by intro s q h; cases h
theorem vst128 (n : NibId) (stop : Bool) (f : LI) : Statement (.vst128 n stop f) := by intro s q h; cases h
theorem vst256 (n : NibId) (stop : Bool) (f : SAorLI) : Statement (.vst256 n stop f) := by intro s q h; cases h
theorem vldx (n : NibId) (stop : Bool) (f : IndexForm) : Statement (.vldx n stop f) := by intro s q h; cases h
theorem vstx (n : NibId) (stop : Bool) (f : IndexForm) : Statement (.vstx n stop f) := by intro s q h; cases h
theorem vadd (n : NibId) (stop : Bool) (f : LaneForm) : Statement (.vadd n stop f) := by intro s q h; cases h
theorem vsub (n : NibId) (stop : Bool) (f : LaneForm) : Statement (.vsub n stop f) := by intro s q h; cases h
theorem vmul (n : NibId) (stop : Bool) (f : LaneForm) : Statement (.vmul n stop f) := by intro s q h; cases h
theorem vmin (n : NibId) (stop : Bool) (f : LaneForm) : Statement (.vmin n stop f) := by intro s q h; cases h
theorem vmax (n : NibId) (stop : Bool) (f : LaneForm) : Statement (.vmax n stop f) := by intro s q h; cases h
theorem vabs (n : NibId) (stop : Bool) (f : LaneForm) : Statement (.vabs n stop f) := by intro s q h; cases h
theorem vneg (n : NibId) (stop : Bool) (f : LaneForm) : Statement (.vneg n stop f) := by intro s q h; cases h
theorem vcmpeq (n : NibId) (stop : Bool) (f : LaneForm) : Statement (.vcmpeq n stop f) := by intro s q h; cases h
theorem vcmplt (n : NibId) (stop : Bool) (f : LaneForm) : Statement (.vcmplt n stop f) := by intro s q h; cases h
theorem vcmple (n : NibId) (stop : Bool) (f : LaneForm) : Statement (.vcmple n stop f) := by intro s q h; cases h
theorem vand (n : NibId) (stop : Bool) (f : LaneForm) : Statement (.vand n stop f) := by intro s q h; cases h
theorem vor (n : NibId) (stop : Bool) (f : LaneForm) : Statement (.vor n stop f) := by intro s q h; cases h
theorem vxor (n : NibId) (stop : Bool) (f : LaneForm) : Statement (.vxor n stop f) := by intro s q h; cases h
theorem vshl (n : NibId) (stop : Bool) (f : LaneForm) : Statement (.vshl n stop f) := by intro s q h; cases h
theorem vshr (n : NibId) (stop : Bool) (f : LaneForm) : Statement (.vshr n stop f) := by intro s q h; cases h
theorem vsra (n : NibId) (stop : Bool) (f : LaneForm) : Statement (.vsra n stop f) := by intro s q h; cases h
theorem vfma (n : NibId) (stop : Bool) (f : LR) : Statement (.vfma n stop f) := by intro s q h; cases h
theorem vmov (n : NibId) (stop : Bool) (f : SA) : Statement (.vmov n stop f) := by intro s q h; cases h
theorem vcvt (n : NibId) (stop : Bool) (f : LR) : Statement (.vcvt n stop f) := by intro s q h; cases h
theorem vmxs (n : NibId) (stop : Bool) (f : LR) : Statement (.vmxs n stop f) := by intro s q h; cases h
theorem vmxq (n : NibId) (stop : Bool) (f : LR) : Statement (.vmxq n stop f) := by intro s q h; cases h
theorem vmxd (n : NibId) (stop : Bool) (f : LR) : Statement (.vmxd n stop f) := by intro s q h; cases h
theorem exps (n : NibId) (stop : Bool) (f : SAorLR) : Statement (.exps n stop f) := by intro s q h; cases h
theorem maxrun (n : NibId) (stop : Bool) (f : SAorLR) : Statement (.maxrun n stop f) := by intro s q h; cases h
theorem vrsum (n : NibId) (stop : Bool) (f : ReduceForm) : Statement (.vrsum n stop f) := by intro s q h; cases h
theorem vrmax (n : NibId) (stop : Bool) (f : ReduceForm) : Statement (.vrmax n stop f) := by intro s q h; cases h
theorem vrmin (n : NibId) (stop : Bool) (f : ReduceForm) : Statement (.vrmin n stop f) := by intro s q h; cases h
theorem vbcast (n : NibId) (stop : Bool) (f : LR) : Statement (.vbcast n stop f) := by intro s q h; cases h
theorem vext (n : NibId) (stop : Bool) (f : LI) : Statement (.vext n stop f) := by intro s q h; cases h
theorem vins (n : NibId) (stop : Bool) (f : LI) : Statement (.vins n stop f) := by intro s q h; cases h
theorem vshuf (n : NibId) (stop : Bool) (f : LR) : Statement (.vshuf n stop f) := by intro s q h; cases h
theorem vsplati (n : NibId) (stop : Bool) (f : LU) : Statement (.vsplati n stop f) := by intro s q h; cases h
theorem vsel (n : NibId) (stop : Bool) (f : LR) : Statement (.vsel n stop f) := by intro s q h; cases h
theorem xmul (n : NibId) (stop : Bool) (f : LR) : Statement (.xmul n stop f) := by intro s q h; cases h
theorem xmacLa (n : NibId) (stop : Bool) (f : LR) : Statement (.xmacLa n stop f) := by intro s q h; cases h
theorem xaddLa (n : NibId) (stop : Bool) (f : SAorLR) : Statement (.xaddLa n stop f) := by intro s q h; cases h
theorem xclrLa (n : NibId) (stop : Bool) (f : SAorLR) : Statement (.xclrLa n stop f) := by intro s q h; cases h
theorem prd (n : NibId) (stop : Bool) (f : LR) : Statement (.prd n stop f) := by intro s q h; cases h
theorem lard (n : NibId) (stop : Bool) (f : LR) : Statement (.lard n stop f) := by intro s q h; cases h
theorem lard1 (n : NibId) (stop : Bool) (f : LI) : Statement (.lard1 n stop f) := by intro s q h; cases h
theorem xmulv (n : NibId) (stop : Bool) (f : LR) : Statement (.xmulv n stop f) := by intro s q h; cases h
theorem xdot (n : NibId) (stop : Bool) (f : LR) : Statement (.xdot n stop f) := by intro s q h; cases h
theorem xResultLand (n : NibId) : Statement (.xResultLand n) := by intro s q h; cases h
theorem endS (n : NibId) (stop : Bool) (f : BitVec 4) : Statement (.endS n stop f) := by intro s q h; cases h
theorem trap (n : NibId) (stop : Bool) (f : BitVec 4) : Statement (.trap n stop f) := by intro s q h; cases h
theorem ret (n : NibId) (stop : Bool) (f : BitVec 4) : Statement (.ret n stop f) := by intro s q h; cases h
theorem call (n : NibId) (stop : Bool) (f : LK) : Statement (.call n stop f) := by intro s q h; cases h
theorem callr (n : NibId) (stop : Bool) (f : LY) : Statement (.callr n stop f) := by intro s q h; cases h
theorem br (n : NibId) (stop : Bool) (f : BitVec 20) : Statement (.br n stop f) := by intro s q h; cases h
theorem bc (n : NibId) (stop : Bool) (f : LC) : Statement (.bc n stop f) := by intro s q h; cases h
theorem brr (n : NibId) (stop : Bool) (f : LY) : Statement (.brr n stop f) := by intro s q h; cases h
theorem dbnz (n : NibId) (stop : Bool) (f : LC) : Statement (.dbnz n stop f) := by intro s q h; cases h
theorem beq (n : NibId) (stop : Bool) (f : LY) : Statement (.beq n stop f) := by intro s q h; cases h
theorem bne (n : NibId) (stop : Bool) (f : LY) : Statement (.bne n stop f) := by intro s q h; cases h
theorem blt (n : NibId) (stop : Bool) (f : LY) : Statement (.blt n stop f) := by intro s q h; cases h
theorem bltu (n : NibId) (stop : Bool) (f : LY) : Statement (.bltu n stop f) := by intro s q h; cases h
theorem sfencea (n : NibId) (stop : Bool) (f : BitVec 4) : Statement (.sfencea n stop f) := by intro s q h; cases h
theorem sfencet (n : NibId) (stop : Bool) (f : BitVec 4) : Statement (.sfencet n stop f) := by intro s q h; cases h
theorem sfence (n : NibId) (stop : Bool) (f : LY) : Statement (.sfence n stop f) := by intro s q h; cases h
theorem stream (n : NibId) (stop : Bool) (f : LY) : Statement (.stream n stop f) := by intro s q h; cases h
theorem signal (n : NibId) (stop : Bool) (f : LY) : Statement (.signal n stop f) := by intro s q h; cases h
theorem signali (n : NibId) (stop : Bool) (f : LY) : Statement (.signali n stop f) := by intro s q h; cases h
theorem consume (n : NibId) (stop : Bool) (f : LY) : Statement (.consume n stop f) := by intro s q h; cases h
theorem wait (n : NibId) (stop : Bool) (f : LY) : Statement (.wait n stop f) := by intro s q h; cases h
theorem waitc (n : NibId) (stop : Bool) (f : LY) : Statement (.waitc n stop f) := by intro s q h; cases h
theorem evpost (n : NibId) (stop : Bool) (f : LY) : Statement (.evpost n stop f) := by intro s q h; cases h
theorem streamComplete (n : NibId) (tag : BitVec 4) : Statement (.streamComplete n tag) := by intro s q h; cases h
theorem lchSqTail (p : PetalId) (q : Fin 64) (v : W32) : Statement (.lchSqTail p q v) := by intro s q h; cases h
theorem lchCqHead (p : PetalId) (q : Fin 64) (v : W32) : Statement (.lchCqHead p q v) := by intro s q h; cases h
theorem launchAccept (p : PetalId) (q : Fin 64) : Statement (.launchAccept p q) := by intro s q h; cases h
theorem launchStart (p : PetalId) (tag : BitVec 13) : Statement (.launchStart p tag) := by intro s q h; cases h
theorem launchHeadReserve (p : PetalId) (q : Fin 64) : Statement (.launchHeadReserve p q) := by intro s q h; cases h
theorem launchComplete (p : PetalId) (tag : BitVec 13) : Statement (.launchComplete p tag) := by intro s q h; cases h
theorem launchTimeout (p : PetalId) (tag : BitVec 13) : Statement (.launchTimeout p tag) := by intro s q h; cases h
theorem lchImageRegister (m : Mbx) : Statement (.lchImageRegister m) := by intro s q h; cases h
theorem lchImageRelease (m : Mbx) : Statement (.lchImageRelease m) := by intro s q h; cases h
theorem lchQueueCreate (m : Mbx) : Statement (.lchQueueCreate m) := by intro s q h; cases h
theorem lchQueueDestroy (m : Mbx) : Statement (.lchQueueDestroy m) := by intro s q h; cases h
theorem lchAbort (m : Mbx) : Statement (.lchAbort m) := by intro s q h; cases h
theorem hostHello (m : Mbx) : Statement (.hostHello m) := by intro s q h; cases h
theorem identify (m : Mbx) : Statement (.identify m) := by intro s q h; cases h
theorem leaseRenew (m : Mbx) : Statement (.leaseRenew m) := by intro s q h; cases h
theorem hostGoodbye (m : Mbx) : Statement (.hostGoodbye m) := by intro s q h; cases h
theorem epochCommit (m : Mbx) : Statement (.epochCommit m) := by intro s q h; cases h
theorem epochCommitPoint (page : PageId) : Statement (.epochCommitPoint page) := by intro s q h; cases h
theorem epochDrainComplete (page : PageId) : Statement (.epochDrainComplete page) := by intro s q h; cases h
theorem epochDrainOverdue (page : PageId) : Statement (.epochDrainOverdue page) := by intro s q h; cases h
theorem epochDiscard (m : Mbx) : Statement (.epochDiscard m) := by intro s q h; cases h
theorem counterSnapshot (m : Mbx) : Statement (.counterSnapshot m) := by intro s q h; cases h
theorem msixAssign (m : Mbx) : Statement (.msixAssign m) := by intro s q h; cases h
theorem ptlMbxLateAck (page : PageId) (v : W32) : Statement (.ptlMbxLateAck page v) := by intro s q h; cases h
theorem ptlLeaseRenew (page : PageId) (v : W32) : Statement (.ptlLeaseRenew page v) := by intro s q h; cases h
theorem lateRecordPost (page : PageId) (slot : Fin 16) (a : Backing) : Statement (.lateRecordPost page slot a) := by intro s q h; cases h
theorem leaseExpiry (p : PetalId) : Statement (.leaseExpiry p) := by intro s q h; cases h
theorem deviceLeaseExpiry  : Statement (.deviceLeaseExpiry) := by intro s q h; cases h
theorem registerWrite (r : Reg) (v : W32) : Statement (.registerWrite r v) := by
  intro s q h
  cases r with
  | bar0 o => cases h
  | pf0 k => cases h
  | port j k => cases h
  | hub o =>
    simp only [exec, execRegisterWrite] at h
    split at h <;> cases h
theorem createPetal (m : Mbx) : Statement (.createPetal m) := by intro s q h; cases h
theorem resizePetal (m : Mbx) : Statement (.resizePetal m) := by intro s q h; cases h
theorem quiescePetal (m : Mbx) : Statement (.quiescePetal m) := by intro s q h; cases h
theorem petalQuiesced (p : PetalId) : Statement (.petalQuiesced p) := by intro s q h; cases h
theorem quiesceDrainExpiry (p : PetalId) : Statement (.quiesceDrainExpiry p) := by intro s q h; cases h
theorem enablePetal (m : Mbx) : Statement (.enablePetal m) := by intro s q h; cases h
theorem resetPetal (m : Mbx) : Statement (.resetPetal m) := by intro s q h; cases h
theorem destroyPetal (m : Mbx) : Statement (.destroyPetal m) := by intro s q h; cases h
theorem queryPetal (m : Mbx) : Statement (.queryPetal m) := by intro s q h; cases h
theorem bindPetal (m : Mbx) : Statement (.bindPetal m) := by intro s q h; cases h
theorem acceptBinding (m : Mbx) : Statement (.acceptBinding m) := by intro s q h; cases h
theorem setShares (m : Mbx) : Statement (.setShares m) := by intro s q h; cases h
theorem winGrant (m : Mbx) : Statement (.winGrant m) := by intro s q h; cases h
theorem winMap (m : Mbx) : Statement (.winMap m) := by intro s q h; cases h
theorem winQuery (m : Mbx) : Statement (.winQuery m) := by intro s q h; cases h
theorem memPin (m : Mbx) : Statement (.memPin m) := by intro s q h; cases h
theorem memUnpin (m : Mbx) : Statement (.memUnpin m) := by intro s q h; cases h
theorem memPolicySet (m : Mbx) : Statement (.memPolicySet m) := by intro s q h; cases h
theorem memPolicyGet (m : Mbx) : Statement (.memPolicyGet m) := by intro s q h; cases h
theorem memScrubSet (m : Mbx) : Statement (.memScrubSet m) := by intro s q h; cases h
theorem startUpFillComplete (lpddr : Bool) : Statement (.startUpFillComplete lpddr) := by intro s q h; cases h
theorem heatInterval (p : PetalId) : Statement (.heatInterval p) := by intro s q h; cases h
theorem pageMoveStart (p : PetalId) (page : BitVec 27) : Statement (.pageMoveStart p page) := by intro s q h; cases h
theorem pageMoveSwitch (p : PetalId) (page : BitVec 27) : Statement (.pageMoveSwitch p page) := by intro s q h; cases h
theorem pageMoveRelease (p : PetalId) (page : BitVec 27) : Statement (.pageMoveRelease p page) := by intro s q h; cases h
theorem blotterScrubLine (w : Fin 352) (found : ScrubFind) (decoded : Bool) : Statement (.blotterScrubLine w found decoded) := by intro s q h; cases h
theorem scratchScrub (k : CoreId) (bank : Fin 16) : Statement (.scratchScrub k bank) := by intro s q h; cases h
theorem colCommCreate (m : Mbx) : Statement (.colCommCreate m) := by intro s q h; cases h
theorem colCommDestroy (m : Mbx) : Statement (.colCommDestroy m) := by intro s q h; cases h
theorem colAbort (m : Mbx) : Statement (.colAbort m) := by intro s q h; cases h
theorem colSqTail (p : PetalId) (n : Fin 64) (v : W32) : Statement (.colSqTail p n v) := by intro s q h; cases h
theorem colCqHead (p : PetalId) (n : Fin 64) (v : W32) : Statement (.colCqHead p n v) := by intro s q h; cases h
theorem colOpAccept (p : PetalId) (n : Fin 64) : Statement (.colOpAccept p n) := by intro s q h; cases h
theorem colOpStart (p : PetalId) (tag : BitVec 13) : Statement (.colOpStart p tag) := by intro s q h; cases h
theorem colOpComplete (p : PetalId) (tag : BitVec 13) (revoked : Bool) : Statement (.colOpComplete p tag revoked) := by intro s q h; cases h
theorem colOpTimeout (p : PetalId) (tag : BitVec 13) : Statement (.colOpTimeout p tag) := by intro s q h; cases h
theorem colJoinTimeout (p : PetalId) (n : Fin 64) : Statement (.colJoinTimeout p n) := by intro s q h; cases h
theorem join (p : PetalId) (qp : BitVec 20) (m : BitVec 704) : Statement (.join p qp m) := by intro s q h; cases h
theorem broken (p : PetalId) (qp : BitVec 20) (m : BitVec 448) : Statement (.broken p qp m) := by intro s q h; cases h
theorem step (p : PetalId) (qp : BitVec 20) (m : BitVec 832) : Statement (.step p qp m) := by intro s q h; cases h
theorem atnCtxCreate (m : Mbx) : Statement (.atnCtxCreate m) := by intro s q h; cases h
theorem atnCtxDestroy (m : Mbx) : Statement (.atnCtxDestroy m) := by intro s q h; cases h
theorem atnRingCreate (m : Mbx) : Statement (.atnRingCreate m) := by intro s q h; cases h
theorem atnRingDestroy (m : Mbx) : Statement (.atnRingDestroy m) := by intro s q h; cases h
theorem atnSeqCreate (m : Mbx) : Statement (.atnSeqCreate m) := by intro s q h; cases h
theorem atnSeqDestroy (m : Mbx) : Statement (.atnSeqDestroy m) := by intro s q h; cases h
theorem atnAbort (m : Mbx) : Statement (.atnAbort m) := by intro s q h; cases h
theorem atnSqTail (p : PetalId) (n : Fin 16) (k : Fin 16) (v : W32) : Statement (.atnSqTail p n k v) := by intro s q h; cases h
theorem atnCqHead (p : PetalId) (n : Fin 16) (k : Fin 16) (v : W32) : Statement (.atnCqHead p n k v) := by intro s q h; cases h
theorem atnEntryAccept (p : PetalId) (n : Fin 16) (k : Fin 16) : Statement (.atnEntryAccept p n k) := by intro s q h; cases h
theorem atnEntryStart (p : PetalId) (tag : BitVec 13) (ok : Bool) : Statement (.atnEntryStart p tag ok) := by intro s q h; cases h
theorem atnEntryComplete (p : PetalId) (tag : BitVec 13) (ok : Bool) : Statement (.atnEntryComplete p tag ok) := by intro s q h; cases h
theorem atnEntryTimeout (p : PetalId) (tag : BitVec 13) : Statement (.atnEntryTimeout p tag) := by intro s q h; cases h
theorem atnSpill (p : PetalId) (n : Fin 16) : Statement (.atnSpill p n) := by intro s q h; cases h
theorem atnSpillWriteDone (p : PetalId) (n : Fin 16) (ok : Bool) : Statement (.atnSpillWriteDone p n ok) := by intro s q h; cases h
theorem sclQpCreate (m : Mbx) : Statement (.sclQpCreate m) := by intro s q h; cases h
theorem sclQpDestroy (m : Mbx) : Statement (.sclQpDestroy m) := by intro s q h; cases h
theorem sclVolCreate (m : Mbx) : Statement (.sclVolCreate m) := by intro s q h; cases h
theorem sclVolDestroy (m : Mbx) : Statement (.sclVolDestroy m) := by intro s q h; cases h
theorem sclAbort (m : Mbx) : Statement (.sclAbort m) := by intro s q h; cases h
theorem sclGetLog (m : Mbx) : Statement (.sclGetLog m) := by intro s q h; cases h
theorem sclRestartQueue (m : Mbx) : Statement (.sclRestartQueue m) := by intro s q h; cases h
theorem sclSelfTest (m : Mbx) : Statement (.sclSelfTest m) := by intro s q h; cases h
theorem sclSelfTestResume (p : PetalId) (n : Fin 256) : Statement (.sclSelfTestResume p n) := by intro s q h; cases h
theorem sclSelfTestComplete (p : PetalId) (n : Fin 256) (bad : Option (BitVec 63)) : Statement (.sclSelfTestComplete p n bad) := by intro s q h; cases h
theorem sclIdentify (m : Mbx) : Statement (.sclIdentify m) := by intro s q h; cases h
theorem sclDbSqTail (p : PetalId) (qp : BitVec 12) (rsv : BitVec 3) (index : BitVec 16) : Statement (.sclDbSqTail p qp rsv index) := by intro s q h; cases h
theorem sclDbCqHead (p : PetalId) (qp : BitVec 12) (rsv : BitVec 3) (index : BitVec 16) : Statement (.sclDbCqHead p qp rsv index) := by intro s q h; cases h
theorem sclCmdAccept (p : PetalId) (n : BitVec 12) : Statement (.sclCmdAccept p n) := by intro s q h; cases h
theorem sclCmdBegin (p : PetalId) (tag : BitVec 13) : Statement (.sclCmdBegin p tag) := by intro s q h; cases h
theorem sclCmdComplete (p : PetalId) (tag : BitVec 13) (ok : Bool) : Statement (.sclCmdComplete p tag ok) := by intro s q h; cases h
theorem sclTargetTimeout (p : PetalId) (tag : BitVec 13) : Statement (.sclTargetTimeout p tag) := by intro s q h; cases h
theorem sclDestageStart (p : PetalId) (n : Fin 256) (ok : Bool) : Statement (.sclDestageStart p n ok) := by intro s q h; cases h
theorem sclDestageRetry (p : PetalId) (n : Fin 256) (ok : Bool) : Statement (.sclDestageRetry p n ok) := by intro s q h; cases h
theorem sclKeepAlive (p : PetalId) (n : Fin 256) : Statement (.sclKeepAlive p n) := by intro s q h; cases h
theorem sclConnectTimeout (p : PetalId) (n : Fin 256) : Statement (.sclConnectTimeout p n) := by intro s q h; cases h
theorem sclVolIdle (p : PetalId) (n : Fin 256) : Statement (.sclVolIdle p n) := by intro s q h; cases h
theorem netPortMode (m : Mbx) : Statement (.netPortMode m) := by intro s q h; cases h
theorem netPortSet (m : Mbx) : Statement (.netPortSet m) := by intro s q h; cases h
theorem netPortQuery (m : Mbx) : Statement (.netPortQuery m) := by intro s q h; cases h
theorem prsRuleSet (m : Mbx) : Statement (.prsRuleSet m) := by intro s q h; cases h
theorem prsRangeSet (m : Mbx) : Statement (.prsRangeSet m) := by intro s q h; cases h
theorem prsRuleGet (m : Mbx) : Statement (.prsRuleGet m) := by intro s q h; cases h
theorem schQueueSet (m : Mbx) : Statement (.schQueueSet m) := by intro s q h; cases h
theorem schGateSet (m : Mbx) : Statement (.schGateSet m) := by intro s q h; cases h
theorem schLimiterSet (m : Mbx) : Statement (.schLimiterSet m) := by intro s q h; cases h
theorem ethFrameReceive (j : Fin 32) (f : List Byte) : Statement (.ethFrameReceive j f) := by intro s q h; cases h
theorem ethFrameTransmit (j : Fin 32) (pick : Fin 512) : Statement (.ethFrameTransmit j pick) := by intro s q h; cases h
theorem slowPathFrame (j : Fin 32) : Statement (.slowPathFrame j) := by intro s q h; cases h
theorem portLinkUp (j : Fin 32) (failed : BitVec 8) (cr : Bool) (accepts : BitVec 9) : Statement (.portLinkUp j failed cr accepts) := by intro s q h; cases h
theorem portLinkDown (j : Fin 32) : Statement (.portLinkDown j) := by intro s q h; cases h
theorem ptpClockAdjust (j : Fin 32) (offset : BitVec 64) (ppb : BitVec 32) : Statement (.ptpClockAdjust j offset ppb) := by intro s q h; cases h
theorem gateEntryExpiry (j : Fin 32) : Statement (.gateEntryExpiry j) := by intro s q h; cases h
theorem gateListTakeover (j : Fin 32) : Statement (.gateListTakeover j) := by intro s q h; cases h
theorem limiterRelease (j : Fin 16384) : Statement (.limiterRelease j) := by intro s q h; cases h
theorem wheelCascade (j : Fin 16384) : Statement (.wheelCascade j) := by intro s q h; cases h
theorem rdmAddrSet (m : Mbx) : Statement (.rdmAddrSet m) := by intro s q h; cases h
theorem rdmLabelSet (m : Mbx) : Statement (.rdmLabelSet m) := by intro s q h; cases h
theorem rdmCqCreate (m : Mbx) : Statement (.rdmCqCreate m) := by intro s q h; cases h
theorem rdmCqDestroy (m : Mbx) : Statement (.rdmCqDestroy m) := by intro s q h; cases h
theorem rdmQpCreate (m : Mbx) : Statement (.rdmQpCreate m) := by intro s q h; cases h
theorem rdmQpConnect (m : Mbx) : Statement (.rdmQpConnect m) := by intro s q h; cases h
theorem rdmQpDestroy (m : Mbx) : Statement (.rdmQpDestroy m) := by intro s q h; cases h
theorem rdmQpQuery (m : Mbx) : Statement (.rdmQpQuery m) := by intro s q h; cases h
theorem rdmMrReg (m : Mbx) : Statement (.rdmMrReg m) := by intro s q h; cases h
theorem rdmMrDereg (m : Mbx) : Statement (.rdmMrDereg m) := by intro s q h; cases h
theorem rdmSqDb (p : PetalId) (v : W32) : Statement (.rdmSqDb p v) := by intro s q h; cases h
theorem rdmRqDb (p : PetalId) (v : W32) : Statement (.rdmRqDb p v) := by intro s q h; cases h
theorem rdmCqDb (p : PetalId) (v : W32) : Statement (.rdmCqDb p v) := by intro s q h; cases h
theorem rdmSendStart (p : PetalId) (n : BitVec 20) : Statement (.rdmSendStart p n) := by intro s q h; cases h
theorem rdmPacketReceive (j : Fin 32) : Statement (.rdmPacketReceive j) := by intro s q h; cases h
theorem remoteSignal (j : Fin 32) : Statement (.remoteSignal j) := by intro s q h; cases h
theorem rdmAckReceive (j : Fin 32) : Statement (.rdmAckReceive j) := by intro s q h; cases h
theorem rdmNakReceive (j : Fin 32) : Statement (.rdmNakReceive j) := by intro s q h; cases h
theorem cnp (j : Fin 32) : Statement (.cnp j) := by intro s q h; cases h
theorem rdmRetransmitTimeout (p : PetalId) (n : BitVec 20) : Statement (.rdmRetransmitTimeout p n) := by intro s q h; cases h
theorem rdmRnrTimer (p : PetalId) (n : BitVec 20) : Statement (.rdmRnrTimer p n) := by intro s q h; cases h
theorem rdmAckTimer (p : PetalId) (n : BitVec 20) : Statement (.rdmAckTimer p n) := by intro s q h; cases h
theorem rdmMessageAbandon (p : PetalId) (n : BitVec 20) : Statement (.rdmMessageAbandon p n) := by intro s q h; cases h
theorem rdmContextFetch (p : PetalId) (n : BitVec 20) : Statement (.rdmContextFetch p n) := by intro s q h; cases h
theorem counterUpdateApply (k : CoreId) : Statement (.counterUpdateApply k) := by intro s q h; cases h
theorem watchTimeout (p : PetalId) (w : Fin 1024) : Statement (.watchTimeout p w) := by intro s q h; cases h
theorem synRead (m : Mbx) : Statement (.synRead m) := by intro s q h; cases h
theorem synAdd (m : Mbx) : Statement (.synAdd m) := by intro s q h; cases h
theorem synWatchSet (m : Mbx) : Statement (.synWatchSet m) := by intro s q h; cases h
theorem synWatchCancel (m : Mbx) : Statement (.synWatchCancel m) := by intro s q h; cases h
theorem synDebugSet (m : Mbx) : Statement (.synDebugSet m) := by intro s q h; cases h
theorem irqRaise (v : W32) : Statement (.irqRaise v) := by intro s q h; cases h
theorem irqClaim (k : Fin 65) : Statement (.irqClaim k) := by intro s q h; cases h
theorem irqEoi (k : Fin 65) (n : Fin 4096) : Statement (.irqEoi k n) := by intro s q h; cases h
theorem irqSrcRearm (n : Fin 4096) (v : W32) : Statement (.irqSrcRearm n v) := by intro s q h; cases h
theorem irqStuckRearm (n : Fin 4096) : Statement (.irqStuckRearm n) := by intro s q h; cases h
theorem alertNSense  : Statement (.alertNSense) := by intro s q h; cases h
theorem keyAttest (m : Mbx) : Statement (.keyAttest m) := by intro s q h; cases h
theorem keyCert (m : Mbx) : Statement (.keyCert m) := by intro s q h; cases h
theorem keyInject (m : Mbx) : Statement (.keyInject m) := by intro s q h; cases h
theorem keySessionClose (m : Mbx) : Statement (.keySessionClose m) := by intro s q h; cases h
theorem keySessionTimeout (p : PetalId) : Statement (.keySessionTimeout p) := by intro s q h; cases h
theorem keyDestroy (m : Mbx) : Statement (.keyDestroy m) := by intro s q h; cases h
theorem keyQuery (m : Mbx) : Statement (.keyQuery m) := by intro s q h; cases h
theorem cphQueueCreate (m : Mbx) : Statement (.cphQueueCreate m) := by intro s q h; cases h
theorem cphQueueDestroy (m : Mbx) : Statement (.cphQueueDestroy m) := by intro s q h; cases h
theorem cphAbort (m : Mbx) : Statement (.cphAbort m) := by intro s q h; cases h
theorem cphSqTail (p : PetalId) (q : Fin 64) (v : W32) : Statement (.cphSqTail p q v) := by intro s q h; cases h
theorem cphCqHead (p : PetalId) (q : Fin 64) (v : W32) : Statement (.cphCqHead p q v) := by intro s q h; cases h
theorem cphRequestAccept (p : PetalId) (q : Fin 64) : Statement (.cphRequestAccept p q) := by intro s q h; cases h
theorem cphRequestStart (p : PetalId) (tag : BitVec 13) : Statement (.cphRequestStart p tag) := by intro s q h; cases h
theorem cphRequestComplete (p : PetalId) (tag : BitVec 13) : Statement (.cphRequestComplete p tag) := by intro s q h; cases h
theorem rollbackRaise  : Statement (.rollbackRaise) := by intro s q h; cases h
theorem pwrRateSet (m : Mbx) : Statement (.pwrRateSet m) := by intro s q h; cases h
theorem pwrLevelSet (m : Mbx) : Statement (.pwrLevelSet m) := by intro s q h; cases h
theorem pwrLevelAuto (m : Mbx) : Statement (.pwrLevelAuto m) := by intro s q h; cases h
theorem pwrQuery (m : Mbx) : Statement (.pwrQuery m) := by intro s q h; cases h
theorem unitIdleEntry (kind : Fin 5) (u : Fin 2048) : Statement (.unitIdleEntry kind u) := by intro s q h; cases h
theorem unitWake (kind : Fin 5) (u : Fin 2048) : Statement (.unitWake kind u) := by intro s q h; cases h
theorem moduleLevelEntry  : Statement (.moduleLevelEntry) := by intro s q h; cases h
theorem moduleWake  : Statement (.moduleWake) := by intro s q h; cases h
theorem moduleIdleReturn  : Statement (.moduleIdleReturn) := by intro s q h; cases h
theorem thermalLimitStep (r : Fin 5) : Statement (.thermalLimitStep r) := by intro s q h; cases h
theorem powerLimitStep  : Statement (.powerLimitStep) := by intro s q h; cases h
theorem mgtLogRead (m : Mbx) : Statement (.mgtLogRead m) := by intro s q h; cases h
theorem mgtCalRead (m : Mbx) : Statement (.mgtCalRead m) := by intro s q h; cases h
theorem mgtCalWrite (m : Mbx) : Statement (.mgtCalWrite m) := by intro s q h; cases h
theorem mgtUpdateStage (m : Mbx) : Statement (.mgtUpdateStage m) := by intro s q h; cases h
theorem mgtUpdateActivate (m : Mbx) : Statement (.mgtUpdateActivate m) := by intro s q h; cases h
theorem mgtSensorRead (m : Mbx) : Statement (.mgtSensorRead m) := by intro s q h; cases h
theorem mgtAlertClear (m : Mbx) : Statement (.mgtAlertClear m) := by intro s q h; cases h
theorem mgtOutputStatus (m : Mbx) : Statement (.mgtOutputStatus m) := by intro s q h; cases h
theorem mgtModuleReset (m : Mbx) : Statement (.mgtModuleReset m) := by intro s q h; cases h
theorem quillHeartbeat (k : Fin 64) : Statement (.quillHeartbeat k) := by intro s q h; cases h
theorem heartbeatMiss (k : Fin 64) (own : Bool) : Statement (.heartbeatMiss k own) := by intro s q h; cases h
theorem journalTakeover (k : Fin 64) (lost : List (PetalId × BitVec 13)) : Statement (.journalTakeover k lost) := by intro s q h; cases h
theorem quillReturn (k : Fin 64) : Statement (.quillReturn k) := by intro s q h; cases h
theorem inkstandWdRefresh  : Statement (.inkstandWdRefresh) := by intro s q h; cases h
theorem inkstandWdExpiry  : Statement (.inkstandWdExpiry) := by intro s q h; cases h
theorem inkstandRestartDone (intact : Bool) : Statement (.inkstandRestartDone intact) := by intro s q h; cases h
theorem sensorSample (x : SensorReadings) : Statement (.sensorSample x) := by intro s q h; cases h
theorem energyInterval (x : EnergyReadings) : Statement (.energyInterval x) := by intro s q h; cases h
theorem logFlush  : Statement (.logFlush) := by intro s q h; cases h
theorem dbgChallenge (m : Mbx) : Statement (.dbgChallenge m) := by intro s q h; cases h
theorem dbgNonceLapse (page : PageId) : Statement (.dbgNonceLapse page) := by intro s q h; cases h
theorem dbgAuthLoad (m : Mbx) : Statement (.dbgAuthLoad m) := by intro s q h; cases h
theorem dbgOpen (m : Mbx) : Statement (.dbgOpen m) := by intro s q h; cases h
theorem dbgD2DrainExpiry  : Statement (.dbgD2DrainExpiry) := by intro s q h; cases h
theorem dbgClose (m : Mbx) : Statement (.dbgClose m) := by intro s q h; cases h
theorem dbgSessionExpiry (page : PageId) : Statement (.dbgSessionExpiry page) := by intro s q h; cases h
theorem dbgQuery (m : Mbx) : Statement (.dbgQuery m) := by intro s q h; cases h
theorem dbgNibHalt (m : Mbx) : Statement (.dbgNibHalt m) := by intro s q h; cases h
theorem dbgNibResume (m : Mbx) : Statement (.dbgNibResume m) := by intro s q h; cases h
theorem dbgNibRead (m : Mbx) : Statement (.dbgNibRead m) := by intro s q h; cases h
theorem dbgScratchRead (m : Mbx) : Statement (.dbgScratchRead m) := by intro s q h; cases h
theorem dbgFwRead (m : Mbx) : Statement (.dbgFwRead m) := by intro s q h; cases h
theorem lifecycleRetire (m : Mbx) : Statement (.lifecycleRetire m) := by intro s q h; cases h
theorem dbgOperatorKeySet (m : Mbx) : Statement (.dbgOperatorKeySet m) := by intro s q h; cases h
theorem bar2Request (t : Tlp) (o : BitVec 41) : Statement (.bar2Request t o) := by intro s q h; cases h
theorem bar4Request (t : Tlp) (o : BitVec 16) : Statement (.bar4Request t o) := by intro s q h; cases h
theorem pcieCompletionReceive (j : Fin 9) (tag : BitVec 14) (ok : Bool) : Statement (.pcieCompletionReceive j tag ok) := by intro s q h; cases h
theorem pcieCompletionTimeout (tag : BitVec 14) : Statement (.pcieCompletionTimeout tag) := by intro s q h; cases h
theorem pcieTagHoldExpiry (tag : BitVec 14) : Statement (.pcieTagHoldExpiry tag) := by intro s q h; cases h
theorem atsInvalidation (everyPasid : Bool) (pasid : Option (BitVec 20)) (page : BitVec 52) : Statement (.atsInvalidation everyPasid pasid page) := by intro s q h; cases h
theorem functionLevelReset  : Statement (.functionLevelReset) := by intro s q h; cases h
theorem flrComplete  : Statement (.flrComplete) := by intro s q h; cases h
theorem hotReset (dlDown : Bool) : Statement (.hotReset dlDown) := by intro s q h; cases h
theorem secondaryBusReset (j : Fin 8) : Statement (.secondaryBusReset j) := by intro s q h; cases h
theorem perstAssert  : Statement (.perstAssert) := by intro s q h; cases h
theorem perstDeassert (sel : Bool) : Statement (.perstDeassert sel) := by intro s q h; cases h
theorem linkTraining (j : Fin 9) (failed : BitVec 16) (swapped : Bool) (polarity : BitVec 16) (flit : Bool) : Statement (.linkTraining j failed swapped polarity flit) := by intro s q h; cases h
theorem linkL1Entry (j : Fin 9) : Statement (.linkL1Entry j) := by intro s q h; cases h
theorem linkWidthChange (j : Fin 9) (log : Fin 5) : Statement (.linkWidthChange j log) := by intro s q h; cases h
theorem slotPowerOn (j : Fin 8) : Statement (.slotPowerOn j) := by intro s q h; cases h
theorem slotPowerOff (j : Fin 8) : Statement (.slotPowerOff j) := by intro s q h; cases h
theorem slotPowerOffDone (j : Fin 8) : Statement (.slotPowerOffDone j) := by intro s q h; cases h
theorem slotIndicatorSet (j : Fin 8) (attn : BitVec 2) (pwr : BitVec 2) : Statement (.slotIndicatorSet j attn pwr) := by intro s q h; cases h
theorem presenceChange (j : Fin 8) (prsnt : Bool) (inBand : Bool) : Statement (.presenceChange j prsnt inBand) := by intro s q h; cases h
theorem attentionButton (j : Fin 8) (low : Bool) : Statement (.attentionButton j low) := by intro s q h; cases h
theorem rearm (j : Fin 8) : Statement (.rearm j) := by intro s q h; cases h
theorem surpriseRemoval (j : Fin 8) : Statement (.surpriseRemoval j) := by intro s q h; cases h
theorem inputValid (sel : Bool) : Statement (.inputValid sel) := by intro s q h; cases h
theorem regulatorsUp  : Statement (.regulatorsUp) := by intro s q h; cases h
theorem firmwareReady  : Statement (.firmwareReady) := by intro s q h; cases h
theorem bootAttemptFail (why : BootFail) : Statement (.bootAttemptFail why) := by intro s q h; cases h
theorem recoveryEntry (why : BootFail) : Statement (.recoveryEntry why) := by intro s q h; cases h
theorem moduleReset (sel : Bool) : Statement (.moduleReset sel) := by intro s q h; cases h
theorem inputUndervoltage (second : Bool) : Statement (.inputUndervoltage second) := by intro s q h; cases h
theorem inputOvervoltage  : Statement (.inputOvervoltage) := by intro s q h; cases h
theorem inputReturn (sel : Bool) : Statement (.inputReturn sel) := by intro s q h; cases h
theorem pwrEnLow  : Statement (.pwrEnLow) := by intro s q h; cases h
theorem pwrEnHigh (sel : Bool) : Statement (.pwrEnHigh sel) := by intro s q h; cases h
theorem outputOvercurrent (j : Fin 34) : Statement (.outputOvercurrent j) := by intro s q h; cases h
theorem refclkLoss (r : Fin 3) : Statement (.refclkLoss r) := by intro s q h; cases h
theorem refclkReturn (r : Fin 3) : Statement (.refclkReturn r) := by intro s q h; cases h
theorem thermtrip (j : Fin 80) (t : W16) : Statement (.thermtrip j t) := by intro s q h; cases h
theorem memoryDeviceFailure (u : Fin 24) (lost : List (PetalId × BitVec 20)) : Statement (.memoryDeviceFailure u lost) := by intro s q h; cases h
theorem setEndpointId (op : BitVec 2) (eid : BitVec 8) : Statement (.setEndpointId op eid) := by intro s q h; cases h
theorem getEndpointId  : Statement (.getEndpointId) := by intro s q h; cases h
theorem getMctpVersionSupport (type : BitVec 8) : Statement (.getMctpVersionSupport type) := by intro s q h; cases h
theorem getMessageTypeSupport  : Statement (.getMessageTypeSupport) := by intro s q h; cases h
theorem getEndpointUuid  : Statement (.getEndpointUuid) := by intro s q h; cases h
theorem gettid  : Statement (.gettid) := by intro s q h; cases h
theorem settid (tid : BitVec 8) : Statement (.settid tid) := by intro s q h; cases h
theorem getpldmversion (type : BitVec 6) : Statement (.getpldmversion type) := by intro s q h; cases h
theorem getpldmtypes  : Statement (.getpldmtypes) := by intro s q h; cases h
theorem getpldmcommands (type : BitVec 6) : Statement (.getpldmcommands type) := by intro s q h; cases h
theorem getpdrrepositoryinfo  : Statement (.getpdrrepositoryinfo) := by intro s q h; cases h
theorem getpdr (record : W32) : Statement (.getpdr record) := by intro s q h; cases h
theorem getsensorreading (id : W16) : Statement (.getsensorreading id) := by intro s q h; cases h
theorem getstatesensorreadings (id : W16) : Statement (.getstatesensorreadings id) := by intro s q h; cases h
theorem seteventreceiver (enable : BitVec 8) (a : BitVec 8) : Statement (.seteventreceiver enable a) := by intro s q h; cases h
theorem requestupdate (l : List Byte) : Statement (.requestupdate l) := by intro s q h; cases h
theorem activatefirmware (selfContained : Bool) : Statement (.activatefirmware selfContained) := by intro s q h; cases h
theorem cancelupdate  : Statement (.cancelupdate) := by intro s q h; cases h
theorem jtagTapReset  : Statement (.jtagTapReset) := by intro s q h; cases h
theorem idcode  : Statement (.idcode) := by intro s q h; cases h
theorem bypass  : Statement (.bypass) := by intro s q h; cases h
theorem samplePreload  : Statement (.samplePreload) := by intro s q h; cases h
theorem extest  : Statement (.extest) := by intro s q h; cases h
theorem intest  : Statement (.intest) := by intro s q h; cases h
theorem clamp  : Statement (.clamp) := by intro s q h; cases h
theorem highz  : Statement (.highz) := by intro s q h; cases h
theorem calibrationRefresh (channel : Fin 320) : Statement (.calibrationRefresh channel) := by intro s q h; cases h
theorem clkreqNChange (j : Fin 9) (deasserted : Bool) : Statement (.clkreqNChange j deasserted) := by intro s q h; cases h
theorem integratedSwitchRoute (source : Fin 9) (a : W64) (n : Fin 4097) (posted : Bool) : Statement (.integratedSwitchRoute source a n posted) := by intro s q h; cases h
theorem bar0Request (t : Tlp) (o : BitVec 26) : Statement (.bar0Request t o) := by intro s q h; cases h
theorem delayRequest (j : Fin 32) (seq : W16) : Statement (.delayRequest j seq) := by intro s q h; cases h
theorem i3cDynamicAddress (a : Option (BitVec 7)) : Statement (.i3cDynamicAddress a) := by intro s q h; cases h

end Sys2Proof.Laws.NoRefusal
end

