-- ==== Sys2Proof/Tests/World.lean ====
section
/-!
SUPPORT. A small module in service from which the tests start: petal 3 with four cores, memory, a launch queue and a session on its page, and the
device page with a session.
-/

namespace Sys2Proof.Tests

open Sys2Proof.Machine

/-- A number from fields at byte and bit offsets. -/
def pack (l : List (Nat × Nat × Nat)) : Nat := l.foldl (fun a f => a + f.2.2 * 2 ^ (8 * f.1 + f.2.1)) 0

/-- A resource record: four cores, 64 tags, two plots of each memory, and small numbers of everything else. -/
def rec3 : BitVec 1024 :=
  BitVec.ofNat 1024 (pack [(0, 0, 4), (0, 16, 64), (4, 0, 2), (4, 16, 2), (8, 0, 16), (8, 16, 8), (0xC, 0, 8), (0xC, 16, 4),
    (0x10, 0, 64), (0x14, 0, 64), (0x20, 0, 100)])

/-- A ring of 16 entries that sends no message. -/
def ring0 : Ring := Ring.new 4 4 0x10000 0x20000 0xFFFF

/-- Petal 3; its binding 0 is valid and carries PASID 7. -/
def petal3 : Petal :=
  { newPetal State.reset rec3 false [BitVec.ofNat 64 (2 ^ 37 + 2 ^ 36 + 7 * 2 ^ 16 + 1), 0, 0, 0] [0, 1, 2, 3] [(0, 0), (1, 0)] [(8, 0), (9, 0)] with
    xts := some 1
    queues := [(1, ring0)] }

/-- A page whose session is held. -/
def page0 : MPage := { MPage.new with session := 1, sessId := 5, vector := 0xFFFF }

/-- A port whose link is up. -/
def portUp : SwPort := { SwPort.new with up := true, width := 16, active := 16, trained := true }

def core3 : Core := { Core.zero with petal := some 3, launch := some 9, gen := 1, codeBytes := 1024 }

/-- A Nib that runs. -/
def nib0 : Nib :=
  { Nib.zero with
    st := .running
    pc := 64
    sp := 0x8000
    stackLo := 0x4000
    stackHi := 0x9000
    launchTag := 9
    g := (Vector.replicate 32 0).set 5 0x2000
    gEarly := (Vector.replicate 32 0).set 5 0x2000 }

/-- A launch under tag 9 on core 0. -/
def launch9 : Launch where
  petal := 3
  queue := 1
  tag := 9
  desc := 0
  header := 0
  digest := 0
  cores := [0]
  args := []
  headAt := none
  reserves := false
  started := some 0
  fault := none
  more := 0
  stop := none
  haltedSteps := 0
  haltedFrom := none

/-- The module in service. -/
def world : State :=
  { State.reset with
    ready := true
    board := { Board.new with stage := .service, inputValid := true, perst := false }
    busMaster := true
    pcie := { Pcie.new with ports := [(0, portUp)], memSpace := true, msixEnable := true, retry := false }
    petals := [(3, petal3)]
    pages := [(3, page0), (512, page0)]
    cores := [(0, core3)]
    nibs := [(0, nib0)]
    launches := [launch9]
    hbmFilled := true
    lpddrFilled := true }

/-- A request on a page: length and fields from 0x10 on. -/
def req (page : PageId) (length : Nat) (flds : List (Nat × Nat × Nat)) : Mbx where
  page := page
  irq := false
  tag := 1
  length := BitVec.ofNat 16 length
  hdrRsv := 0
  payload := BitVec.ofNat 1920 (pack (flds.map (fun f => (f.1 - 16, f.2))))

/-- The state after a command. -/
def after (i : Instr) (s : State) : State := match exec i s with | .next t => t | _ => s

/-- Bytes put into a petal's memory. -/
def withBytes (s : State) (p a : Nat) (bs : List Byte) : State :=
  { s with
    mem := if s.mem.all (fun c => decide (c.1 < memKey p a)) then s.mem ++ bs.mapIdx (fun i b => (memKey p a + i, b))
      else storeBytes s.mem (memKey p a) bs }

/-- The header of an image of 130 bytes whose code is one END. -/
def header1 : Nat := pack [(0, 0, 0x3142494E), (4, 0, 1), (8, 0, 130), (0xC, 0, 128), (0x10, 0, 2), (0x18, 0, 64),
  (0x20, 0, 0x1000), (0x24, 0, 64), (0x28, 0, 128), (0x58, 0, 1), (0x58, 16, 4)]

def image1 : List Byte := leBytes 128 header1 ++ [0, 0]

/-- Its digest (R165). -/
def digest1 : BitVec 256 := 0x12cf20ae6c7b7bc423b8a68514d7c93e4443ae9ba463c737fc6c5542f6548b4

/-- A descriptor of a launch under tag 3 on the petal's core 1. -/
def desc3 : Nat := pack [(0, 0, 3), (0, 16, 1), (4, 0, 1), (8, 0, 0x100000), (0x10, 0, 1), (0x10, 16, 1)]

def petalL : Petal :=
  { petal3 with
    images := [(0x100000, ⟨BitVec.ofNat 1024 header1, digest1⟩)]
    queues := [(1, { ring0 with sqTail := 1 })]
    tags := [(9, .launch)] }

/-- The module with an image and a descriptor in petal 3's memory. -/
def worldL : State :=
  withBytes (withBytes { world with petals := [(3, petalL)] } 3 0x100000 image1) 3 0x10000 (leBytes 64 desc3)

/-- A launch under tag 3 that waits at the head of its queue. -/
def launch3 : Launch :=
  { launch9 with
    tag := 3
    desc := BitVec.ofNat 512 desc3
    header := BitVec.ofNat 1024 header1
    digest := digest1
    cores := [1]
    headAt := some 0
    started := none }

end Sys2Proof.Tests
end

