-- ==== Sys2Proof/Tests/Slice0.lean ====
section
/-!
SUPPORT. Tests: words decode as the manual lays them out, ill-formed commands are refused, single steps, and for each statement
with hypotheses concrete states and operands that meet them.
-/

section

open Sys2Proof Sys2Proof.Machine Sys2Proof.Claims Sys2Proof.Tests

-- one theorem at a time: each evaluates on a stack of its own
set_option Elab.async false

/-! Words of syllables, written out bit by bit from R85, R87 and R113: the fields of the format, then op, long, stop and cls. -/

theorem test_decode_scalar :
    decodeSyl 0b000000000_00111_00101_00011_0000_1_0_00 = some (.add (.long ⟨3, 5, 7⟩)) ∧
    decodeSyl 0b000010000_00000_11111_10000_0000_1_1_00 = some (.maxu ⟨16, 31, 0⟩) ∧
    decodeSyl 0b1001_0010_0000_0_0_00 = some (.mov (.short ⟨2, 9⟩)) ∧
    decodeSyl 0b11111111111111_00101_00011_0001_1_0_00 = some (.addi (.long ⟨3, 5, 0x3FFF⟩)) ∧
    decodeSyl 0b0000000_11_00100_00101_00011_0101_1_0_00 = some (.roli ⟨3, 5, 4, 0⟩) ∧
    decodeSyl 0b1000000000000000001_00011_1001_1_0_00 = some (.movhi ⟨3, 0x40001⟩) := by
  decide +kernel

theorem test_decode_memory :
    decodeSyl 0b00000000000010_00101_00011_0100_1_0_01 = some (.ldw (.long ⟨3, 5, 2⟩)) ∧
    decodeSyl 0b0101_0011_0001_0_1_01 = some (.stw (.short ⟨3, 5⟩)) ∧
    decodeSyl 0b00000000000001_00101_00011_1101_1_0_01 = some (.vst256 (.long ⟨3, 5, 1⟩)) ∧
    decodeSyl 0b0000_0_1000_00110_00101_00011_1110_1_0_01 = some (.vldx ⟨3, 5, 6, 8, 0⟩) ∧
    decodeSyl 0b0000_1_0011_00110_00101_00011_1110_1_0_01 = some (.vstx ⟨3, 5, 6, 3, 0⟩) := by
  decide +kernel

theorem test_decode_vector :
    decodeSyl 0b0_1_100_0010_00110_00101_00011_0000_1_0_10 = some (.vmul (.long 3 5 6 4 true false)) ∧
    decodeSyl 0b0010_0001_1001_0_0_10 = some (.vsub (.shortI ⟨1, 2⟩)) ∧
    decodeSyl 0b0000_011_10_00000_00101_00011_1000_1_0_10 = some (.vrmin ⟨3, 5, 0, 3, 0⟩) ∧
    decodeSyl 0b000_10_000000101_00101_00011_1010_1_0_10 = some (.vext ⟨3, 5, 0x405⟩) := by
  decide +kernel

theorem test_decode_exact :
    decodeSyl 0b00_0_0_0_1000_00110_00101_00011_0001_1_0_11 = some (.xmacLa ⟨3, 5, 6, 8⟩) ∧
    decodeSyl 0b0000_0011_0000_0_0_11 = some (.xclrLa (.short ⟨3, 0⟩)) ∧
    decodeSyl 0b0_1_000_011_100101_00010_00101_0110_1_0_11 = some (.lard1 ⟨5, 2, 0x10E5⟩) := by
  decide +kernel

theorem test_decode_control :
    decodeSyl 0b0000_0000_1111_0_1_00 = some (.endS 0) ∧ decodeSyl 0b1001_0001_1111_0_1_00 = some (.trap 9) ∧
    decodeSyl 0b11111111111111111111_0101_1111_1_1_00 = some (.br 0xFFFFF) ∧
    decodeSyl 0b100000000000_011_00101_0110_1111_1_0_00 = some (.bc ⟨5, 3, 0x800⟩) ∧
    decodeSyl 0b000000000000100_00101_0011_1111_1_0_00 = some (.call ⟨5, 4⟩) := by
  decide +kernel

theorem test_decode_sync :
    decodeSyl 0b0000000001_00110_00101_0011_1111_1_0_01 = some (.wait ⟨5, 6, 1⟩) ∧ decodeSyl 0b0110_0001_1111_0_0_01 = some (.sfencet 6) ∧
    decodeSyl 0b1111111111_00000_00101_0111_1111_1_0_01 = some (.signali ⟨5, 0, 0x3FF⟩) := by
  decide +kernel

/-! Ill-formed commands, one for each check. -/

theorem test_illFormed_requests :
    WellFormed (.bar0Request ⟨0, 0, none, .read 0⟩ 0) = false ∧ WellFormed (.bar0Request ⟨0, 0, none, .read 8⟩ 4092) = false ∧
    WellFormed (.bar2Request ⟨0, 0, none, .write []⟩ 0) = false ∧ WellFormed (.bar4Request ⟨0, 0, none, .write [1, 2]⟩ 4095) = false ∧
    WellFormed (.bar4Request ⟨0, 0, none, .write (List.replicate 513 0)⟩ 0) = false ∧
    WellFormed (.bar0Request ⟨0, 0, none, .read 4096⟩ 0) = true ∧ WellFormed (.integratedSwitchRoute 0 4095 2 true) = false := by
  decide +kernel

theorem test_illFormed_lists :
    WellFormed (.sensorSample ⟨[], List.replicate 64 0, List.replicate 11 0, 0, 0, 0, false⟩) = false ∧
    WellFormed (.sensorSample ⟨List.replicate 96 0, [], List.replicate 11 0, 0, 0, 0, false⟩) = false ∧
    WellFormed (.sensorSample ⟨List.replicate 96 0, List.replicate 64 0, [], 0, 0, 0, false⟩) = false ∧
    WellFormed (.energyInterval ⟨0, [], [], List.replicate 11 0⟩) = false ∧ WellFormed (.energyInterval ⟨0, List.replicate 11 0, [], []⟩) = false ∧
    WellFormed (.energyInterval ⟨0, List.replicate 11 0, [], List.replicate 11 0⟩) = true ∧ WellFormed (.ethFrameReceive 0 []) = false := by
  decide +kernel

theorem test_illFormed_image (l : List Byte) (h : l.length = 100663297) : WellFormed (.requestupdate l) = false := by
  simp [WellFormed, h]

theorem test_illFormed_syllables :
    WellFormed (.mov 0 true (.unassigned 0b000000000_00111_00101_00011_0000_1_0_00 true)) = false ∧
    WellFormed (.mov 0 true (.unassigned 0b0000_0000_1111_0_0_01 true)) = false ∧
    WellFormed (.mov 0 true (.unassigned 0b0000_0000_1100_0_0_10 false)) = true ∧ WellFormed (.vmul 0 true (.shortI ⟨1, 2⟩)) = false ∧
    WellFormed (.vshl 0 true (.shortF ⟨1, 2⟩)) = false ∧ WellFormed (.vadd 0 true (.shortI ⟨1, 2⟩)) = true := by
  decide +kernel

/-! Single steps on the small module, with results worked out by hand. -/

/-- R115: 0x2000 + 0x2000, and a shift by 0x2000 mod 32 = 0. -/
theorem test_add : (gGet (getNib (after (.add 0 true (.long ⟨3, 5, 5⟩)) world) 0).g 3) = 0x4000 := by decide +kernel

theorem test_shl : (gGet (getNib (after (.shl 0 true (.short ⟨5, 5⟩)) world) 0).g 5) = 0x2000 := by decide +kernel

/-- R116: ADDI wraps. -/
theorem test_addi_wraps : (gGet (getNib (after (.addi 0 true (.short ⟨3, 15⟩)) world) 0).g 3) = 0xFFFFFFFF := by decide +kernel

/-- A Nib whose g3 is 2. -/
def nibTwo : Nib := { nib0 with g := nib0.g.set 3 2, gEarly := nib0.gEarly.set 3 2 }

/-- R37, R61: a word load at offset 6 raises MISALIGNED and stops the launch's Nib. -/
theorem test_ldw_misaligned :
    (getNib (after (.ldw 0 true (.long ⟨3, 3, 1⟩)) { world with nibs := [(0, nibTwo)] }) 0).st = .stopped := by decide +kernel

/-- R111, R115: fn 0x19 and above is reserved, so the word has no mnemonic, and its syllable stops the Nib. -/
theorem test_reserved_word : decodeSyl 0b000011001_00111_00101_00011_0000_1_0_00 = none ∧
    (getNib (after (.mov 0 true (.unassigned 0b000011001_00111_00101_00011_0000_1_0_00 true)) world) 0).st = .stopped := by decide +kernel

/-- R38: a store into the code region is not written. -/
theorem test_code_write : scratchByte (getCore (after (.stw 0 true (.long ⟨5, 0, 1⟩)) world) 0) 5 = scratchByte core3 5 ∧
    (getNib (after (.stw 0 true (.long ⟨5, 0, 1⟩)) world) 0).st = .stopped := by decide +kernel

/-- R119: the bytes of g5 = 0x2000 stored little-endian. -/
theorem test_stw : scratchRead (getCore (after (.stw 0 true (.short ⟨5, 5⟩)) world) 0) 0x2000 4 = [0x00, 0x20, 0x00, 0x00] := by decide +kernel

namespace Sys2Proof.Tests.Part10

/-- The module with another Nib 0. -/
def withNib (x : Nib) : State := { world with nibs := [(0, x)] }

/-- One whose Nib runs in compatibility mode. -/
def worldComp : State := withNib { nib0 with compat := true }

def lr0 : LR := ⟨3, 1, 2, 0⟩
def li0 : LI := ⟨3, 5, 0⟩
def lane0 : LaneForm := .long 3 1 2 0 false false
def laneInt : LaneForm := .long 3 1 2 3 false false
def laneSign : LaneForm := .long 3 1 0 0 false false

theorem witness_ScalarArithmetic :
    (∀ o ∈ aluRows, Issues world 0 (o.syl (.long ⟨3, 5, 31⟩)) ∧ Issues world 0 (o.syl (.short ⟨0, 15⟩))) ∧
    (∀ o ∈ rrRows, Issues world 0 (o.syl ⟨31, 5, 2⟩)) ∧ (∀ o ∈ countRows, Issues world 0 (o.syl ⟨0, 5, 0⟩)) := by
  decide +kernel

theorem witness_ScalarMoves :
    (∀ o ∈ immRows, Issues world 0 (o.syl ⟨3, 5, 0x3FFF⟩)) ∧ (∀ o ∈ shiftImmRows, Issues world 0 (o.syl ⟨3, 5, 31, 0⟩)) ∧
    ∀ x ∈ [Syl.mov (.short ⟨0, 0⟩), .addi (.short ⟨3, 15⟩), .addi (.long li0), .movi (.short ⟨3, 8⟩), .movi (.long ⟨3, 0x40000⟩),
      .movhi ⟨31, 0x7FFFF⟩, .mfc (.short ⟨3, 11⟩), .mfc (.long ⟨3, 0, 0x3F⟩), .mtc (.short ⟨7, 3⟩), .mtc (.long ⟨0, 5, 0x3F⟩)],
      Issues world 0 x := by
  decide +kernel

theorem witness_ScratchLoads :
    (∀ o ∈ loadRows, Issues world 0 (o.syl li0) ∧ accessOk (addrLI (readyNib world 0) li0 o.val.1) o.val.1 ∧ cleanAccess world 0 0x2000 o.val.1) ∧
    (∀ o ∈ loadVRows, Issues world 0 (o.syl li0) ∧ accessOk (addrLI (readyNib world 0) li0 o.val) o.val ∧ cleanAccess world 0 0x2000 o.val) ∧
    Issues world 0 (.ldw (.short ⟨3, 5⟩)) ∧ Issues world 0 (.vld256 (.long li0)) ∧ accessOk (addrLI (readyNib world 0) li0 256) 256 ∧
    Issues world 0 (.vldx ⟨3, 5, 0, 8, 0⟩) ∧ cleanAccess world 0 0x2000 256 ∧ accessOk 0xFFF00 256 := by
  unfold accessOk cleanAccess
  decide +kernel

theorem witness_ScratchStores :
    (∀ o ∈ storeRows, Issues world 0 (o.syl li0) ∧ accessOk (addrLI (readyNib world 0) li0 o.val.1) o.val.1 ∧
      cleanAccess world 0 0x2000 o.val.1 ∧ outsideCode world 0 0x2000 o.val.1) ∧
    Issues world 0 (.stw (.short ⟨3, 5⟩)) ∧ Issues world 0 (.vst256 (.long li0)) ∧ Issues world 0 (.vstx ⟨3, 5, 0, 3, 0⟩) ∧
    accessOk (addrLI (readyNib world 0) li0 256) 256 ∧ cleanAccess world 0 0x2000 256 ∧ outsideCode world 0 0x2000 256 := by
  unfold accessOk cleanAccess outsideCode
  decide +kernel

theorem witness_VectorLanes :
    ((∀ o ∈ laneArithRows, Issues world 0 (o.syl lane0)) ∧ laneArgs lane0 = some ⟨3, 1, 2, .fp32, false⟩) ∧
    (∀ o ∈ laneExactRows, Issues world 0 (o.syl lane0)) ∧
    ((∀ o ∈ laneSignRows, Issues world 0 (o.syl laneSign)) ∧ laneArgs laneSign = some ⟨3, 1, 0, .fp32, false⟩) ∧
    ((∀ o ∈ laneShiftRows, Issues world 0 (o.syl laneInt)) ∧ laneArgs laneInt = some ⟨3, 1, 2, .int32, false⟩) ∧ Fmt.int32.isInt = true ∧
    laneArgs (.shortF ⟨1, 2⟩) = some ⟨1, 1, 2, .fp32, false⟩ ∧ laneArgs (.shortI ⟨1, 2⟩) = some ⟨1, 1, 2, .int32, false⟩ ∧
    Issues world 0 (.vmov ⟨15, 0⟩) := by
  decide +kernel

theorem witness_VectorConversions_formats :
    (∀ x ∈ [Syl.vfma lr0, .vcvt ⟨3, 1, 0, 0x50⟩, .vmxs ⟨3, 1, 0, 3⟩, .vmxq ⟨3, 1, 2, 0x33⟩, .vmxd ⟨3, 1, 2, 0x33⟩, .exps (.short ⟨1, 2⟩),
      .exps (.long ⟨3, 1, 0, 0⟩), .maxrun (.short ⟨1, 2⟩), .maxrun (.long ⟨3, 1, 0, 0⟩)], Issues world 0 x) ∧
    laneFmt 0 = some .fp32 ∧ cvtFmt 0 = some .fp32 ∧ cvtFmt 5 = some .int32 ∧ mxFmt 3 = some .e4m3 ∧ 64 * (0x33 / 16 + 1) * Fmt.e4m3.width ≤ 2048 := by
  decide +kernel

theorem witness_VectorConversions_moves :
    (∀ x ∈ [Syl.vrsum ⟨3, 1, 0, 0, 0⟩, .vrmax ⟨3, 1, 0, 3, 0⟩, .vrmin ⟨3, 1, 0, 3, 0⟩, .vbcast ⟨3, 1, 0, 2⟩, .vext ⟨3, 1, 0x4FF⟩,
      .vins ⟨3, 1, 0x4FF⟩, .vshuf lr0, .vsplati ⟨3, 5⟩, .vsel lr0], Issues world 0 x) ∧
    bcastWidth 2 = some 8 ∧ extFields 0x4FF = some (8, 255) ∧ extFields 0x300 = none := by
  decide +kernel

theorem witness_ExactMultiply_lanes :
    (Issues world 0 (.xmul lr0) ∧ (readyNib world 0).compat = false ∧ (mulLanes (loneCtx world 0 (.xmul lr0)) lr0).isSome = true) ∧
    (Issues world 0 (.xmacLa lr0) ∧ (mulLanes (loneCtx world 0 (.xmacLa lr0)) lr0).isSome = true) ∧
    (Issues worldComp 0 (.xmulv lr0) ∧ (readyNib worldComp 0).compat = true ∧ (mulLanes (loneCtx worldComp 0 (.xmulv lr0)) lr0).isSome = true) ∧
    (Issues worldComp 0 (.xdot lr0) ∧ (mulLanes (loneCtx worldComp 0 (.xdot lr0)) lr0).isSome = true) := by
  decide +kernel

theorem witness_ExactMultiply_sources :
    Issues world 0 (.xaddLa (.short ⟨3, 7⟩)) ∧ Issues world 0 (.xaddLa (.long ⟨3, 7, 0, 0⟩)) ∧
    Issues world 0 (.xaddLa (.long ⟨3, 1, 0, 0x35⟩)) ∧ addFmt (0x35 % 16) = some .e5m2 ∧ 64 * (0x35 / 16 + 1) * Fmt.e5m2.width ≤ 2048 ∧
    Issues world 0 (.xaddLa (.long ⟨3, 1, 20, 8⟩)) ∧ Issues world 0 (.xaddLa (.long ⟨3, 3, 0, 9⟩)) ∧ Issues world 0 (.xclrLa (.short ⟨3, 0⟩)) ∧
    Issues world 0 (.xclrLa (.long ⟨0, 0, 0, 0⟩)) := by
  decide +kernel

theorem witness_ExactMultiply_readouts :
    (Issues world 0 (.prd ⟨3, 7, 0, 0⟩) ∧ Issues world 0 (.lard ⟨3, 3, 0, 0⟩) ∧ readoutOk ⟨3, 3, 0, 0⟩ .fp32) ∧
    Issues world 0 (.lard ⟨3, 3, 4, 6⟩) ∧ Issues world 0 (.lard ⟨3, 3, 20, 7⟩) ∧
    (Issues world 0 (.lard1 ⟨3, 3, 0x10C3⟩) ∧ readFmt (0x10C3 / 64 % 8) = some .e4m3) ∧
    (getNib (withNib { nib0 with flight := [⟨4, .p 7 (List.replicate 64 0)⟩] }) 0).flight = [⟨4, .p 7 (List.replicate 64 0)⟩] := by
  unfold readoutOk
  decide +kernel

theorem witness_ControlFlow_branches :
    (∀ x ∈ [Syl.endS 0, .br 0xFFFFF, .bc ⟨5, 5, 0x800⟩, .bc ⟨0, 0, 4⟩, .brr ⟨0, 5, 0⟩, .dbnz ⟨5, 0, 0x800⟩], Issues world 0 x) ∧
    (∀ o ∈ branchRows, Issues world 0 (o.syl ⟨5, 0, 0x3FF⟩)) ∧ (gGet (readyNib world 0).g 5).toNat % 2 = 0 ∧ (branchCond 5 0 ∧ ¬branchCond 4 0) := by
  unfold branchCond
  decide +kernel

/-- A Nib with a frame of no register at the top of its stack that returns to 0x40. -/
def worldRet : State :=
  { world with cores := [(0, scratchWrite core3 0x8000 (leBytes 16 (0x40 + 0x8010 * 2 ^ 64)))] }

theorem witness_ControlFlow_calls :
    (Issues world 0 (.call ⟨0, 0x7FFF⟩) ∧ Issues world 0 (.callr ⟨5, 5, 0⟩) ∧ callOk (readyNib world 0) (callMask (readyNib world 0) 0) ∧
      callOk (readyNib world 0) (callMask (readyNib world 0) 5) ∧ (readyNib world 0).sp.toNat ≤ 2 ^ 20) ∧
    (Issues worldRet 0 (.ret 0) ∧ leNat (scratchRead (getCore worldRet 0) 0x8000 4) = 0x40 ∧
      leNat (scratchRead (getCore worldRet 0) 0x8004 4) = 0 ∧ frameSize 0 = 16 ∧ scratchErrs (getCore worldRet 0) 0x8000 16 = []) := by
  unfold callOk
  decide +kernel

theorem witness_ControlFlow_trap :
    Issues world 0 (.trap 15) ∧ findLaunch world (petalOfNib world 0) (getNib world 0).launchTag.toNat = some launch9 ∧
    launch9.stop = none ∧ launch9.fault = none ∧ 0 ∈ nibsOf launch9.cores := by
  decide +kernel

/-- A stream descriptor in scratch at the address in g5: 64 bytes from scratch 0x3000 to petal memory, tag 1. -/
def descY : Nat := pack [(0, 0, 2), (0, 4, 1), (4, 0, 0x3000), (8, 0, 0x200000), (0x10, 0, 64), (0x14, 0, 1), (0x14, 16, 1)]

def worldY : State := { world with cores := [(0, scratchWrite core3 0x2000 (leBytes 64 descY))] }

/-- A Nib with a stream in progress under tag 6. -/
def worldF : State := withNib { nib0 with streams := [⟨6, 0, 0⟩], g := nib0.g.set 6 0x40, gEarly := nib0.gEarly.set 6 0x40 }

theorem witness_SyncSyllables_fences :
    Issues world 0 (.sfencea 0) ∧ Issues world 0 (.sfencet 6) ∧ Issues world 0 (.sfence ⟨6, 0, 0⟩) ∧ (readyNib world 0).streams = [] ∧
    Issues worldF 0 (.sfencea 0) ∧ Issues worldF 0 (.sfencet 6) ∧ Issues worldF 0 (.sfence ⟨6, 0, 0⟩) ∧
    (readyNib worldF 0).streams = [⟨6, 0, 0⟩] ∧ ((addrReg (readyNib worldF 0) 6).toNat % 65536).testBit 6 = true := by
  decide +kernel

theorem witness_SyncSyllables_stream :
    Issues worldY 0 (.stream ⟨5, 0, 0⟩) ∧ (addrReg (readyNib worldY 0) 5).toNat = 0x2000 ∧ accessOk 0x2000 64 ∧
    scratchErrs (getCore worldY 0) 0x2000 64 = [] ∧ leNat (scratchEarly (loneCtx worldY 0 (.stream ⟨5, 0, 0⟩)) 0x2000 64) = descY ∧
    (readyNib worldY 0).streams = [] ∧ (streamCheck (loneCtx worldY 0 (.stream ⟨5, 0, 0⟩)) descY 0x2000).isNone = true := by
  unfold accessOk
  decide +kernel

theorem witness_SyncSyllables_counters :
    (∀ o ∈ signalRows, Issues world 0 (o.syl ⟨0, 0, 0⟩)) ∧ (addrReg (readyNib world 0) 0).toNat < petalCounters world 0 ∧
    (getCore world 0).port.length < 32 ∧ Issues world 0 (.wait ⟨0, 0, 0⟩) ∧ Issues world 0 (.waitc ⟨0, 4, 0⟩) ∧
    getPetal world (petalOfNib world 0) = some petal3 ∧ (getCore world 0).port = [] ∧ 0 < recCounters petal3.record ∧
    (counterVal petal3 0).toInt < (waitTarget (readyNib world 0) 4).toInt ∧ (waitTarget (readyNib world 0) 0).toInt ≤ (counterVal petal3 0).toInt ∧
    world.waiters = [] ∧ counterFits ((counterVal petal3 0).toInt - (waitTarget (readyNib world 0) 0).toInt) = true := by
  decide +kernel

theorem witness_SyncSyllables_event :
    Issues world 0 (.evpost ⟨5, 0, 0⟩) ∧ findLaunch world (petalOfNib world 0) (getNib world 0).launchTag.toNat = some launch9 ∧
    getPetal world (petalOfNib world 0) = some petal3 ∧ look petal3.queues launch9.queue = some ring0 ∧
    ring0.cqUsed + ring0.reserved < 2 ^ ring0.cqLog ∧ 2048 ≤ ring0.msix := by
  decide +kernel

end Sys2Proof.Tests.Part10

namespace Sys2Proof.Tests.Part20

/-- An inbound stream of two lines of petal 3's memory to scratch 0x2000 under tag 7, with a signal for counter 2, and an outbound one. -/
def descIn : Nat := pack [(0, 0, 1), (0, 4, 7), (0, 8, 1), (4, 0, 0x2000), (8, 0, 0x100000), (0x10, 0, 128), (0x14, 0, 1), (0x14, 16, 1),
  (0x30, 0, 2), (0x34, 0, 5)]

def descOut : Nat := pack [(0, 0, 2), (0, 4, 6), (4, 0, 0), (8, 0, 0x200000), (0x10, 0, 64), (0x14, 0, 1), (0x14, 16, 1)]

def worldS : State :=
  { worldL with
    cores := [(0, scratchWrite { core3 with gen := 1 } 0 (List.replicate 64 7))]
    nibs := [(0, { nib0 with st := .waiting (.tags 0xC0) false, streams := [⟨7, BitVec.ofNat 512 descIn, 0⟩, ⟨6, BitVec.ofNat 512 descOut, 0⟩] })] }

theorem witness_StreamCompletion :
    ((getNib worldS 0).streams.find? (fun q => q.tag == (7 : BitVec 4).toNat) = some ⟨7, BitVec.ofNat 512 descIn, 0⟩ ∧ worldS.waiters = [] ∧
      (∀ l ∈ streamLines (streamD descIn), poisonIn worldS 3 l.2 64 = none) ∧ (streamD descIn).op = 1) ∧
    ((getNib worldS 0).streams.find? (fun q => q.tag == (6 : BitVec 4).toNat) = some ⟨6, BitVec.ofNat 512 descOut, 0⟩ ∧
      (∀ l ∈ streamLines (streamD descOut), scratchErrs (getCore worldS 0) l.1 64 = []) ∧ (streamD descOut).op ≠ 1) := by
  decide +kernel

end Sys2Proof.Tests.Part20

namespace Sys2Proof.Tests.Part21

def reqImage : Mbx := req 3 0x20 [(0x10, 0, 0x100000), (0x18, 0, 130), (0x1C, 0, 0xFFFF)]
def reqRelease : Mbx := req 3 0x18 [(0x10, 0, 0x100000)]
def reqQueue : Mbx := req 3 0x28 [(0x10, 0, 3), (0x10, 8, 4), (0x10, 16, 16), (0x14, 0, 0xFFFF), (0x18, 0, 0x40000), (0x20, 0, 0x80000)]
def reqQueueEnd : Mbx := req 3 0x14 [(0x10, 0, 1)]
def reqLaunchEnd : Mbx := req 3 0x14 [(0x10, 0, 1), (0x12, 0, 3)]

/-- The image is not registered yet. -/
def worldU : State := { worldL with petals := [(3, { petalL with images := [] })] }
/-- The launch of core 0 has ended; another waits. -/
def worldE : State :=
  { worldL with
    nibs := [(0, { nib0 with st := .done }), (1, { nib0 with st := .stopped }), (2, { nib0 with st := .done }), (3, { nib0 with st := .done })]
    launches := [launch9, launch3]
    elapsed := 100000 }
def worldW : State := { worldL with launches := [launch9, launch3], elapsed := 100000 }
def descT : Nat := desc3 + 9 * 2 ^ (8 * 0x30)
def worldT : State := { worldL with launches := [{ launch9 with desc := BitVec.ofNat 512 descT }], elapsed := 900000 }

theorem witness_LaunchCommands_doorbells :
    getQueue (awake worldL) 3 1 = some { ring0 with sqTail := 1 } ∧
    ringOffered { ring0 with sqTail := 1 } ≤ (15 + 2 ^ ring0.sqLog - ring0.sqHead) % 2 ^ ring0.sqLog ∧
    (0 + 2 ^ ring0.sqLog - ring0.sqHead) % 2 ^ ring0.sqLog < ringOffered { ring0 with sqTail := 1 } := by decide +kernel

theorem witness_LaunchCommands_register :
    Served cmdImageRegister reqImage worldU ∧
    (imageCheck (fresh (begun cmdImageRegister reqImage worldU)) 3 0x100000 130 0xFFFF).toOption = some ⟨BitVec.ofNat 1024 header1, digest1⟩ := by
  decide +kernel

theorem witness_LaunchCommands_release :
    Served cmdImageRelease reqRelease worldL ∧ rising petalL.images = true ∧
    ((getPetal (begun cmdImageRelease reqRelease worldL) 3).bind (fun x => look x.images 0x100000)).isSome = true ∧
    ∀ l ∈ worldL.launches, dImage l.desc.toNat ≠ 0x100000 := by decide +kernel

theorem witness_LaunchCommands_create :
    Served cmdQueueCreate reqQueue worldL ∧ look petalL.queues 3 = none ∧
    overlaps 0x40000 (64 * 2 ^ 4) 0x80000 (32 * 2 ^ 16) = false ∧ 3 < recQueues petalL.record ∧
    inSlots petalL 0x40000 (64 * 2 ^ 4) = true ∧ inSlots petalL 0x80000 (32 * 2 ^ 16) = true := by decide +kernel

theorem witness_LaunchCommands_destroy :
    let s := { worldL with launches := [] }
    Served cmdQueueDestroy reqQueueEnd s ∧ (getQueue (begun cmdQueueDestroy reqQueueEnd s) 3 1).isSome = true ∧
    (begun cmdQueueDestroy reqQueueEnd s).launches = [] := by decide +kernel

theorem witness_LaunchCommands_abort :
    Served cmdLchAbort reqLaunchEnd worldW ∧
    (begun cmdLchAbort reqLaunchEnd worldW).launches.find? (fun l => l.petal == 3 && l.queue == 1 && l.tag == 3) = some launch3 ∧
    Served cmdLchAbort (req 3 0x14 [(0x10, 0, 1), (0x12, 0, 9)]) worldW ∧ launch9.started = some 0 := by decide +kernel

theorem witness_LaunchCourse_accept :
    ringOffered { ring0 with sqTail := 1 } = 1 ∧ keyPresent worldL 3 = true ∧
    memNat (fresh worldL) 3 0x10000 64 = desc3 ∧ poisonIn (fresh worldL) 3 0x10000 64 = none ∧
    dCheck (fresh worldL) 3 desc3 = none := by decide +kernel

theorem witness_LaunchCourse_start :
    (queueHeads worldW 3).find? (startable worldW) = some launch3 ∧ (getCore worldW 1).failed = false ∧
    poisonIn (fresh worldW) 3 0x100000 130 = none ∧
    leNat (sha3 (memRead (fresh worldW) 3 0x100000 130)) = launch3.digest.toNat := by decide +kernel

theorem witness_LaunchCourse_reserve :
    (waitingOf worldW 3 1).head? = some launch3 ∧ (0 : W64).toNat * 10 + 1000000 ≤ worldW.elapsed.toNat * 10 := by decide +kernel

theorem witness_LaunchCourse_complete :
    findLaunch worldE 3 9 = some launch9 ∧ launchEnded worldE launch9 = true ∧ (getCore worldE 0).port = [] ∧
    rising petalL.tags = true ∧ (look petalL.queues 1).isSome = true ∧ dRec launch9.desc.toNat = false ∧ dRec desc3 = true := by
  decide +kernel

theorem witness_LaunchCourse_timeout :
    dTimeout descT * 100000 ≤ countedSteps worldT { launch9 with desc := BitVec.ofNat 512 descT } ∧ dTimeout descT = 9 := by decide +kernel

end Sys2Proof.Tests.Part21

namespace Sys2Proof.Tests.Part22

def reqHello (major : Nat) : Mbx := req 3 0x20 [(0x10, 0, 5), (0x10, 16, major), (0x14, 0, 0xFFF), (0x18, 0, 77)]
def reqBare (page : PageId) : Mbx := req page 0x10 []
/-- Page 3 has no session yet. -/
def worldH : State := { world with pages := [(3, MPage.new), (512, page0)] }
/-- The leases have run out. -/
def worldX : State := { world with elapsed := 200000000 }

theorem witness_Sessions :
    Served cmdHostHello (reqHello 3) worldH ∧ Served cmdHostHello (reqHello 2) world ∧ Served cmdIdentify (reqBare 512) world ∧
    Served cmdLeaseRenew (reqBare 3) world ∧ pageAnswers world 3 = true ∧ leaseDue world 3 = false ∧ Served cmdHostGoodbye (reqBare 3) world ∧
    (getPage worldX 3).lastRenew.toNat * 10 + 2000000000 ≤ worldX.elapsed.toNat * 10 ∧ worldX.sec.sessions = [] ∧ worldX.sec.d2 = none ∧
    (getPage worldX 512).session = 1 ∧ (getPetal worldX 3).isSome = true := by decide +kernel

end Sys2Proof.Tests.Part22

namespace Sys2Proof.Tests.Part23

/-- A request for each command that stages one, in the order of their table. -/
def stageReqs : List Mbx := [
  req 512 0x18 [(0x10, 0, 2047), (0x10, 16, 1), (0x14, 0, 3)],
  req 512 0x18 [(0x10, 0, 511), (0x10, 16, 1), (0x14, 0, 3)],
  req 3 0x20 [(0x10, 0, 4), (0x18, 0, 2)],
  req 512 0x20 [(0x10, 0, 3), (0x10, 16, 1), (0x18, 0, 2 ^ 37 + 8)],
  req 512 0xC0 [(0x10, 0, 3), (0x60, 0, 32768)],
  req 512 0x30 [(0x10, 0, 3), (0x20, 0, 4), (0x24, 0, 1024), (0x24, 16, 1), (0x28, 0, 4096), (0x28, 16, 255)],
  req 512 0x20 [],
  req 512 0x14 [(0x10, 0, 3)],
  req 512 0x30 [(0x10, 0, 3), (0x10, 8, 1)],
  req 512 0xA0 [(0x10, 0, 8191), (0x20, 0, 1)],
  req 512 0x20 [(0x10, 0, 255), (0x18, 0, 4)],
  req 512 0x24 [(0x10, 0, 3), (0x10, 8, 23), (0x20, 0, 16777216)],
  req 512 0x30 [(0x10, 0, 3)],
  req 512 0x1C [(0x10, 0, 16383), (0x14, 0, 1600000), (0x18, 0, 9620)],
  req 512 0x30 [(0x10, 0, 3), (0x14, 0, 3), (0x10, 13, 1)]]

/-- The module with a control petal, a window of petal 3, and memory for a gate list. -/
def worldC : State :=
  withBytes { world with windows := [(4, ⟨3, 0⟩)], petals := [(3, { petal3 with control := true })] } 3 0x3000 (leBytes 8 (5 + 64 * 2 ^ 32))

def reqGate : Mbx := req 512 0x30 [(0x10, 0, 3), (0x10, 8, 1), (0x10, 16, 1), (0x20, 0, 999999999), (0x24, 0, 64), (0x28, 0, 0x3000)]

theorem witness_StagingCommands :
    (stageRows.zip stageReqs).map (fun e => decide (Served e.1.1 e.2 worldC) && e.1.2 (begun e.1.1 e.2 worldC) e.2) = List.replicate 15 true ∧
    Served cmdSchGateSet reqGate worldC ∧ controlPetal (begun cmdSchGateSet reqGate worldC) = some 3 ∧
    (getPetal worldC 3).any (fun x => pdaInside x 0x3000 8) = true ∧ keyPresent (begun cmdSchGateSet reqGate worldC) 3 = true ∧
    gateEntriesOk 1 (leNat (memRead (fresh (begun cmdSchGateSet reqGate worldC)) 3 0x3000 8)) = true ∧
    Served cmdWinQuery (req 3 0x14 [(0x10, 0, 4)]) worldC := by decide +kernel

/-- The module whose device page has an accepted commit of one setting. -/
def worldK (page : Nat) (opcode : Nat) (m : Mbx) : State :=
  let a : Area := { Area.new with commits := [⟨4, [⟨opcode, m.payload, m.length.toNat, true, []⟩], none⟩] }
  if page = 512 then { worldC with devArea := a }
  else { worldC with petals := [(3, { petal3 with control := true, area := a })] }

theorem witness_CommittedSettings :
    ([(512, 0x0020, 0), (512, 0x0200, 1), (3, 0x0201, 2), (512, 0x0110, 3), (512, 0x0112, 4), (512, 0x0211, 5), (512, 0x0213, 6),
      (512, 0x0700, 7), (512, 0x0710, 9), (512, 0x0711, 10), (512, 0x0740, 14)].map (fun e =>
        let m := stageReqs[e.2.2]?.getD (req 3 0 [])
        let s := worldK e.1 e.2.1 m
        let i : Staged := ⟨e.2.1, m.payload, m.length.toNat, true, []⟩
        decide ((areaOf s e.1).commits = [⟨4, [i], none⟩] ∧ waitsConsent (fresh s) i = false ∧ sharesOver s = [] ∧ triplesTwice s = []))) =
      List.replicate 11 true ∧
    look worldC.msixOwner 2047 = none ∧ (windowOf worldC 511).owner = 0x3FF ∧ (getPetal worldC 3).isSome = true ∧
    ceilingOk petal3 (policyIn (stageReqs[5]?.getD (req 3 0 [])).payload) = true := by decide +kernel

end Sys2Proof.Tests.Part23

namespace Sys2Proof.Tests.Part24

open Sys2Proof.Tests.Part23

/-- Petal 3 has something staged. -/
def area1 : Area := { Area.new with epoch := 6, stage := [⟨0x0201, 0, 32, false, []⟩] }
def worldA : State := { worldC with petals := [(3, { petal3 with control := true, area := area1, tags := [(9, .launch)] })] }
def reqCommit : Mbx := req 3 0x14 []
def commitD : Commit := ⟨9, [], some 5⟩
/-- A commit of petal 3 that can only fail, and one that drains. -/
def worldF : State :=
  { worldC with petals := [(3, { petal3 with area := { area1 with commits := [⟨9, [⟨0x0201, 0, 32, false, []⟩], none⟩] } })] }
def pend9 : Pend := ⟨2, 9, false, 0x0010, 0x14, 0, none, .epochDrain 9, none⟩
def worldD : State :=
  { worldA with
    pages := [(3, { page0 with pends := [pend9] }), (512, page0)]
    petals := [(3, { petal3 with area := { area1 with commits := [commitD] }, tags := [(9, .mailbox)] })]
    elapsed := 100005 }

def reqSnap : Mbx := req 3 0x20 [(0x10, 0, 3), (0x10, 31, 1), (0x14, 0, 3), (0x18, 0, 0x2000)]

theorem witness_EpochCommands :
    Served cmdEpochCommit reqCommit world ∧ (areaOf (begun cmdEpochCommit reqCommit world) 3).stage = [] ∧
    Served cmdEpochCommit reqCommit worldA ∧ (areaOf (begun cmdEpochCommit reqCommit worldA) 3).stage ≠ [] ∧
    commitFail (fresh worldF) [⟨0x0201, 0, 32, false, []⟩] (applyItems 3 [⟨0x0201, 0, 32, false, []⟩] 0 (fresh worldF)) = some 0 ∧
    (areaOf worldD 3).commits = [commitD] ∧ (5 : W64).toNat * 10 + 1000000 ≤ worldD.elapsed.toNat * 10 ∧
    Served cmdEpochDiscard (req 3 0x10 []) worldA ∧ Served cmdCounterSnapshot reqSnap world ∧
    groupReadable 3 3 3 = true ∧ groupExists (fresh (begun cmdCounterSnapshot reqSnap world)) 3 3 = true ∧
    snapshotTarget (fresh (begun cmdCounterSnapshot reqSnap world)) 3 0x2000
      (snapshotBytes (fresh (begun cmdCounterSnapshot reqSnap world)) 3 3).length = some 3 := by decide +kernel

/-- The command in slot 2 has its outcome; and its record, once posted. -/
def worldO : State := { worldD with pages := [(3, { page0 with pends := [{ pend9 with outcome := some (replyData 77 8) }] }), (512, page0)] }
def worldR : State := { worldD with pages := [(3, { page0 with late := [(15, 2 ^ 24 + 9)], lateData := [(15, 77)] })] }

theorem witness_LateRecords :
    (getPage worldO 3).pends.find? (fun q => q.slot == 2) = some { pend9 with outcome := some (replyData 77 8) } ∧
    pageAnswers worldR 3 = true ∧ holdsRecord (getPage worldR 3) 15 = true ∧ rising (getPage worldR 3).lateData = true := by decide +kernel

end Sys2Proof.Tests.Part24

namespace Sys2Proof.Tests.Part25

/-- A request on port 0 under the PASID of petal 3's binding. -/
def tlp3 (op : TlpOp) : Tlp := ⟨0, 1, some 7, op⟩
def tlp0 (op : TlpOp) : Tlp := ⟨0, 1, none, op⟩
/-- Window 4 maps petal 3's first 4 GiB for reads and writes; vector 2047 is the petal's; the binding carries the requester. -/
def worldB : State :=
  withBytes { world with
    windows := [(4, ⟨3, BitVec.ofNat 64 (7 * 2 ^ 16)⟩)]
    msixOwner := [(2047, 3)]
    poison := [(memKey 3 0x4000 / 64, true)] } 3 0x3000 (leBytes 8 77)
def place4 (a : Nat) : BitVec 41 := BitVec.ofNat 41 (4 * 2 ^ 32 + a)
def area0 : BitVec 26 := BitVec.ofNat 26 (0x100000 + 3 * 0x10000)
def fourBytes : TlpOp := .write [1, 2, 3, 4]

theorem witness_BarRequests_registers :
    (swPort worldB 0).up = true ∧ (arrived worldB (tlp0 (.read 4)) (quietBar0 worldB 0x18 (tlp0 (.read 4)))).pcie.memSpace = true ∧
    deviceReg (arrived worldB (tlp0 (.read 4)) false) 0x18 = some 1 ∧
    pageAt area0.toNat = some (3, 0) ∧ pageOpen (arrived worldB (tlp3 fourBytes) false) 3 (tlp3 fourBytes) = true ∧
    leaseDue (arrived worldB (tlp3 fourBytes) false) 3 = false ∧ tlpLen (tlp3 fourBytes) = 4 := by decide +kernel

theorem witness_BarRequests_memory :
    bar2Refusal (arrived worldB (tlp3 (.read 8)) false) (place4 0x3000).toNat (tlp3 (.read 8)) = none ∧
    poisonIn (fresh (arrived worldB (tlp3 (.read 8)) false)) 3 0x3000 8 = none ∧
    (poisonIn (fresh (arrived worldB (tlp3 (.read 8)) false)) 3 0x4000 8).isSome = true ∧
    bar2Refusal (arrived worldB (tlp3 fourBytes) false) (place4 0x3000).toNat (tlp3 fourBytes) = none ∧
    bar2Refusal (arrived worldB (tlp0 fourBytes) false) (place4 0x3000).toNat (tlp0 fourBytes) = some false := by decide +kernel

theorem witness_BarRequests_vectors :
    bar4Reach (arrived worldB (tlp3 (.read 16)) false) (tlp3 (.read 16)) = some 3 ∧
    reaches (arrived worldB (tlp3 (.read 16)) false) 3 2047 = true := by decide +kernel

theorem witness_RegisterWrites :
    (swPort worldB 0).up = true ∧ worldB.pcie.retry = false ∧ pageAt (0x130000 + 0x804) = some (3, 0x804) ∧
    pageAnswers worldB 3 = true ∧ leaseDue worldB 3 = false := by decide +kernel

theorem witness_RegisterWrites_none : [4, 0x1014, 0x2040, 0x10001, 0x18000].all (fun o => decide (NoHubRegister o)) = true := by decide +kernel

end Sys2Proof.Tests.Part25

namespace Sys2Proof.Tests.Part26

/-- Source 5 asks the Inkstand, which serves source 9; source 6, stuck, has the lower priority; source 0x20 asks hub core 3. -/
def src (target priority : Nat) : IrqSrc := { IrqSrc.new with target := target, priority := priority, enable := true }
def worldI : State :=
  { world with
    irq := ⟨[(5, { src 64 15 with pending := true }), (6, { src 64 14 with pending := true, stuck := true, masks := [1] }),
      (9, { src 64 3 with active := true, by_ := 64 }), (0x20, src 3 2), (0xB80, src 64 1)], [(64, ⟨3, [(3, 9)], 0⟩)]⟩
    elapsed := 10000001 }

theorem witness_Interrupts_raise :
    srcReserved 0x241 = true ∧ srcReserved 0x20 = false ∧ (getSrc worldI 0x20).target < 64 ∧ (getSrc worldI 0x20).pending = false ∧
    (getSrc worldI 0x20).active = false ∧ worldI.pwr.module ≠ 4 ∧ (getSrc worldI 5).pending = true ∧ (getSrc worldI 7).target = 127 ∧
    (getSrc worldI 0xB80).pending = false ∧ worldI.ink.latched = 0 := by decide +kernel

theorem witness_Interrupts_service :
    rising worldI.irq.srcs = true ∧ asks worldI 64 (getSrc worldI 5) = true ∧
    (∀ e ∈ worldI.irq.srcs, asks worldI 64 e.2 = true → e.2.priority < 15 ∨ e.2.priority = 15 ∧ 5 ≤ e.1) ∧
    (∀ e ∈ worldI.irq.srcs, asks worldI 0 e.2 = false) ∧ (getProc worldI 64).stack = [(3, 9)] ∧ (getSrc worldI 9).by_ = 64 ∧
    (getProc worldI 3).stack = [] ∧ (getSrc worldI 6).masks = [1] ∧ (1 : W64).toNat * 10 + 100000000 ≤ worldI.elapsed.toNat * 10 := by
  decide +kernel

end Sys2Proof.Tests.Part26

namespace Sys2Proof.Tests.Part27

open Sys2Proof.Tests.Part23

/-- CREATE_PETAL of petal 511 and RESIZE_PETAL of petal 3, with the record's fields in their places. -/
def recFields (cores slots : Nat) : List (Nat × Nat × Nat) :=
  [(0x40, 0, cores), (0x40, 16, 64), (0x44, 0, slots), (0x44, 16, slots), (0x48, 0, 16), (0x48, 16, 8), (0x4C, 0, 8), (0x4C, 16, 4), (0x50, 0, 64),
    (0x54, 0, 64), (0x60, 0, 100)]
def reqCreate : Mbx := req 512 0xC0 ([(0x10, 0, 511), (0x10, 9, 1), (0x20, 0, 2 ^ 37 + 5)] ++ recFields 2 1)
def reqResize : Mbx := req 512 0xC0 ([(0x10, 0, 3)] ++ recFields 3 2)
def reqPetal (page : PageId) : Mbx := req page 0x14 [(0x10, 0, 3)]

/-- The module in the field, with petal 3's cores, and petal 3 in a state. -/
def worldP (st : PState) : State :=
  { world with
    sec := { Sec.new with lifecycle := .deployed }
    cores := [(0, { core3 with launch := none }), (1, core3), (2, core3), (3, core3)]
    nibs := []
    launches := []
    petals := [(3, { petal3 with st := st, queues := [] })] }

theorem witness_PetalCommands :
    Served cmdCreatePetal reqCreate (worldP .active) ∧ createCheck (begun cmdCreatePetal reqCreate (worldP .active)) reqCreate = none ∧
    filledFor (begun cmdCreatePetal reqCreate (worldP .active)) 1 1 = true ∧
    addedCores (fresh (begun cmdCreatePetal reqCreate (worldP .active))) reqCreate 2 = some [8, 128] ∧
    Served cmdResizePetal reqResize (worldP .quiesced) ∧
    resizeCheck (begun cmdResizePetal reqResize (worldP .quiesced)) reqResize { petal3 with st := .quiesced, queues := [] } = none ∧
    Served cmdResetPetal (reqPetal 3) (worldP .quiesced) ∧ Served cmdDestroyPetal (reqPetal 512) (worldP .quiesced) ∧
    rising (begun cmdDestroyPetal (reqPetal 512) (worldP .quiesced)).petals = true ∧
    rising (begun cmdDestroyPetal (reqPetal 512) (worldP .quiesced)).pages = true ∧ Served cmdQueryPetal (reqPetal 3) world := by
  decide +kernel

/-- A staged binding of petal 3, and a CMAC key in its slot 7. -/
def bindB : Nat := 2 ^ 37 + 8
def bindKey : KeySlot := ⟨3, 5, 0, 0, false⟩
def worldN : State :=
  { worldC with
    devArea := { Area.new with stage := [⟨0x0110, (stageReqs[3]?.getD (req 3 0 [])).payload, 32, false, []⟩] }
    petals := [(3, { petal3 with keySlots := [(7, bindKey)] })] }
def reqAccept : Mbx := req 3 0x30 [(0x10, 0, 3), (0x10, 16, 1), (0x14, 0, 7), (0x18, 0, bindB),
  (0x20, 0, leNat (cmac (keyBytes bindKey 32) (leBytes 4 3 ++ leBytes 4 1 ++ leBytes 8 bindB)))]

theorem witness_PetalCommands_accept :
    Served cmdAcceptBinding reqAccept worldN ∧ (begun cmdAcceptBinding reqAccept worldN).devArea.stage.any (isBinding 3 1 bindB) = true ∧
    ((getPetal worldN 3).bind (fun x => slotKey x 7 3)) = some bindKey ∧
    cmac (keyBytes bindKey 32) (leBytes 4 3 ++ leBytes 4 1 ++ leBytes 8 bindB) = leBytes 16 (mf reqAccept 0x20 0 128) := by decide +kernel

def reqQuiesce : Mbx := req 512 0x18 [(0x10, 0, 3), (0x14, 0, 600000)]
/-- Petal 3 drains, and its limit has come while a launch runs. -/
def worldQ (launches : List Launch) : State :=
  { worldP .quiescing with
    petals := [(3, { petal3 with st := .quiescing, drainAt := some 100, causeLease := true })]
    launches := launches
    elapsed := 100 }

theorem witness_PetalStates :
    Served cmdQuiescePetal reqQuiesce (worldP .active) ∧ Served cmdQuiescePetal reqQuiesce (worldP .quiesced) ∧
    petalRunning (worldQ []) 3 = false ∧ (worldQ []).sec.d2 = none ∧ (∀ e ∈ (worldQ []).pages, e.2.pends = []) ∧
    (100 : W64).toNat ≤ (worldQ [launch9]).elapsed.toNat ∧ Served cmdEnablePetal (reqPetal 512) (worldP .quiesced) ∧
    (getPage (begun cmdEnablePetal (reqPetal 512) (worldP .quiesced)) 3).session = 1 ∧
    Served cmdEnablePetal (reqPetal 512) (worldQ []) ∧ Served cmdEnablePetal (reqPetal 512) (worldP .active) ∧
    Served cmdEnablePetal (reqPetal 512) { worldP .quiesced with pages := [(512, page0)] } := by decide +kernel

end Sys2Proof.Tests.Part27

namespace Sys2Proof.Tests.Part28

open Sys2Proof.Tests.Part27

/-- Petal 3 with one plot of HBM and one of LPDDR, and small tables, so that its pages are few enough to count. -/
def rec1 : BitVec 1024 := BitVec.ofNat 1024 (pack [(0, 0, 4), (0, 16, 64), (4, 0, 1), (4, 16, 1), (0xC, 16, 4), (0x10, 0, 64)])
def petal1 : Petal := { newPetal State.reset rec1 false [0, 0, 0, 0] [0, 1, 2, 3] [(0, 0)] [(8, 0)] with xts := some 1, heatCount := [(5, 6)], heat := [(5, 4)] }
def worldM (moves : List Move) : State := { world with petals := [(3, petal1)], moves := moves, elapsed := 800000 }
def reqPin (a pages kind : Nat) : Mbx := req 3 0x2C [(0x10, 0, 3), (0x18, 0, a * 2 ^ 21), (0x20, 0, pages * 2 ^ 21), (0x28, 0, kind)]

theorem witness_PinCommands :
    Served cmdMemPin (reqPin 1 2 1) (worldM []) ∧ pageHeld petal1 (rangePages (2 ^ 21) (2 ^ 22)) 1 = false ∧
    pinsAfter petal1 (rangePages (2 ^ 21) (2 ^ 22)) 1 true ≤ 512 ∧ pinsAfter petal1 (rangePages (2 ^ 21) (2 ^ 22)) 1 false ≤ 512 ∧
    (∀ g ∈ rangePages (2 ^ 21) (2 ^ 22), pageHbm petal1 g = true) ∧
    (∃ g ∈ rangePages (2 ^ 21) (2 ^ 22), pageHbm petal1 g ≠ ((2 : Nat) == 1)) ∧ Served cmdMemPin (unpinOf (reqPin 1 2 1)) (worldM []) ∧
    mf (unpinOf (reqPin 1 2 1)) 0x18 0 48 = 2 ^ 21 ∧ rising petal1.pins = true ∧ Served cmdMemPolicyGet (reqPetal 3) (worldM []) := by
  decide +kernel

def moveQ (phase : MovePh) : Move := ⟨3, 5, 5, frameOf 8 0 7, some (519, frameOf 8 0 7, 5), none, phase⟩

theorem witness_MemoryCourse :
    (petal1.heatAt.toNat * 10 + polInterval petal1.policy * 1000000 ≤ (worldM []).elapsed.toNat * 10) ∧
    findMove (worldM [moveQ .queued]) 3 5 .queued = some (moveQ .queued) ∧ moveAllowed (worldM [moveQ .queued]) (moveQ .queued) = true ∧
    unitsIdle (worldM [moveQ .queued]) (moveQ .queued) = true ∧ findMove (worldM [moveQ .copying]) 3 5 .copying = some (moveQ .copying) ∧
    findMove (worldM [moveQ .switched]) 3 5 .switched = some (moveQ .switched) ∧ rising petal1.loc = true ∧
    walkOwner (worldM []) (walkPlace 0 0) = some (3, 0) ∧ look (worldM []).poison (memKey 3 0 / 64) = none := by decide +kernel

end Sys2Proof.Tests.Part28

namespace Sys2Proof.Tests.Part29

/-- An update of counter 6 of petal 3 waits in core 0's port; the counter holds v, and ws wait. -/
def worldY (v : Int) (delta : Int) (ws : List Waiter) : State :=
  { world with
    cores := [(0, { core3 with port := [⟨3, 6, delta⟩] })]
    petals := [(3, { petal3 with counters := [(6, BitVec.ofInt 64 v)] })]
    nibs := [(0, { nib0 with st := .waiting (.counter 6 10 false) false })]
    waiters := ws }
def waitN (consume : Bool) : Waiter := ⟨.nib 0, 3, 6, 10, consume, 0⟩

theorem witness_CounterUpdates :
    (getCore (worldY 4 5 [waitN false]) 0).port = [⟨3, 6, 5⟩] ∧ counterFits (4 + 5) = true ∧ ¬((waitN false).target.toInt ≤ 4 + 5) ∧
    counterFits (2 ^ 63 - 1 + 1) = false ∧ counterFits (-(2 ^ 63)) = true ∧ (waitN true).target.toInt ≤ 4 + 6 ∧ counterFits (4 + 6 - 10) = true ∧
    (getNib (worldY 4 6 [waitN true]) 0).st = .waiting (.counter 6 10 false) false := by decide +kernel

/-- SYN_WATCH_SET of watch 1023 on counter 6. -/
def reqWatch (threshold : Nat) : Mbx :=
  req 3 0x40 [(0x10, 0, 1023), (0x10, 12, 15), (0x10, 16, 0xFFFF), (0x14, 0, 6), (0x18, 0, threshold), (0x20, 0, 0x3008), (0x28, 0, 99)]
def watchW (n timeoutMs : Nat) : Watch := ⟨3, n, false, false, 15, 0xFFFF, 6, 50, 0x3010, 7, timeoutMs, 8, 0⟩
def worldV : State :=
  { worldY 4 5 [] with
    petals := [(3, { petal3 with counters := [(6, 4)], watches := [(2, watchW 2 1)], watchEnds := [(3, true)] })]
    waiters := [⟨.watch 3 2, 3, 6, 50, false, 0⟩]
    sec := { Sec.new with sessions := [(3, ⟨1, 0, 60⟩)] }
    elapsed := 100000 }

theorem witness_CounterCommands :
    Served cmdSynRead (req 3 0x18 [(0x10, 0, 48), (0x14, 0, 16)]) worldV ∧ counterCount worldV 3 = 64 ∧
    Served cmdSynAdd (req 3 0x20 [(0x10, 0, 63), (0x18, 0, 2 ^ 64 - 1)]) worldV ∧ counterFits (-1) = true ∧
    Served cmdSynAdd (req 3 0x20 [(0x10, 0, 6), (0x18, 0, 2 ^ 63 - 1)]) worldV ∧ counterFits (4 + (2 ^ 63 - 1)) = false ∧
    Served cmdSynWatchSet (reqWatch 5) worldV ∧
    ((getPetal worldV 3).bind (fun x => watchCheck (begun cmdSynWatchSet (reqWatch 5) worldV) x
      (watchIn (reqWatch 5) (begun cmdSynWatchSet (reqWatch 5) worldV)))) = none ∧ (∀ q ∈ worldV.waiters, ¬(q.target.toInt ≤ 4)) := by
  decide +kernel

theorem witness_CounterCommands_ends :
    Served cmdSynWatchSet (reqWatch 4) { worldV with waiters := [] } ∧ bufAddr 0x3008 = .pda 0x3008 ∧
    ((getPetal worldV 3).bind (fun x => look x.watches 2)) = some (watchW 2 1) ∧
    (0 : W64).toNat * 10 + 1 * 1000000 ≤ worldV.elapsed.toNat * 10 ∧ Served cmdSynWatchCancel (req 3 0x14 [(0x10, 0, 2)]) worldV ∧
    Served cmdSynWatchCancel (req 3 0x14 [(0x10, 0, 3)]) worldV ∧ Served cmdSynWatchCancel (req 3 0x14 [(0x10, 0, 4)]) worldV ∧
    Served cmdSynDebugSet (req 3 0x20 [(0x10, 0, 63), (0x18, 0, 5)]) worldV ∧
    petalDebug (begun cmdSynDebugSet (req 3 0x20 [(0x10, 0, 63), (0x18, 0, 5)]) worldV) 3 = true := by decide +kernel

end Sys2Proof.Tests.Part29

namespace Sys2Proof.Tests.Part30

/-- Petal 3 with two key slots in use and a key session that is established. -/
def sessK : KeySess := ⟨[], none, zeros 32, petal3.bindings, 4, 0⟩
def petalK : Petal := { petal3 with keySlots := [(5, ⟨1, 9, 0, 0, false⟩), (6, ⟨3, 9, 0, 0, false⟩)] }
/-- A blob for slot 7 under sequence number 5, with a CMAC key. -/
def blobHead : List Byte := leBytes 16 (pack [(0, 0, 7), (2, 0, 3), (4, 0, 3), (8, 0, 5)])
def blobK : List Byte :=
  blobHead ++
    leBytes 64 11771284556528002060239950565942554286372118847996321109727247603292089969700870435610945723058238181221159942636711798113454405417296700335299154553669694 ++
    leBytes 16 85006868106116618759837626887007819627 ++ zeros 32
def worldK : State := withBytes { world with petals := [(3, petalK)], keySess := [(3, sessK)], elapsed := 59999999999, pages := [(3, { page0 with lastRenew := 59999999999 })] } 3 0x4000 blobK
def reqInject : Mbx := req 3 0x28 [(0x10, 12, 15), (0x18, 0, 2 ^ 64 - 1), (0x20, 0, 0x4000)]
def reqAttest : Mbx := req 3 0x40 [(0x10, 0, 3), (0x10, 9, 1), (0x10, 12, 15), (0x18, 0, 0x4000), (0x20, 0, 2 ^ 255)]

theorem witness_KeyCommands :
    Served cmdKeyAttest reqAttest worldK ∧ attestCheck (begun cmdKeyAttest reqAttest worldK) reqAttest = none ∧
    bufAddr 0x4000 = .pda 0x4000 ∧ Served cmdKeyCert (req 3 0x20 [(0x10, 12, 15), (0x18, 0, 0x4000)]) worldK ∧
    bufOk worldK 3 15 0x4000 16384 = true ∧ Served cmdKeySessionClose (req 3 0x10 []) worldK ∧ liveKeySession worldK 3 = some sessK ∧
    liveKeySession { worldK with elapsed := 60000000000 } 3 = none ∧ Served cmdKeyDestroy (req 3 0x14 [(0x10, 0, 6)]) worldK ∧
    keyNamed worldK 3 6 = false := by decide +kernel

theorem witness_KeyCommands_inject :
    Served cmdKeyInject reqInject worldK ∧ liveKeySession (begun cmdKeyInject reqInject worldK) 3 = some sessK ∧
    bufRead worldK 3 15 0x4000 128 = blobK ∧ bufWhy worldK 3 15 0x4000 false = none ∧ bufPoison worldK 3 0x4000 128 = false ∧
    blobFormed 3 petalK blobK = true ∧ targetEmpty petalK blobK = true ∧ bSeq blobK = 5 ∧ materialOk 3 (leBytes 64 77) = true := by
  decide +kernel

theorem witness_KeyCommands_open :
    gcmDecrypt (wrapKey sessK []) (leBytes 8 5 ++ zeros 4) (bytesAt blobK 0 16) (bytesAt blobK 0x10 64) (bytesAt blobK 0x50 16) =
      some (leBytes 64 77) := by decide +kernel

theorem witness_KeyQuery :
    Served cmdKeyQuery (req 3 0x18 [(0x10, 0, 0), (0x14, 0, 64)]) worldK ∧ Served cmdKeyQuery (req 3 0x18 [(0x10, 0, 65535), (0x14, 0, 1)]) worldK ∧
    getPetal (begun cmdKeyQuery (req 3 0x18 [(0x10, 0, 0), (0x14, 0, 64)]) worldK) 3 = some petalK ∧
    mf (req 3 0x18 [(0x10, 0, 65535), (0x14, 0, 1)]) 0x14 0 7 = 1 ∧ mf (req 3 0x18 [(0x10, 0, 0), (0x14, 0, 64)]) 0x14 0 7 = 64 := by
  decide +kernel

end Sys2Proof.Tests.Part30

namespace Sys2Proof.Tests.Part31

open Sys2Proof.Tests.Part30

/-- A cipher queue with an offered entry, SHA3-256 of 8 bytes; a CMAC request started and one waiting. -/
def entryC (tag alg : Nat) : Nat := pack [(0, 0, tag), (0, 16, 1), (0, 17, 1), (4, 0, alg), (4, 16, if alg = 7 then 0xFFFF else 6), (8, 0, 8),
  (0x10, 0, 0x1000), (0x18, 0, if alg = 7 then 0x2000 else 2 ^ 64 - 1), (0x20, 0, 2 ^ 64 - 1),
  (0x28, 0, if alg = 5 then 0x2000 else 2 ^ 64 - 1), (0x54, 0, 6), (0x58, 0, 2)]
def ringC : CphQueue := ⟨{ ring0 with sqTail := 2 }, 0⟩
def reqC (tag alg : Nat) (started : Bool) : CphReq := ⟨3, 2, tag, BitVec.ofNat 1024 (entryC tag alg), started, []⟩
def worldQ8 (l : List CphReq) : State :=
  withBytes (withBytes { world with
    petals := [(3, { petalK with tags := [(9, .launch)] })]
    cphQs := [(cphKey 3 2, ringC)]
    cphReqs := l } 3 0x10000 (leBytes 128 (entryC 4 7))) 3 0x1000 (leBytes 8 5)

theorem witness_CipherCommands :
    Served cmdCphQueueCreate (req 3 0x28 [(0x10, 0, 63), (0x10, 8, 4), (0x10, 16, 16), (0x10, 24, 15), (0x14, 0, 0xFFFF), (0x18, 0, 0x40000),
      (0x20, 0, 0x80000)]) world ∧
    overlaps 0x40000 (128 * 2 ^ 4) 0x80000 (32 * 2 ^ 16) = false ∧ bufOk world 3 15 0x80000 (32 * 2 ^ 16) = true ∧
    getCph (awake (worldQ8 [])) 3 2 = some ringC ∧
    Served cmdCphQueueDestroy (req 3 0x14 [(0x10, 0, 2)]) (worldQ8 []) ∧
    Served cmdCphQueueDestroy (req 3 0x14 [(0x10, 0, 2)]) (worldQ8 [reqC 5 5 true]) ∧ rising (worldQ8 []).cphQs = true ∧
    Served cmdCphAbort (req 3 0x14 [(0x10, 0, 2), (0x12, 0, 5)]) (worldQ8 [reqC 5 5 false]) ∧
    findCph (worldQ8 [reqC 5 5 false]) 3 5 = some (reqC 5 5 false) ∧ bufAddr (0x20000 + 32 * 0) = .pda (0x20000 + 32 * 0) := by
  decide +kernel

theorem witness_CipherCourse_accept :
    memNat (fresh (worldQ8 [])) 3 0x10000 128 = entryC 4 7 ∧ poisonIn (worldQ8 []) 3 0x10000 128 = none ∧
    ringFree ringC.ring = true ∧ ringOffered ringC.ring = 2 ∧ ((getPetal (worldQ8 []) 3).bind (fun x => ceCheck (worldQ8 []) ringC 3 x (entryC 4 7))) = none ∧
    ((getPetal (worldQ8 []) 3).bind (fun x => ceCheck (worldQ8 []) ringC 3 x (entryC 9 7))) = some (4, 0x82) := by decide +kernel

theorem witness_CipherCourse_start :
    cphStartable (worldQ8 [reqC 5 5 false]) (reqC 5 5 false) = true ∧ slotKey petalK 6 3 = some ⟨3, 9, 0, 0, false⟩ ∧
    cphStartable (worldQ8 [reqC 5 7 false]) (reqC 5 7 false) = true ∧ slotKey petalK 6 1 = none ∧
    heldBufs (ceReads (entryC 5 5)) = [(0x1000, 8)] ∧ bufAddr 0x1000 = .pda 0x1000 := by decide +kernel

theorem witness_CipherCourse_complete :
    findCph (worldQ8 [reqC 5 7 true]) 3 5 = some (reqC 5 7 true) ∧ dmaPending (worldQ8 [reqC 5 7 true]) 3 5 = false ∧
    dmaFailed (worldQ8 [reqC 5 7 true]) 3 5 = false ∧ bufPoison (worldQ8 []) 3 0x1000 8 = false ∧
    ceAlg (entryC 5 7) = 7 ∧ ceAlg (entryC 5 6) = 6 ∧ heldBufs (ceReads (entryC 5 6)) = [(0x1000, 8)] ∧
    counterFits (0 + ceInc (entryC 5 7)) = true := by decide +kernel

end Sys2Proof.Tests.Part31

namespace Sys2Proof.Tests.Part32

open Sys2Proof.Tests.Part30

/-- A queue pair that is ready. -/
def qp0 (n : Nat) : Qp where
  petal := 3
  num := n
  cfg := 0
  st := .ready
  wireQpn := 16 + n
  startPsn := 0
  remoteQpn := 32 + n
  remoteIp := 1
  sqHead := 0
  sqTail := 0
  rqHead := 0
  rqTail := 0
  wqes := []
  una := 0
  nxt := 0
  top := 0
  high := 0
  window := 65536
  sinceDec := none
  retries := 0
  rnrRetries := 0
  timer := none
  rnrFrom := none
  rnrWait := 0
  ePsn := 0
  msn := 0
  inbound := none
  gapNak := false
  unacked := 0
  unackedAt := none
  lastCnp := none
  owed := []
  resident := true
  lastUse := 0

/-- The request of a communicator of nodes nodes with two local ranks of FP32 elements, and the communicator. -/
def reqComm (nodes : Nat) : Mbx := req 3 0x70 [(0x10, 0, 4), (0x10, 8, 2), (0x14, 0, nodes), (0x1C, 0, 1), (0x1C, 16, 2), (0x20, 0, 0x3000),
  (0x28, 0, 6), (0x28, 16, 0xFFFF), (0x2C, 0, 600000), (0x30, 0, 1), (0x34, 0, 4), (0x34, 8, 4), (0x34, 16, 0xFFFF), (0x38, 0, 0x10000),
  (0x40, 0, 0x20000), (0x50, 0, 2 ^ 64 - 1), (0x58, 0, 2 ^ 21), (0x60, 0, 64)]
/-- The communicator that it makes, with descriptors offered. -/
def commW (st : CommSt) (nodes : Nat) : Comm where
  petal := 3
  num := 4
  req := BitVec.ofNat 768
    (291996199527821012682728423290411563378196680572141416705782908774269116157472647514425968549010702381287911943110509312944486108703127243925204178569006548423711722899915244067616701002410885636 +
      2 ^ 32 * nodes)
  table := if nodes = 1 then [0] else [0, 18446744099479355397]
  st := st
  since := 0
  ring := { Ring.new 4 4 0x10000 0x20000 0xFFFF with sqTail := 3 }
  opSeq := 8
  joins := []
  steps := []
/-- Entry 1 of the node table: data QP 5, control QP 6, communicator 1 there. -/
def tableB : List Byte := leBytes 16 0 ++ leBytes 16 (pack [(0, 0, 5), (4, 0, 6), (8, 0, 1)])
def worldO (st : CommSt) (nodes : Nat) (l : List ColOp) : State :=
  let s := withBytes { world with
    petals := [(3, { petalK with tags := [(9, .launch)], counters := [(6, 4)] })]
    rdma := { Rdma.new with qps := [(qpKey 3 5, qp0 5), (qpKey 3 6, qp0 6)] }
    nibs := []
    launches := [launch9]
    colOps := l } 3 0x3000 tableB
  { s with comms := [(commKey 3 4, commW st nodes)] }

theorem witness_Communicators :
    Served cmdCommCreate (reqComm 1) { worldO .ready 1 [] with comms := [] } ∧
    (let b := fresh (begun cmdCommCreate (reqComm 1) { worldO .ready 1 [] with comms := [] }); commCheck b petalK (commOf b (reqComm 1))) = none ∧
    Served cmdCommCreate (reqComm 2) { worldO .ready 1 [] with comms := [] } ∧
    (let b := fresh (begun cmdCommCreate (reqComm 2) { worldO .ready 2 [] with comms := [] }); commCheck b petalK (commOf b (reqComm 2))) = none ∧
    cNodes (commOf (worldO .ready 1 []) (reqComm 2)) = 2 := by decide +kernel

/-- ALL_GATHER, BROADCAST and ALL_REDUCE of four elements, by number. -/
def descO (tag op : Nat) : Nat :=
  (if op = 3 then pack [(4, 0, 3), (0x10, 0, 1), (0x40, 0, 2 ^ 64 - 1)] else pack [(4, 0, op), (0x40, 0, 0x4000)]) + pack [(0, 0, tag), (0, 16, 1), (0, 17, 1),
    (8, 0, 4), (0x28, 0, 6), (0x2C, 0, 5), (0x48, 0, 0x5000), (0x50, 0, 0x6000), (0x58, 0, 0x7000)] + (2 ^ 768 - 1) * 2 ^ 768
def opO (tag op : Nat) (started : Option W64) : ColOp := ⟨3, 4, tag, 7, BitVec.ofNat 2048 (descO tag op), started, 0, none⟩

theorem witness_Communicators_end :
    Served cmdCommDestroy (req 3 0x14 [(0x10, 0, 4)]) (worldO .ready 1 []) ∧
    Served cmdCommDestroy (req 3 0x14 [(0x10, 0, 4)]) (worldO .broken 1 [opO 5 2 (some 0)]) ∧ rising (worldO .ready 1 []).comms = true ∧
    opsOf (worldO .ready 1 [opO 5 2 none]) 3 4 = [opO 5 2 none] ∧
    Served cmdColAbort (req 3 0x14 [(0x10, 0, 4), (0x12, 0, 5)]) (worldO .ready 1 [opO 5 2 none]) ∧
    findOp (worldO .ready 1 [opO 5 2 none]) 3 5 = some (opO 5 2 none) ∧ (getComm (awake (worldO .ready 1 [])) 3 4).isSome = true ∧
    (0 : W64).toNat * 10 + cJoinMs (commOf world (reqComm 2)) * 1000000 ≤ (60000000000 : W64).toNat * 10 := by decide +kernel

/-- Node 1's JOIN and BROKEN. -/
def joinB : BitVec 704 :=
  42749768894675472569118456282011821333637197482692898877239575684559591159176593931418526213103466818975649047658587111204747488162496732383570197115632734703399937779408443254562527233265091227007035109953188185
def brokenB : BitVec 448 :=
  439864152251403020777097441352743624473384191066812623722760350000649373428593115699525381037683760710586171898867067458238703596679513
def commB : Comm := commW .joining 2

theorem witness_Communicators_join :
    let c := commW .joining 2
    getComm (worldO .joining 2 []) 3 4 = some c ∧
    mgComm joinB.toNat = 4 ∧ c.petal = 3 ∧ c.num = 4 ∧ c.st = .joining ∧ fromPeer c joinB.toNat 6 = true ∧ colHeaderOk joinB.toNat 1 0x58 = true ∧
    mgF joinB.toNat 0x20 0 32 = joinParams c ∧ mgF joinB.toNat 0x24 0 17 = cNodes c ∧ mgF joinB.toNat 0x28 48 16 = 0 ∧
    (put c.joins (mgNode joinB.toNat) joinB).length + 1 = cNodes c := by decide +kernel

theorem witness_Communicators_joinMac :
    cmac (joinKey (worldO .joining 2 []) commB) (macBytes joinB.toNat 0x58) = msgMac joinB.toNat 0x58 := by decide +kernel

theorem witness_Communicators_broken :
    let c := commW .ready 2
    getComm (worldO .ready 2 []) 3 4 = some c ∧
    mgComm brokenB.toNat = 4 ∧ c.st = .ready ∧ c.ring.closing = false ∧ fromPeer c brokenB.toNat 6 = true ∧
    colHeaderOk brokenB.toNat 2 0x38 = true ∧ mgF brokenB.toNat 0x24 0 32 = 0 := by decide +kernel

theorem witness_Communicators_brokenMac :
    cmac (joinKey (worldO .ready 2 []) commB) (macBytes brokenB.toNat 0x38) = msgMac brokenB.toNat 0x38 := by decide +kernel

def worldOD (st : CommSt) (tag op : Nat) : State := withBytes (worldO st 1 []) 3 0x10000 (leBytes 256 (descO tag op))
theorem witness_CollectiveCourse_accept :
    let s := worldOD .ready 5 2
    let c := commW .ready 1
    getComm s 3 4 = some c ∧
    memNat (fresh s) 3 (c.ring.sqPda + 256 * c.ring.sqHead) 256 = descO 5 2 ∧ poisonIn s 3 0x10000 256 = none ∧ ringOffered c.ring = 3 ∧
    ringFree c.ring = true ∧ keyPresent s 3 = true ∧ colCheck s c { petalK with tags := [(9, .launch)] } (descO 5 2) = none ∧
    colCheck s c { petalK with tags := [(9, .launch)] } (descO 9 2) = some (4, 0xC2) ∧ opsOf s 3 4 = [] := by decide +kernel

theorem witness_CollectiveCourse_start :
    let s := worldO .ready 1 [opO 5 0 none]
    let c := commW .ready 1
    findOp s 3 5 = some (opO 5 0 none) ∧ opStartable s c (opO 5 0 none) = true ∧ badSteps c (opO 5 0 none) = false ∧ reducing s 3 4 = [] ∧
    commCores s c = [1, 2] ∧ coreTaken s c 1 = false ∧ (sendBufs c (descO 5 0)).map (·.2.1) = [0x4000, 0x6000] := by decide +kernel

theorem witness_CollectiveCourse_complete :
    (let s := worldO .ready 1 [opO 5 2 (some 0)]
     let c := commW .ready 1
     opTrouble s c (opO 5 2 (some 0)) = none ∧ dmaPending s 3 5 = false ∧ cNodes c = 1 ∧ cMe c = 0) ∧
    (let s := worldO .ready 1 [opO 5 3 (some 0)]
     opTrouble s (commW .ready 1) (opO 5 3 (some 0)) = none) ∧
    (let s := worldO .ready 1 [opO 5 0 (some 0)]
     opTrouble s (commW .ready 1) (opO 5 0 (some 0)) = none ∧
     (0 : W64).toNat * 10 + cOpMs (commW .ready 1) * 1000000 ≤ (100000 : W64).toNat * 10) := by decide +kernel

/-- STEP messages of node 1 for operation 7, an ALL_GATHER, and for operation 8. -/
def stepB (seq op : Nat) : BitVec 832 := BitVec.ofNat 832 (pack [(0, 0, magicCol), (4, 0, 3), (5, 0, 1), (6, 0, 0x68), (8, 0, 1), (8, 23, 4),
  (0x10, 0, seq), (0x20, 0, op), (0x20, 8, 3), (0x28, 0, 4), (0x40, 0, 64)])
theorem witness_CollectiveCourse_step :
    let c := commW .ready 2
    mgComm (stepB 7 2).toNat = 4 ∧ colHeaderOk (stepB 7 2).toNat 3 0x68 = true ∧ stepFormed c (stepB 7 2).toNat = true ∧
    fromPeer c (stepB 7 2).toNat 6 = true ∧ stepAgrees c (descO 5 2) (stepB 7 2).toNat = true ∧
    stepAgrees c (descO 5 2) (stepB 7 3).toNat = false ∧ cWireSlot c = 0xFFFF ∧ c.opSeq ≤ mgSeq (stepB 8 2).toNat := by decide +kernel

end Sys2Proof.Tests.Part32

namespace Sys2Proof.Tests.Part33

open Sys2Proof.Tests.Part30 Sys2Proof.Tests.Part32

/-- The fields of a context with one KV head of 64 E4M3 elements, 64 page slots, and a spill region of two pages. -/
def ctxFlds : List (Nat × Nat × Nat) := [(0x10, 0, 2), (0x14, 0, 1), (0x14, 8, 1), (0x14, 16, 1), (0x1C, 0, 4), (0x20, 0, 0), (0x20, 16, 1),
  (0x28, 0, 2 ^ 21), (0x30, 0, 2), (0x34, 0, 99), (0x34, 8, 100), (0x34, 16, 4), (0x38, 0, 0), (0x40, 0, 0), (0x48, 0, 73728)]
def reqCtx : Mbx := req 3 0x60 (ctxFlds.map (fun f => if f.1 = 0x38 then (0x38, 0, 0xFFFFFFFF) else if f.1 = 0x34 ∧ f.2.1 = 0 then (0x34, 0, 0) else f))
/-- A sequence of 300 tokens, its pages in slots 5 and 6. -/
def seqA : AtnSeq := ⟨1000, true, false, [(0, 300)], [(0, .arena 5), (1, .arena 6)], [7], none, false⟩
def seqB : AtnSeq := ⟨1000, true, false, [(0, 10)], [(0, .arena 5)], [], none, false⟩
def ringA : AtnRing := ⟨{ ring0 with sqTail := 2 }, 0xF, 256, 9, 0, []⟩
def ctxA (q : AtnSeq) (spilling : List SpillWrite) : AtnCtx :=
  ⟨3, 2, BitVec.ofNat 640 (pack (ctxFlds.map (fun f => (f.1 - 16, f.2)))), [(1, q)], [(3, ringA)], spilling, false⟩
def hdrA (op count timeout : Nat) : Nat := pack [(0, 0, 5), (0, 16, 1), (4, 0, op), (4, 4, if op = 0 then 1 else 0), (8, 0, 1), (0x18, 0, count),
  (0x1C, 0, timeout), (0x20, 0, 0x4000), (0x28, 0, 0x5000)]
def entryA (op count : Nat) (started : Option W64) : AtnEntry :=
  ⟨3, 2, 3, 5, 0, BitVec.ofNat 1024 (hdrA op count (if op = 0 then 1 else 0)), leBytes 128 0, false, started, 300, [], [0], 0, none⟩
def worldA (q : AtnSeq) (w : List SpillWrite) (es : List AtnEntry) : State :=
  { world with
    petals := [(3, { petal3 with keySlots := [(4, ⟨1, 9, 0, 6, false⟩)] })]
    launches := []
    nibs := []
    atnEntries := es
    ctxs := [(ctxKey 3 2, ctxA q w)]
    elapsed := 100000 }

theorem witness_AttentionCommands :
    Served cmdAtnCtxCreate reqCtx { worldA seqA [] [] with ctxs := [] } ∧
    ctxCheck { worldA seqA [] [] with ctxs := [] } ⟨3, 2, BitVec.ofNat 640 reqCtx.payload.toNat, [], [], [], false⟩ petal3 = none ∧
    Served cmdAtnCtxDestroy (req 3 0x14 [(0x10, 0, 2)]) (worldA seqA [] []) ∧ rising (worldA seqA [] []).ctxs = true ∧
    Served cmdAtnRingCreate (req 3 0x30 [(0x10, 0, 2 + 15 * 16), (0x10, 8, 4), (0x10, 16, 16), (0x14, 0, 0xFFFF), (0x14, 16, 15), (0x18, 0, 128),
      (0x1C, 0, 63), (0x20, 0, 0x10000), (0x28, 0, 0x800000)]) (worldA seqA [] []) ∧
    ringGeometry (ctxA seqA []) petal3 4 16 0x10000 0x800000 128 = true ∧ recCounters petal3.record = 64 ∧
    Served cmdAtnRingDestroy (req 3 0x14 [(0x10, 0, 2 + 3 * 16)]) (worldA seqA [] []) ∧
    Served cmdAtnRingDestroy (req 3 0x14 [(0x10, 0, 2 + 3 * 16)]) (worldA seqA [] [entryA 1 0 (some 0)]) ∧
    Served cmdAtnSeqCreate (req 3 0x1C [(0x10, 0, 2), (0x14, 0, 3), (0x18, 0, 1048576), (0x18, 21, 1)]) (worldA seqA [] []) ∧
    Served cmdAtnSeqCreate (req 3 0x1C [(0x10, 0, 2), (0x14, 0, 1), (0x18, 0, 1)]) (worldA { seqA with destroying := true } [] []) ∧
    xMaxSeqs (ctxA seqA []) = 4 := by decide +kernel

theorem witness_AttentionCommands_end :
    Served cmdAtnSeqDestroy (req 3 0x18 [(0x10, 0, 2), (0x14, 0, 1)]) (worldA seqA [] []) ∧
    Served cmdAtnSeqDestroy (req 3 0x18 [(0x10, 0, 2), (0x14, 0, 1)]) (worldA seqA [] [entryA 0 0 (some 0)]) ∧
    aeSeq (eh (entryA 0 0 (some 0))) = 1 ∧ Served cmdAtnAbort (req 3 0x14 [(0x10, 0, 2 + 3 * 16), (0x12, 0, 5)]) (worldA seqA [] [entryA 0 0 none]) ∧
    (ringEntries (worldA seqA [] [entryA 0 0 none]) 3 2 3).find? (fun e => e.tag == 5) = some (entryA 0 0 none) ∧
    (begun cmdAtnAbort (req 3 0x14 [(0x10, 0, 2 + 3 * 16), (0x12, 0, 5)]) (worldA seqA [] [entryA 0 0 none])).waiters = [] := by decide +kernel

theorem witness_AttentionCourse_accept :
    let s := withBytes (worldA seqA [] []) 3 0x10000 (leBytes 128 (hdrA 0 0 1))
    memNat (fresh s) 3 0x10000 128 = hdrA 0 0 1 ∧ poisonIn s 3 0x10000 128 = none ∧ poisonIn s 3 0x10080 128 = none ∧
    atnCheck s (ctxA seqA []) ringA { petal3 with keySlots := [(4, ⟨1, 9, 0, 6, false⟩)] } (hdrA 0 0 1) = none ∧ ringOffered ringA.ring = 2 ∧
    ringFree ringA.ring = true ∧ (atnCheck s (ctxA seqA []) ringA petal3 (hdrA 3 0 1)).isSome = true := by decide +kernel

theorem witness_AttentionCourse_start :
    let s := worldA seqA [] [entryA 0 0 none]
    findAtn s 3 5 = some (entryA 0 0 none) ∧ atnStartable s (ctxA seqA []) (entryA 0 0 none) = true ∧ neededPages (hdrA 0 0 1) 300 = [0, 1] ∧
    look seqA.pages (pageKey 0 1) = some (.arena 6) ∧ poisonIn s 3 (slotPda (ctxA seqA []) 6) 512 = none ∧
    atnStartable (worldA seqA [] [entryA 1 0 none]) (ctxA seqA []) (entryA 1 0 none) = true := by decide +kernel

theorem witness_AttentionCourse_complete :
    atnCanEnd (worldA seqA [] [entryA 2 256 (some 0)]) (ctxA seqA []) (entryA 2 256 (some 0)) = true ∧
    atnCanEnd (worldA seqA [] [entryA 1 1 (some 0)]) (ctxA seqA []) (entryA 1 1 (some 0)) = true ∧
    atnCanEnd (worldA seqA [] [entryA 0 0 (some 0)]) (ctxA seqA []) (entryA 0 0 (some 0)) = true ∧
    bufPoison (worldA seqA [] []) 3 0x4000 (1 * xToken (ctxA seqA [])) = false ∧
    slotsNeeded (ctxA seqA []) seqA 0 1 ≤ freeSlotCount (worldA seqA [] []) (ctxA seqA []) ∧ tailSpilled seqA 0 1 = none ∧
    bufAddr 0x5000 = .pda 0x5000 ∧ (0 : W64).toNat * 10 + aeTimeout (hdrA 0 0 1) * 1000000 ≤ (worldA seqA [] []).elapsed.toNat * 10 := by
  decide +kernel

theorem witness_AttentionCourse_spill :
    spillDue (worldA seqB [] []) (ctxA seqB []) = true ∧ (usedSpill (ctxA seqB [])).length < xSpillSlots (ctxA seqB []) ∧
    spillRoom (worldA seqB [⟨1, 0, 5, 1, []⟩] []) (ctxA seqB [⟨1, 0, 5, 1, []⟩]) ⟨1, 0, 5, 1, []⟩ = true ∧
    (spillSeqs (worldA seqB [] []) (ctxA seqB [])).map (·.1) = [1] := by decide +kernel

end Sys2Proof.Tests.Part33

namespace Sys2Proof.Tests.Part34

open Sys2Proof.Tests.Part30 Sys2Proof.Tests.Part32

/-- A volume of one extent whose cache of 64 MiB holds blocks 7 and 9. -/
def volA : Vol where
  petal := 3
  num := 2
  req := BitVec.ofNat 256 (pack [(0, 0, 2), (0, 8, 1), (0, 16, 4), (4, 0, 64), (8, 0, 2 ^ 21), (0x10, 0, 0x3000), (0x18, 0, 10), (0x18, 16, 20), (0x1C, 0, 1),
    (0x1C, 8, 0)])
  exts := [BitVec.ofNat 512 (pack [(0, 0, 5), (0x10, 0, 1000)])]
  connecting := false
  closing := false
  since := 0
  cache := [(7, ⟨0, false, 1⟩), (9, ⟨1, true, 0⟩)]
  clock := 2
  failedAt := none
  failures := 0
  level := 0
  idleAt := 0
  keptAt := 0
  test := none
  target := []
def sqpA : SclQp := ⟨3, 6, 0xF, { ring0 with sqTail := 2 }, false, none⟩
/-- An entry: operation and tag. -/
def entryS (tag op : Nat) : Nat :=
  pack [(0, 0, op), (0, 16, tag), (4, 0, if op = 6 then 0 else 2), (8, 0, if op = 6 ∨ op = 3 then 0 else 7), (0x10, 0, if op = 6 ∨ op = 3 then 0 else 1),
    (0x18, 0, if op = 1 ∨ op = 2 then 0x4000 else 0), (0x20, 0, if op = 5 then 9 else 0)]
def cmdS (tag op : Nat) (begun : Option W64) : SclCmd := ⟨3, 6, tag, 0, BitVec.ofNat 512 (entryS tag op), begun⟩
def worldS (v : Vol) (q : SclQp) (l : List SclCmd) : State :=
  { world with
    petals := [(3, { petal3 with keySlots := [(4, ⟨2, 9, 0, 6, false⟩)] })]
    rdma := { Rdma.new with qps := [(qpKey 3 5, qp0 5)] }
    sclQps := [(sclKey 3 6, q)]
    vols := [(volKey 3 2, v)]
    sclCmds := l
    elapsed := 2000000
    pages := [(3, { page0 with lastRenew := 2000000 })] }

theorem witness_ScrollQueues :
    Served cmdSclQpCreate (req 3 0x28 [(0x10, 0, 7), (0x10, 16, 15), (0x14, 0, 4), (0x14, 8, 16), (0x14, 16, 0xFFFF), (0x18, 0, 0x40000),
      (0x20, 0, 0x80000)]) (worldS volA sqpA []) ∧
    sclRingsFit (req 3 0x28 [(0x10, 0, 7), (0x10, 16, 15), (0x14, 0, 4), (0x14, 8, 16), (0x14, 16, 0xFFFF), (0x18, 0, 0x40000),
      (0x20, 0, 0x80000)]) = true ∧ recScroll petal3.record = 8 ∧
    Served cmdSclQpDestroy (req 3 0x14 [(0x10, 0, 6)]) (worldS volA sqpA []) ∧ rising (worldS volA sqpA []).sclQps = true ∧
    Served cmdSclQpDestroy (req 3 0x14 [(0x10, 0, 6)]) (worldS volA sqpA [cmdS 5 2 (some 0)]) ∧ scOp (cmdS 5 2 (some 0)) = 2 ∧
    getScl (awake (worldS volA sqpA [])) 3 6 = some sqpA ∧ Served cmdSclAbort (req 3 0x18 [(0x10, 0, 6), (0x14, 0, 5)]) (worldS volA sqpA [cmdS 5 2 none]) ∧
    (sclOf (worldS volA sqpA [cmdS 5 2 none]) 3 6).find? (fun c => c.tag == 5) = some (cmdS 5 2 none) ∧
    testWithTag (worldS { volA with test := some ⟨5, 1, false⟩ } sqpA []) 3 5 = some { volA with test := some ⟨5, 1, false⟩ } ∧
    Served cmdSclAbort (req 3 0x18 [(0x10, 0, 0xFFF), (0x14, 0, 5)]) (worldS { volA with test := some ⟨5, 1, false⟩ } sqpA []) := by
  decide +kernel

/-- The queue pair frozen at its first command. -/
def sqpF : SclQp := { sqpA with frozen := true, log := some ⟨0, 5, 4, 0x85, 1, 7, [(0, 5, 1, 3)]⟩, ring := { sqpA.ring with sqHead := 1 } }
theorem witness_ScrollQueues_frozen :
    Served cmdSclGetLog (req 3 0x20 [(0x10, 0, 6), (0x18, 0, 0x4000)]) (worldS volA sqpF []) ∧
    (logPage (worldS volA sqpF []) sqpF).length = 72 ∧ memOpen (worldS volA sqpF []) 3 0x4000 72 = true ∧
    Served cmdSclRestart (req 3 0x14 [(0x10, 0, 6), (0x10, 16, 2)]) (worldS volA sqpF []) ∧
    (2 + 2 ^ sqpF.ring.sqLog - sqpF.ring.sqHead) % 2 ^ sqpF.ring.sqLog ≤ ringOffered sqpF.ring ∧
    Served cmdSclRestart (req 3 0x14 [(0x10, 0, 6), (0x10, 16, 2)]) (worldS volA sqpF [cmdS 6 2 (some 0)]) ∧
    Served cmdSclRestart (req 3 0x14 [(0x10, 0, 6), (0x10, 16, 0)]) (worldS volA sqpA []) ∧
    Served cmdSclIdentify (req 3 0x14 [(0x10, 0, 2)]) (worldS volA sqpA []) ∧ volReady volA = true ∧
    Served cmdSclIdentify (req 3 0x14 [(0x10, 0, 0xFF)]) (worldS volA sqpA []) := by decide +kernel

theorem witness_ScrollCommands_accept :
    let s := withBytes (worldS volA sqpA []) 3 0x10000 (leBytes 64 (entryS 5 1))
    let x := { petal3 with keySlots := [(4, ⟨2, 9, 0, 6, false⟩)] }
    memNat (fresh s) 3 0x10000 64 = entryS 5 1 ∧ poisonIn s 3 0x10000 64 = none ∧ sclCheck s sqpA x (entryS 5 1) = none ∧
    sclCheck s sqpA x (entryS 5 7) = some (4, 0x95) ∧ ringFree sqpA.ring = true ∧ ringOffered sqpA.ring = 2 ∧
    sclMayBegin (worldS volA sqpA [cmdS 5 2 none]) (cmdS 5 2 none) = true ∧ seBuf (entryS 5 2) = 0x4000 := by decide +kernel

theorem witness_ScrollCommands_complete :
    fenceDone (worldS volA sqpA [cmdS 5 6 none]) (cmdS 5 6 none) = true ∧
    [1, 2, 3, 4, 5].all (fun op => sclCanEnd (worldS volA sqpA [cmdS 5 op (some 0)]) (cmdS 5 op (some 0)) volA &&
      sclTrouble (worldS volA sqpA [cmdS 5 op (some 0)]) (cmdS 5 op (some 0)) sqpA volA true == none) = true ∧
    rising volA.cache = true ∧ look volA.cache 9 = some ⟨1, true, 0⟩ ∧ needsTarget volA (entryS 5 4) = true := by decide +kernel

def extTable : List Byte := leBytes 64 (pack [(0, 0, 5), (0x10, 0, 1000), (0x18, 0, 0x6000), (0x20, 0, 0x7000)])
def reqVol : Mbx := req 3 0x30 [(0x10, 0, 2), (0x10, 8, 1), (0x10, 16, 4), (0x14, 0, 64), (0x18, 0, 2 ^ 21), (0x20, 0, 0x3000), (0x2C, 0, 1)]
def worldVC : State := withBytes { worldS volA sqpA [] with vols := [] } 3 0x3000 extTable
theorem witness_Volumes_create :
    Served cmdSclVolCreate reqVol worldVC ∧
    (let b := fresh (begun cmdSclVolCreate reqVol worldVC)
     let v := volIn b reqVol
     volCheck b v { petal3 with keySlots := [(4, ⟨2, 9, 0, 6, false⟩)] } = none ∧
       (match (pinRange (touch b 3 (vTable v) 64) 3 [1] 2).2 with | .reply r => r.status == 0 | _ => true) = true) := by decide +kernel

theorem witness_Volumes :
    Served cmdSclVolDestroy (req 3 0x14 [(0x10, 0, 2)]) (worldS volA sqpA []) ∧
    Served cmdSclVolDestroy (req 3 0x14 [(0x10, 0, 2)]) (worldS volA sqpA [cmdS 5 1 none]) ∧
    (0 : W64).toNat * 10 + 10000000000 ≤ (1000000000 : W64).toNat * 10 ∧
    destageDue (worldS { volA with req := volA.req &&& ~~~(0xFF : BitVec 256) <<< 224 } sqpA []) { volA with req := volA.req &&& ~~~(0xFF : BitVec 256) <<< 224 } = true ∧
    (dirtyBlocks (worldS volA sqpA []) volA).take (destageCount volA) = [9] ∧ backed (worldS volA sqpA []) volA = true ∧
    vW2 volA = 20 ∧ (0 : W64).toNat * 10 + vW2 volA * 1000000 ≤ (worldS volA sqpA []).elapsed.toNat * 10 ∧
    Served cmdSclSelfTest (req 3 0x14 [(0x10, 0, 2), (0x10, 8, 2)]) (worldS volA sqpA []) ∧
    Served cmdSclSelfTest (req 3 0x14 [(0x10, 0, 2), (0x10, 8, 1)]) (worldS { volA with test := some ⟨5, 1, false⟩ } sqpA []) ∧
    (worldS volA sqpA []).poison = [] ∧ (worldS volA sqpA []).unitFailed = [] := by decide +kernel

end Sys2Proof.Tests.Part34

namespace Sys2Proof.Tests.Part35

open Sys2Proof.Tests.Part32

/-- Port 2 is up; rule 9 drops frames of type 0x1234 on every port. -/
def rule9 (act : Nat) : BitVec 1024 := BitVec.ofNat 1024 (pack [(0, 0, 1), (4, 0, 0xFFFFFFFF), (0x10, 0, 0x1234), (0x40, 0, 0xFFFF), (0x70, 0, act)])
def portN : NetPort := { NetPort.new with link := 2, lanes := 4 }
def worldN (x : NetPort) (act : Nat) : State :=
  { world with
    net := { Net.new with ports := [(2, x)], rules := [(9, rule9 act)] }
    elapsed := 100000 }
/-- A frame of a type. -/
def frameN (etype : Nat) (body : List Byte) : List Byte :=
  let f := beB 6 1 ++ beB 6 2 ++ beB 2 etype ++ body
  let f := f ++ List.replicate (60 - f.length) 0
  f ++ leBytes 4 (crc32 f)
def frameSound (f : List Byte) : Bool :=
  decide (64 ≤ f.length ∧ f.length ≤ 9600 ∧ leNat (f.drop (f.length - 4)) = crc32 (f.take (f.length - 4)))
def badIp : List Byte := frameN 0x0800 (beB 1 0x35)
def optIp : List Byte := frameN 0x0800 (beB 1 0x46 ++ beB 1 0 ++ beB 2 24 ++ beB 6 0 ++ beB 2 (csum (0x4600 + 24 + 0x0102)) ++ beB 4 0 ++ beB 4 0 ++ beB 4 0x0102)
def roceN : List Byte := frameN 0x0800 (ipPacket false 1 2 17 0 64 (beB 2 0xC000 ++ beB 2 4791 ++ beB 2 24 ++ beB 2 0 ++ beB 16 0))

theorem witness_FramesReceived :
    (getPort (worldN portN 1) 2).link = 2 ∧ ¬(leNat ((List.replicate 64 (0 : Byte)).drop 60) = crc32 ((List.replicate 64 (0 : Byte)).take 60)) ∧
    frameSound (frameN 0x8808 (beB 2 1)) = true ∧ beAt (frameN 0x8808 (beB 2 1)) 14 2 = 1 ∧
    frameSound badIp = true ∧ (parseFrame badIp).malformed = true ∧ frameSound optIp = true ∧ (parseFrame optIp).malformed = false ∧
    (parseFrame optIp).slow = true ∧ frameSound roceN = true ∧ (parseFrame roceN).roce = true ∧ (parseFrame roceN).malformed = false ∧
    (parseFrame (frameN 0x88F7 [])).ptp = true ∧ slowKind (parseFrame (frameN 0x0806 [])) = true ∧ slowKind (parseFrame (frameN 0x1234 [])) = false ∧
    (parseFrame roceN).slow = false := by decide +kernel

theorem witness_FramesReceived_rules :
    let f := frameN 0x1234 []
    let p := parseFrame f
    classify [(9, rule9 1)] [] 0 2 f p 0x1FF = some (9, 1) ∧ classify [(9, rule9 1)] [] 0 2 (frameN 0x1235 []) (parseFrame (frameN 0x1235 [])) 0x1FF = none ∧
    ruleMatches [] (rule9 1).toNat 0 2 (frameKey f p 0x1FF) p = true ∧
    Served cmdNetPortQuery (req 512 0x14 [(0x10, 0, 2)]) (worldN portN 1) ∧ Served cmdPrsRuleGet (req 512 0x14 [(0x10, 0, 9)]) (worldN portN 1) := by
  decide +kernel

/-- A port whose gate list opens queue 0 for 100 ns and then every queue. -/
def gateN : GateList := ⟨[(1, 100), (0xFFFF, 64)], 0, 1000⟩
def frameT : TxFrame := ⟨3, List.replicate 64 0⟩
def limN : Limiter := ⟨true, 1000, 9620, 0, [⟨2, 4, frameT, false⟩]⟩
def worldT (q : Nat) (e : EgressQ) : State := worldN { portN with egress := modV portN.egress q (fun _ => e) } 1

theorem witness_PortCourse :
    ethRefGood (worldN { portN with link := 1 } 1) = true ∧ (worldN portN 1).net.mode = 1 ∧ bitsOf 2 (1 * 2) 2 = 0 ∧ bitAt 4 2 = true ∧
    (worldN { portN with ptp := true, gate := some gateN } 1).elapsed = 100000 ∧
    portNs (worldN { portN with gate := some gateN } 1) { portN with gate := some gateN } = 1000000 ∧
    egressRoom (worldN portN 1) 2 4 = true ∧ limN.tat ≤ 1000000000 + limN.burst * 8000000 / limN.rate ∧
    1000000000 + limN.burst * 8000000 / limN.rate < { limN with tat := 2000000000 }.tat ∧ sendRoom (worldN portN 1) 2 0 = true ∧
    slowReply (worldN portN 1) 2 [] = none ∧ (worldN portN 1).rdma.qps = [] ∧
    (getPort (worldT 4 ⟨[frameT], 160, 0, 0, 0, 0, 0⟩) 2).egress.toList[4]? = some ⟨[frameT], 160, 0, 0, 0, 0, 0⟩ := by decide +kernel

end Sys2Proof.Tests.Part35

namespace Sys2Proof.Tests.Part36

open Sys2Proof.Tests.Part32

/-- Queue pair 5 of petal 3: data, control and signal permitted, rings of 16 entries, completion queue 1, path MTU 1,024. -/
def cfgQ : Nat := pack [(0, 0, 5), (4, 0, 1), (4, 12, 15), (4, 16, 4), (4, 20, 4), (4, 27, 7), (8, 16, 8), (0x10, 0, 0x30000), (0x18, 0, 0x38000)]
def qpR : Qp := { qp0 5 with cfg := BitVec.ofNat 256 cfgQ, wireQpn := 0x105, remoteQpn := 0x205, remoteIp := 2, window := 262144 }
/-- A completion queue of 16 entries. -/
def cqR : RdmCq := ⟨BitVec.ofNat 192 (pack [(0, 0, 1), (0, 16, 15), (4, 0, 4), (4, 16, 0xFFFF), (8, 0, 0x40000)]), 0, 0, 0, 1, 0, true⟩
/-- The address entry 0 of port 0: valid, IPv4 address 1, next hop 9. -/
def addrR : BitVec 256 := BitVec.ofNat 256 (pack [(0, 12, 1), (4, 0, 3), (8, 0, 1), (0x18, 0, 9)])
def regionR : Region := ⟨0x4000, 0x4000, true, true, 3, false⟩
def worldR (q : Qp) : State :=
  { world with
    petals := [(3, { petal3 with record := petal3.record ||| (BitVec.ofNat 1024 (pack [(0x14, 0, 64)])) })]
    rdma := { Rdma.new with
      qps := [(qpKey 3 5, q)]
      cqs := [(cqKey 3 1, cqR)]
      regions := [(regionKey 3 0, regionR)]
      labels := [(3, 77)] }
    net := { Net.new with ports := [(0, { NetPort.new with link := 2, lanes := 4 })], addrs := [(0, addrR)] }
    elapsed := 100000 }
def reqQp : Mbx := req 3 0x30 [(0x10, 0, 6), (0x14, 0, 1), (0x14, 12, 15), (0x14, 16, 4), (0x14, 20, 4), (0x14, 27, 7), (0x18, 16, 8), (0x20, 0, 0x50000),
  (0x28, 0, 0x58000)]

theorem witness_QueuePairs :
    Served cmdRdmLabelSet (req 3 0x18 [(0x10, 0, 99)]) (worldR qpR) ∧
    Served cmdRdmCqCreate (req 3 0x20 [(0x10, 0, 2), (0x10, 16, 15), (0x14, 0, 4), (0x14, 16, 0xFFFF), (0x18, 0, 0x60000)]) (worldR qpR) ∧
    bufOk (worldR qpR) 3 15 0x60000 512 = true ∧ Served cmdRdmCqDestroy (req 3 0x14 [(0x10, 0, 1)]) (worldR qpR) ∧ qCq qpR = 1 ∧
    Served cmdRdmQpCreate reqQp (worldR qpR) ∧ (getPetal (worldR qpR) 3).map (qpCreateCheck (worldR qpR) reqQp) = some none ∧
    Served cmdRdmQpConnect (req 3 0x30 [(0x10, 0, 5), (0x14, 0, 7), (0x18, 0, 8), (0x20, 0, 9)]) (worldR { qpR with st := .created }) ∧
    addrV6 (qEntry (worldR qpR) qpR) = false ∧ Served cmdRdmQpDestroy (req 3 0x14 [(0x10, 0, 5)]) (worldR qpR) ∧
    Served cmdRdmQpQuery (req 3 0x14 [(0x10, 0, 5)]) (worldR qpR) ∧ qSq qpR = 16 ∧ qRq qpR = 16 ∧ cqSize cqR = 16 ∧
    getQp (awake (worldR qpR)) 3 5 = some qpR := by decide +kernel

def reqMr : Mbx := req 3 0x24 [(0x10, 0, 2 ^ 21), (0x18, 0, 2 ^ 21 + 64), (0x20, 0, 3)]
theorem witness_MemoryRegions :
    Served cmdRdmMrReg reqMr (worldR qpR) ∧ (getPetal (worldR qpR) 3).map (fun x => placeFits x [1, 2] && !placeMoves x [1, 2]) = some true ∧
    rangePages (2 ^ 21) (2 ^ 21 + 64) = [1, 2] ∧ freeRegion (worldR qpR) 3 = 1 ∧ petalRegions (worldR qpR) 3 = 1 ∧
    Served cmdRdmMrDereg (req 3 0x14 [(0x10, 0, 3)]) (worldR qpR) ∧ regionBusy (worldR qpR) 3 3 = false ∧
    regionBusy (worldR { qpR with inbound := some ⟨true, 0x4000, 3, 64, 0, 0, 0⟩ }) 3 3 = true ∧
    Served cmdRdmMrDereg (req 3 0x14 [(0x10, 0, 4)]) (worldR qpR) ∧ keyAdmits (worldR qpR) qpR 3 0x4000 64 true = true := by decide +kernel

end Sys2Proof.Tests.Part36

namespace Sys2Proof.Tests.Part37

open Sys2Proof.Tests.Part36

/-- A packet of an opcode for queue pair 5, with sequence number and payload. -/
def pktR (opcode psn : Nat) (payload : List Byte) : RocePkt where
  dst := 1
  src := 2
  opcode := BitVec.ofNat 8 opcode
  ackReq := true
  destQp := 0x105
  psn := BitVec.ofNat 24 psn
  ce := false
  icrcOk := true
  addr := 0x4000
  rkey := 3
  dmaLen := BitVec.ofNat 32 payload.length
  imm := 0x53470002
  syndrome := 0
  payload := payload
/-- The module with one packet waiting in ingress queue 2 of port 0. -/
def worldP (q : Qp) (k : RocePkt) : State :=
  let s := worldR q
  { s with net := { s.net with ports := [(0, { NetPort.new with
    link := 2
    lanes := 4
    ingress := modV NetPort.new.ingress 2 (fun g => { g with frames := [⟨80, k⟩] }) })] } }
/-- A WRITE of 64 bytes, or another operation, that has been sent. -/
def wqeR (op : Nat) : Wqe := ⟨BitVec.ofNat 512 (pack [(0, 0, op), (0, 9, 1), (0, 16, 7)]), 7, op, 64, 0x6000, 0x7000, 5, 0, 1, 0, none⟩
def qpS (op : Nat) : Qp := { qpR with wqes := [wqeR op], nxt := 1, top := 1, high := 1, timer := some 99000 }
/-- An entry of the receive ring: 64 bytes at 0x9000 under id 44. -/
def recvR : List Byte := leBytes 32 (pack [(0, 0, 44), (4, 0, 64), (8, 0, 0x9000)])

def arrives (s : State) (kind : PktKind) (q : Qp) : Bool :=
  match headIngress s 0 with
  | some (g, f) =>
    g == 2 && pktKind f.pkt == kind && f.pkt.ce == false && qpOfWire s f.pkt.destQp.toNat == some q && getQp s q.petal q.num == some q &&
    accepts s 0 q f.pkt && q.st == .ready && q.resident && keyPresent s q.petal && q.owed == [] && s.net.rules == [] &&
    qRoom s q && s.rdma.regions.all (fun e => !e.2.closing)
  | none => false

theorem witness_RequestPackets :
    arrives (worldP qpR (pktR 0x0A 0 [1, 2])) .request qpR = true ∧ keyAdmits (worldR qpR) qpR 3 0x4000 2 true = true ∧
    keyAdmits (worldR qpR) qpR 4 0x4000 2 true = false ∧ arrives (worldP qpR (pktR 0x04 0 [1, 2])) .request qpR = true ∧
    arrives (worldP { qpR with rqTail := 1 } (pktR 0x04 0 [1, 2])) .request { qpR with rqTail := 1 } = true ∧
    cqRoom (worldR qpR) 3 1 = true ∧ bufAddr (qRqAddr qpR) = .pda 0x38000 ∧ bufAddr (cqAddr cqR) = .pda 0x40000 ∧
    recvEntry (withBytes (worldR qpR) 3 0x38000 recvR) qpR 0 = leNat recvR ∧ recvOk (worldR qpR) qpR (leNat recvR) = true ∧
    arrives (worldP qpR (pktR 0x0C 0 [1, 2])) .request qpR = true ∧ arrives (worldP qpR (pktR 0x0A 5 [1, 2])) .request qpR = true ∧
    arrives (worldP qpR (pktR 0x05 0 (leBytes 8 9 ++ leBytes 8 77))) .signal qpR = true ∧ qSignal qpR = true ∧
    ((getPetal (worldR qpR) 3).map (fun x => decide (2 < recCounters x.record))) = some true ∧
    accepts (worldR qpR) 0 qpR { pktR 0x0A 0 [] with src := 3 } = false := by decide +kernel

theorem witness_ResponsePackets :
    arrives (worldP (qpS 1) (pktR 0x11 0 [])) .ack (qpS 1) = true ∧ arrives (worldP (qpS 2) (pktR 0x10 0 (zeros 64))) .ack (qpS 2) = true ∧
    (wqeR 1).count = packets (qMtu (qpS 1)) 64 ∧ wRec (wqeR 1) = true ∧ wSig (wqeR 1) = false ∧ wirePsn (qpS 1) 0 = 0 ∧
    arrives (worldP (qpS 1) { pktR 0x11 0 [] with syndrome := 0x60 }) .nak (qpS 1) = true ∧
    arrives (worldP (qpS 1) { pktR 0x11 0 [] with syndrome := 0x21 }) .nak (qpS 1) = true ∧ qRnr (qpS 1) = 0 ∧
    arrives (worldP { qpS 1 with cfg := qpR.cfg ||| (3 <<< 72) } { pktR 0x11 0 [] with syndrome := 0x21 }) .nak { qpS 1 with cfg := qpR.cfg ||| (3 <<< 72) } = true ∧
    qRnr { qpS 1 with cfg := qpR.cfg ||| (3 <<< 72) } = 3 ∧
    arrives (worldP (qpS 1) { pktR 0x11 0 [] with syndrome := 0x62 }) .nak (qpS 1) = true ∧
    arrives (worldP qpR (pktR 0x81 0 [])) .cnp qpR = true := by decide +kernel

end Sys2Proof.Tests.Part37

namespace Sys2Proof.Tests.Part38

open Sys2Proof.Tests.Part36 Sys2Proof.Tests.Part37

/-- The module with a send entry of 64 bytes at the head of queue pair 5. -/
def qpH : Qp := { qpR with sqTail := 1 }
def sendR (op tag : Nat) : List Byte := leBytes 64 (pack [(0, 0, op), (0, 9, 1), (0, 16, tag), (4, 0, 64), (8, 0, 0x6000), (0x10, 0, if op = 1 then 0x7000 else 0),
  (0x18, 0, if op = 1 then 5 else 0)])
def worldH (op tag : Nat) : State := withBytes (worldR qpH) 3 0x30000 (sendR op tag)

theorem witness_RdmaCourse_send :
    (getPetal (worldH 1 7) 3).map (sendReady (fresh (worldH 1 7)) qpH) = some true ∧ bufAddr (qSqAddr qpH) = .pda 0x30000 ∧
    sendEntry (fresh (worldH 1 7)) qpH 0 = leNat (sendR 1 7) ∧ sendEntry (fresh (worldH 1 70)) qpH 0 = leNat (sendR 1 70) ∧
    (getPetal (worldH 1 7) 3).map (fun x => (weCheck (worldH 1 7) qpH x (leNat (sendR 1 7)), weCheck (worldH 1 70) qpH x (leNat (sendR 1 70)))) =
      some (none, some (4, 0x91)) := by decide +kernel

theorem witness_RdmaCourse :
    attemptNs (qpS 1) = 8000 ∧ qRoom (worldR (qpS 1)) (qpS 1) = true ∧ keyPresent (worldR (qpS 1)) 3 = true ∧ (wqeR 1).op = 1 ∧
    (worldR { qpS 1 with rnrFrom := some 98000, rnrWait := 10000, nxt := 0 }).elapsed = 100000 ∧ residents (worldR { qpR with resident := false }) 3 = [] ∧
    ((getPetal (worldR qpR) 3).map (fun x => recQpResident x.record)) = some 16 ∧ evictable (qpS 1) = false := by decide +kernel

end Sys2Proof.Tests.Part38

namespace Sys2Proof.Tests.Part40

theorem leNat_leBytes (n x : Nat) : leNat (leBytes n x) = x % 256 ^ n := by
  induction n generalizing x with
  | zero => simp [leBytes, leNat, Nat.mod_one]
  | succ n ih =>
    rw [leBytes, leNat, ih, BitVec.toNat_ofNat, Nat.pow_succ' (m := 256), Nat.mod_mul]

theorem leBytes_length (n x : Nat) : (leBytes n x).length = n := by
  induction n generalizing x with
  | zero => rfl
  | succ n ih => simp [leBytes, ih]

theorem sha3_length (l : List Byte) : (sha3 l).length = 32 := by
  simp [sha3, leBytes_length, List.length_flatMap] <;> decide

theorem memRead_stored (s : State) (p a : Nat) (bs : List Byte) :
    memRead { s with mem := storeBytes s.mem (memKey p a) bs } p a bs.length = bs := loadBytes_storeBytes _ _ _ _

/-- A well-formed firmware image of 4,097 bytes with security version 1. -/
def imageHead : List Byte := leBytes 64 (pack [(0, 0, 0x57463159), (4, 0, 1), (8, 0, 0x1001), (0xC, 0, 1)])
def image2 : List Byte := imageHead ++ leBytes 32 0x461833964bba0ef570eb75c1d9e67323811bd81fd509ae0febff2d6a06d03e02 ++ zeros 4000 ++ [0]
theorem image2_formed : imageFormed image2 = true := by decide +kernel
theorem image2_digest : (imageDigest image2 == bytesAt image2 0x40 32) = true := by decide +kernel
theorem image2_signed (h : Config.dsaVerify Config.firmwareKey (bytesAt image2 0x40 32) (bytesAt image2 0x60 2420) = true) :
    imageSigned image2 = true := by rw [imageSigned, image2_digest, h]; rfl

/-- A calibration table of 128 bytes with empty sections. -/
def tableHead (serial : Nat) : List Byte := leBytes 16 (pack [(0, 0, 0x4C433159), (4, 0, 1), (8, 0, 128)]) ++ leBytes 8 serial ++
  leBytes 48 (pack ((List.range 6).map (fun i => (8 * i, 0, 0x80)))) ++ zeros 24
def tableI : List Byte := tableHead Config.serial.toNat ++ sha3 (tableHead Config.serial.toNat)
theorem tableI_formed : calFormed 128 tableI = true := by
  have h1 : (tableHead Config.serial.toNat).length = 0x60 := by simp [tableHead, leBytes_length, zeros]
  have h2 : bytesAt tableI 0x60 32 = sha3 (tableHead Config.serial.toNat) := by
    rw [bytesAt, tableI, List.drop_left' h1, List.take_of_length_le (by simp [sha3_length])]
  have h3 : bytesAt tableI 0 0x60 = tableHead Config.serial.toNat := by
    rw [bytesAt, tableI, List.drop_zero, List.take_left' h1]
  have h4 : tableI.drop 0x80 = [] := List.drop_of_length_le (by simp [tableI, h1, sha3_length])
  have h5 : natAt tableI 0x10 8 = Config.serial.toNat := by
    have : bytesAt tableI 0x10 8 = leBytes 8 Config.serial.toNat := rfl
    rw [natAt, this, leNat_leBytes, Nat.mod_eq_of_lt (by have := Config.serial.isLt; omega)]
  unfold calFormed
  rw [h2, h3, h4, h5, List.append_nil]
  simp only [beq_self_eq_true, Bool.and_true]
  rfl

/-- The module with a control petal. -/
def petalC : Petal := { petal3 with control := true }
def worldI : State :=
  { world with
    petals := [(3, petalC)]
    pages := [(3, { page0 with lastRenew := 90000000000 }), (512, { page0 with lastRenew := 90000000000 })]
    logBuf := [⟨4, 9, 1, 1, 0, "x", 0, 0, []⟩]
    logSeq := 5
    elapsed := 90000000000 }
/-- The same with bytes in the control petal's memory. -/
def worldM (bs : List Byte) : State := { worldI with mem := storeBytes worldI.mem (memKey 3 0x4000) bs }

theorem witness_InkstandCommands :
    Served cmdMgtLogRead (req 512 0x28 [(0x10, 0, 3), (0x20, 0, 0x4000)]) worldI ∧ (controlRange worldI 0x4000 64).toOption = some 3 ∧
    Served cmdMgtCalRead (req 512 0x28 [(0x20, 0, 0x4000)]) { worldI with sec := { worldI.sec with calFlash := .written [1] } } ∧
    Served cmdMgtUpdateActivate (req 512 0x10 []) worldI ∧ worldI.ink.update = none ∧ (controlPetal worldI).isSome = true ∧
    (slotOf worldI (updateSlot worldI)).verified = false ∧
    (slotOf { worldI with board := { worldI.board with slot := true } } (updateSlot { worldI with board := { worldI.board with slot := true } })).verified = true ∧
    Served cmdMgtSensorRead (req 512 0x28 [(0x20, 0, 0x4000)]) worldI ∧ (controlRange worldI 0x4000 832).toOption = some 3 ∧
    Served cmdMgtAlertClear (req 512 0x14 [(0x10, 0, 0xFF)]) worldI ∧ Served cmdMgtOutputStatus (req 512 0x20 [(0x18, 0, 1)]) worldI ∧
    Served cmdMgtModuleReset (req 512 0x14 [(0x10, 0, 0x54535252)]) { worldI with petals := [] } ∧
    Served cmdMgtModuleReset (req 512 0x14 [(0x10, 0, 0x54535252)]) worldI := by decide +kernel

def reqTable : Mbx := req 512 0x28 [(0x10, 0, 0x574C4143), (0x18, 0, 128), (0x20, 0, 0x4000)]
theorem tableI_read : memRead (worldM tableI) 3 0x4000 128 = tableI := by
  have h1 : tableI.length = 128 := by simp [tableI, tableHead, leBytes_length, zeros, sha3_length]
  have h := memRead_stored worldI 3 0x4000 tableI
  rwa [h1] at h
theorem witness_InkstandCommands_table :
    Served cmdMgtCalWrite reqTable (worldM tableI) ∧ (controlRange (fresh (begun cmdMgtCalWrite reqTable (worldM tableI))) 0x4000 128).toOption = some 3 ∧
    poisonIn (fresh (begun cmdMgtCalWrite reqTable (worldM tableI))) 3 0x4000 128 = none ∧
    updateWrites (begun cmdMgtCalWrite reqTable (worldM tableI)) = false ∧ calFormed 128 (zeros 128) = false := by decide +kernel

def reqImage : Mbx := req 512 0x28 [(0x18, 0, 4097), (0x20, 0, 0x4000)]
theorem image2_length : image2.length = 4097 := by decide +kernel
theorem worldM_mem (l : List Byte) : (worldM l).mem = storeBytes worldI.mem (memKey 3 0x4000) l := rfl
theorem stage_read : memRead (fresh (begun cmdMgtUpdateStage reqImage (worldM image2))) 3 0x4000 4097 = image2 := by
  have h := begun_mem cmdMgtUpdateStage reqImage (worldM image2) (by decide +kernel)
  rw [worldM_mem] at h
  unfold memRead fresh
  dsimp only
  rw [h, ← image2_length]
  exact loadBytes_storeBytes _ _ _ image2
theorem witness_InkstandCommands_image
    (h : Config.dsaVerify Config.firmwareKey (bytesAt image2 0x40 32) (bytesAt image2 0x60 2420) = true) :
    Served cmdMgtUpdateStage reqImage (worldM image2) ∧
    (imageSource (fresh (begun cmdMgtUpdateStage reqImage (worldM image2))) 0x4000 4097).toOption = some image2 ∧
    imageFail (fresh (begun cmdMgtUpdateStage reqImage (worldM image2))) image2 = none := by
  refine ⟨by decide +kernel, ?_, ?_⟩
  · have h1 : (fresh (begun cmdMgtUpdateStage reqImage (worldM image2))).board.stage ≠ .recovery := by decide +kernel
    have h2 : (controlRange (fresh (begun cmdMgtUpdateStage reqImage (worldM image2))) 0x4000 4097).toOption = some 3 := by decide +kernel
    have h3 : (poisonIn (fresh (begun cmdMgtUpdateStage reqImage (worldM image2))) 3 0x4000 4097).isSome = false := by decide +kernel
    have h4 : memRead (fresh (begun cmdMgtUpdateStage reqImage (worldM image2))) 3 0x4000 4097 = image2 := stage_read
    unfold imageSource
    rw [if_neg h1, if_neg (by decide)]
    cases hc : controlRange (fresh (begun cmdMgtUpdateStage reqImage (worldM image2))) 0x4000 4097 with
    | error e => rw [hc] at h2; cases h2
    | ok c =>
      rw [hc] at h2
      obtain rfl : c = 3 := by cases h2; rfl
      simp only [h3, h4]
      rfl
  · have h1 : (fresh (begun cmdMgtUpdateStage reqImage (worldM image2))).sec.rollback ≤ imageVersion image2 := by decide +kernel
    unfold imageFail
    rw [image2_formed, image2_signed h, if_neg (by decide), if_neg (by decide), if_neg (by omega)]

def pageI : MPage := { page0 with pends := [⟨0, 5, false, 0x100, 0x10, 0, none, .work, none⟩] }
def quillI (st : QuillSt) (crashes : List W64) : State :=
  let s := { worldI with pages := [(3, pageI)] }
  setQuill { s with petals := [(3, { petalC with tags := [(5, .mailbox)] })] } 7 ⟨st, 89000000000, crashes⟩
def readings : SensorReadings := ⟨(List.replicate 96 800).set 5 1530, List.replicate 64 900, List.replicate 11 0, 48000, 10, 480000, false⟩
def energies : EnergyReadings := ⟨1000, (List.replicate 11 0).set 0 600 |>.set 5 300, [], (List.replicate 11 0).set 5 0⟩

theorem witness_InkstandCourse :
    getQuill (quillI .inService [80000000000, 85000000000]) 7 = ⟨.inService, 89000000000, [80000000000, 85000000000]⟩ ∧
    (quillI .inService []).ready = true ∧ (quillI .inService []).board.stage = .service ∧ (quillI .inService []).ink.restarting = none ∧
    (89000000000 : W64).toNat * 10 + 4000000 ≤ (quillI .inService []).elapsed.toNat * 10 ∧
    ((getPetal (quillI (.crashed true) []) 3).map (fun x => look x.tags 5)) = some (some .mailbox) ∧ (getPage (quillI (.crashed true) []) 3).pends ≠ [] ∧
    worldI.ink.refreshed.toNat * 10 + 20000000 ≤ worldI.elapsed.toNat * 10 ∧ readings.temps.length = 96 ∧ worldI.logBuf ≠ [] ∧
    worldI.ink.intervalAt.toNat * 10 + 1000000 ≤ worldI.elapsed.toNat * 10 ∧ railSum energies ≤ energies.input.toNat ∧ rising worldI.petals = true ∧
    worldI.board.raised = false ∧ worldI.ink.quietAt.toNat * 10 + 900000000000 ≤ worldI.elapsed.toNat * 10 := by decide +kernel

end Sys2Proof.Tests.Part40

namespace Sys2Proof.Tests.Part41

/-- The module with nothing running, two sensors read, and petal 3 without its launch. -/
def worldW : State :=
  { world with
    launches := []
    nibs := []
    elapsed := 90000000000
    pages := [(3, { page0 with lastRenew := 90000000000 }), (512, { page0 with lastRenew := 90000000000 })]
    net := { Net.new with ports := [(2, { NetPort.new with link := 2, lanes := 4 })] } }
def withTemps (a b : Nat) : State := { worldW with ink := { worldW.ink with sample := { Sample.none with temps := [BitVec.ofNat 18 a, BitVec.ofNat 18 b] } } }
def reqLevel (kind u level : Nat) : Mbx := req 512 0x1C [(0x10, 0, kind), (0x14, 0, u), (0x18, 0, level)]

theorem witness_PowerLevels_commands :
    Served cmdPwrRateSet (req 512 0x18 [(0x10, 0, 2), (0x14, 0, 1700)]) worldW ∧ Served cmdPwrRateSet (req 512 0x18 [(0x10, 0, 2), (0x14, 0, 17)]) worldW ∧
    Served cmdPwrQuery (req 512 0x18 [(0x10, 0, 1), (0x14, 0, 5)]) worldW ∧ (unitNamed worldW (req 512 0x18 [(0x10, 0, 1), (0x14, 0, 5)])).toOption = some (1, 5) ∧
    Served cmdPwrLevelSet (reqLevel 1 5 2) worldW ∧ (unitNamed worldW (reqLevel 1 5 2)).toOption = some (1, 5) ∧
    unitInSession { worldW with sec := { worldW.sec with sessions := [(512, ⟨3, 90000000000, 60⟩)] } } 1 5 = true ∧
    Served cmdPwrLevelSet (reqLevel 1 5 3) { worldW with sec := { worldW.sec with sessions := [(512, ⟨3, 90000000000, 60⟩)] } } ∧
    Served cmdPwrLevelSet (autoOf (reqLevel 1 5 0)) worldW ∧ Served cmdPwrLevelSet (reqLevel 5 0 0) worldW ∧ Served cmdPwrLevelSet (reqLevel 5 0 2) worldW ∧
    Served cmdPwrLevelSet (reqLevel 5 0 4) worldW ∧ Served cmdPwrLevelSet (reqLevel 5 0 4) { worldW with petals := [] } ∧ heldHbm worldW = 1024 := by
  decide +kernel

theorem witness_PowerLevels :
    unitIdle worldW 1 5 = true ∧ (unitParts 1 5).all (fun e => decide (1 ≤ unitLevel { worldW with pwr := { worldW.pwr with levels := [(20, 1), (21, 1), (22, 1), (23, 1)] } } e.1 e.2)) = true ∧
    unitInSession worldW 1 5 = false ∧ moduleWork worldW = false ∧ entryPending worldW = false ∧
    entryPending { worldW with pages := [(512, { page0 with pends := [⟨0, 5, false, 0x901, 0x1C, 0, none, .powerEntry 5 0, none⟩] })] } = true ∧
    tempOf (withTemps 1600 800) 0 = some 1600 ∧ tempOf (withTemps 1530 800) 0 = some 1530 ∧ tempOf (withTemps 800 (3 * 2 ^ 16)) 1 = none := by decide +kernel

theorem witness_PowerLevels_park : parkFits { worldW with petals := [] } = true := by simp [parkFits, heldHbm]
theorem witness_PowerLevels_noPark :
    parkFits { worldW with unitFailed := (List.range' 8 16).map (fun u => (u, true)) } = false ∧
    Served cmdPwrLevelSet (reqLevel 5 0 3) { worldW with unitFailed := (List.range' 8 16).map (fun u => (u, true)) } := by decide +kernel

end Sys2Proof.Tests.Part41

namespace Sys2Proof.Tests.Part42

open Sys2Proof.Tests.Part32 Sys2Proof.Tests.Part40

/-- The module before power, and at each point of a start. -/
def worldOff : State := State.reset
def worldAux : State :=
  { State.reset with
    elapsed := 2000000
    board := { Board.new with
      stage := .aux
      inputValid := true } }
def worldBoot (second : Bool) : State :=
  { State.reset with
    elapsed := 3000000
    sec := { Sec.new with slotA := ⟨.written image2, true, true⟩ }
    board := { Board.new with
      stage := .booting second
      inputValid := true
      perst := false } }
/-- The module in service at the end of a wait for its reset, with no session and its upstream link up. -/
def worldS : State :=
  { world with
    pages := [(3, page0), (512, page0)]
    elapsed := 1000000
    board := { world.board with resetAt := some 0 } }

theorem witness_StartUp :
    worldOff.board.stage = .off ∧ worldOff.board.inputValid = false ∧ worldOff.board.needReturn = false ∧ worldOff.board.pwrEn = true ∧
    20000000 ≤ worldAux.elapsed.toNat * 10 ∧ worldAux.board.overVoltage = false ∧ worldAux.board.perst = true ∧
    (worldBoot false).elapsed.toNat * 10 < 900000000 ∧ (worldBoot true).board.refUsed ≠ 2 ∧ LogRoom (worldBoot true) ∧
    slotBoots { worldBoot false with sec := { Sec.new with slotA := ⟨.erased, false, false⟩ } } false = false ∧
    started worldS = true ∧ worldS.pwr.module = 0 ∧ worldS.sec.sessions = [] ∧ worldS.sec.d2 = none ∧ worldS.board.perst = false ∧
    (0 : W64).toNat * 10 + 10000000 ≤ worldS.elapsed.toNat * 10 ∧ worldS.board.stage ≠ .off ∧ worldS.board.stage ≠ .tripped ∧ LogRoom worldS ∧
    worldS.board.pwrEn = true ∧ 1840 ≤ (1840 : W16).toInt ∧ (1839 : W16).toInt < 1840 := by decide +kernel

theorem witness_StartUp_ready (h : Config.dsaVerify Config.firmwareKey (bytesAt image2 0x40 32) (bytesAt image2 0x60 2420) = true) :
    slotBoots (worldBoot false) false = true := by
  have hv : (worldBoot false).sec.rollback ≤ imageVersion image2 := by decide +kernel
  have hi : imageBoots (worldBoot false) false = true := by
    show (imageFormed image2 && imageSigned image2 && decide ((worldBoot false).sec.rollback ≤ imageVersion image2)) = true
    rw [image2_formed, image2_signed h, decide_eq_true hv]
    rfl
  show (imageBoots (worldBoot false) false && (!false || _)) = true
  rw [hi]
  rfl

/-- Petal 3 with one page in unit 8. -/
def qpFar : Qp := { qp0 5 with resident := false }
theorem witness_BoardFaults :
    worldS.board.latched.toNat.testBit 8 = false ∧ worldS.board.refGood.toNat.testBit 2 = true ∧ worldS.board.refGood.toNat.testBit 0 = true ∧
    worldS.board.refUsed = 0 ∧ worldS.board.refSel = false ∧ isFailed worldS 9 = false ∧ worldS.petals = [(3, petal3)] ∧ rising petal3.loc = true ∧
    { worldS with board := { worldS.board with refGood := 3 } }.board.refGood.toNat.testBit 2 = false ∧
    getQp { worldS with rdma := { Rdma.new with qps := [(qpKey 3 5, qpFar)] } } 3 5 = some qpFar ∧ qpFar.wqes = [] ∧
    pagesInUnit petal3 20 = [] := by decide +kernel
/-- Petal 3 whose pages but page 5 lie in stack 1, and page 5 in stack 0. -/
def petalOne : Petal :=
  { newPetal State.reset (BitVec.ofNat 1024 (pack [(0, 0, 4), (4, 0, 1)])) false [0, 0, 0, 0] [0, 1, 2, 3] [(1, 0)] [] with loc := [(5, 1029)] }
def worldOne : State :=
  { worldS with
    petals := [(3, petalOne)]
    unitFailed := (List.range' 2 6).map (fun u => (u, true))
    plots := (List.range 75).map (fun q => (128 + q, 4)) }
theorem witness_BoardFaults_page : pagesInUnit petalOne 0 = [5] ∧ isFailed worldOne 0 = false ∧ started worldOne = true ∧ rising petalOne.loc = true := by
  decide +kernel
theorem witness_BoardFaults_frame :
    (tierFrame { worldOne with unitFailed := put worldOne.unitFailed 0 true } hbmUnits).isSome = true := by decide +kernel

end Sys2Proof.Tests.Part42

namespace Sys2Proof.Tests.Part43

/-- The module in service, with a request outstanding through port 1, one that timed out, translations, and an invalidation that waits. -/
def slot1 : Slot :=
  { Slot.new with
    pwren := true
    perst := false
    prsnt := true
    reported := true
    ccEn := true
    abpEn := true
    pdcEn := true
    dllscEn := true
    hpie := true }
def port1 : SwPort :=
  { portUp with
    flit := true
    l0pEn := true
    aspmL1 := true
    l12En := true
    memOn := true
    memWin := 0x10101010
    slot := slot1 }
def worldP : State :=
  { world with
    pages := [(3, page0), (512, page0)]
    elapsed := 100000000
    pcie := { world.pcie with
      ports := [(0, portUp), (1, port1), (2, { SwPort.new with slot := { slot1 with offAt := some 0 } })]
      reqs := [⟨7, 1, 3, 4, 9, 0x55, 0⟩, ⟨8, 0, 3, 5, 2 ^ 20, 0x56, 100000000⟩]
      invs := [(9, 0x55)]
      heldTags := [(6, 0)]
      atc := [⟨9, 0x55, 0x77, true⟩, ⟨10, 0x55, 0x78, true⟩]
      flr := some 0 } }
/-- Seventeen changes of the slot's presence within a second. -/
def worldShaky : State :=
  { worldP with pcie := { worldP.pcie with ports := [(0, portUp), (1, { port1 with slot := { slot1 with changes := List.replicate 16 99999999 } })] } }
def worldMute : State :=
  { worldP with pcie := { worldP.pcie with ports := [(0, portUp), (1, { port1 with slot := { slot1 with
      unstable := true
      reported := false
      pressed := true } })] } }

theorem witness_PcieRequests :
    (worldP.pcie.reqs.find? (fun r => r.tag == 7 && r.port == 1)).isSome = true ∧ worldP.pcie.reqs.find? (fun r => r.tag == 6 && r.port == 1) = none ∧
    (worldP.pcie.reqs.find? (fun r => r.tag == 7)).isSome = true ∧ 40000000 ≤ worldP.elapsed.toNat * 10 ∧
    worldP.elapsed.toNat * 10 < (100000000 : W64).toNat * 10 + 40000000 ∧ LogRoom worldP ∧
    (swPort worldP 0).up = true ∧ (swPort worldP 1).up = true ∧ (swPort worldP 2).up = false ∧ switchRoute worldP 0 0x10150000 = 1 ∧
    switchRoute worldP 0 0x20150000 = 0 ∧
    switchRoute { worldP with pcie := { worldP.pcie with ports := [(0, portUp), (1, { port1 with up := false })] } } 0 0x10150000 = 1 := by
  decide +kernel

theorem witness_PcieLinks :
    mayTrain worldP 1 = false ∧ mayTrain { worldP with pcie := { worldP.pcie with ports := [(0, portUp), (2, { SwPort.new with slot := slot1 })] } } 2 = true ∧
    (∀ l < 8, (0xFF00 : BitVec 16).getLsbD l = false) ∧ ¬ (∀ l < 16, (0xFF00 : BitVec 16).getLsbD l = false) ∧
    (swPort worldP 1).up = true ∧ (swPort worldP 1).aspmL1 = true ∧ (swPort worldP 1).l1 = 0 ∧ (swPort worldP 1).flit = true ∧
    2 ^ 3 ≤ (swPort worldP 1).width ∧ 2 ^ 3 ≠ (swPort worldP 1).active ∧ (swPort worldP 2).slot.offAt.isSome = true ∧ worldP.pwr.module = 0 ∧
    presence (swPort worldP 1).slot = true ∧ (swPort worldP 1).slot.unstable = false ∧ (swPort worldP 1).slot.pressed = false ∧
    (swPort worldMute 1).slot.unstable = true ∧ presence (swPort worldMute 1).slot ≠ (swPort worldMute 1).slot.reported ∧
    (swPort worldMute 1).slot.pressed = true ∧
    16 < ((swPort worldShaky 1).slot.changes.filter (fun c => decide (worldShaky.elapsed.toNat * 10 < c.toNat * 10 + 1000000000))).length + 1 ∧
    worldP.sec.sessions = [] ∧ worldP.sec.d2 = none ∧ worldP.pcie.flr.isSome = true ∧ worldP.ready = true := by decide +kernel

end Sys2Proof.Tests.Part43

namespace Sys2Proof.Tests.Part44

/-- An authorisation body of a level for a page's petal number, under a serial number, and petal 3 with a CMAC key in slot 7. -/
def authBody (level petal : Nat) (serial : W64) : Nat :=
  pack [(0, 0, 0x41443159), (4, 0, level), (4, 16, petal), (8, 0, serial.toNat), (0x10, 0, 2 ^ 255 + 3), (0x30, 0, 86400)]
def nonceD : DbgNonce := ⟨leBytes 32 (2 ^ 255 + 3), 90000000000⟩
def petalD : Petal := { petal3 with keySlots := [(7, ⟨3, 5, 0, 0, false⟩)], control := true }
def worldD : State :=
  { world with
    petals := [(3, petalD)]
    elapsed := 90000000000
    pages := [(3, { page0 with lastRenew := 90000000000 }), (512, { page0 with lastRenew := 90000000000 })]
    sec := { Sec.new with
      nonces := [(3, nonceD), (512, nonceD)] } }
def reqOpen (tag : Nat) : Mbx := req 3 0x70 [(0x10, 0, 7), (0x20, 0, authBody 1 3 5), (0x60, 0, tag)]
def tagD : Nat := leNat (cmac (keyBytes ⟨3, 5, 0, 0, false⟩ 32) (leBytes 64 (authBody 1 3 5)))
/-- The same module with a session of a level on a page. -/
def inSession (s : State) (g level : Nat) : State := { s with sec := { s.sec with sessions := [(g, ⟨level, 90000000000, 60⟩)] } }
def reqNib (mask : Nat) : Mbx := req 3 0x14 [(0x10, 0, 0), (0x10, 16, mask)]
def reqRead (file : Nat) : Mbx := req 3 0x20 [(0x14, 0, file), (0x14, 8, 7), (0x18, 0, 0x4000)]
def reqScratch : Mbx := req 3 0x28 [(0x10, 0, 1), (0x14, 0, 2 ^ 20 - 64), (0x18, 0, 64), (0x20, 0, 0x4000)]
def worldHalt : State := { inSession worldD 3 1 with nibs := [(0, { nib0 with halted := true })] }

theorem witness_DebugCommands_commands :
    Served cmdDbgChallenge (req 3 0x14 [(0x10, 0, 1)]) worldD ∧ look worldD.sec.nonces 3 = some nonceD ∧
    Served cmdDbgAuthLoad (req 512 0x24 [(0x10, 0, 3795), (0x10, 16, 1), (0x20, 0, 255)]) worldD ∧
    mf (req 512 0x24 [(0x10, 0, 3795), (0x10, 16, 1), (0x20, 0, 255)]) 0x21 0 (8 * 3) = 0 ∧
    Served cmdDbgAuthLoad (req 512 0x24 [(0x10, 0, 3796), (0x10, 16, 1), (0x20, 0, 255)]) worldD ∧
    Served cmdDbgOpen (reqOpen 1) worldD ∧ bodyLevel (leBytes 64 (mf (reqOpen 1) 0x20 0 512)) = 1 ∧
    liveNonce worldD 3 = some (bytesAt (leBytes 64 (mf (reqOpen 1) 0x20 0 512)) 0x10 32) ∧ rising worldD.sec.nonces = true ∧
    slotKey petalD (mf (reqOpen 1) 0x10 0 16) 3 = some ⟨3, 5, 0, 0, false⟩ ∧ bodyFormed (leBytes 64 0) 1 3 = false := by decide +kernel

theorem witness_DebugCommands_session :
    Served cmdDbgClose (req 3 0x10 []) (inSession worldD 3 1) ∧ Served cmdDbgClose (req 3 0x10 []) worldD ∧ Served cmdDbgQuery (req 3 0x10 []) worldD ∧
    Served cmdDbgNib (nibControl false (reqNib 1)) (inSession worldD 3 1) ∧ petalCore worldD 3 0 = some 0 ∧ (getNib worldD 0).st = .running ∧
    Served cmdDbgNib (nibControl true (reqNib 1)) worldHalt ∧
    Served cmdDbgNibRead (reqRead 2) worldHalt ∧ (regBytes worldHalt 0 2 7).isSome = true ∧ pdaInside petalD 0x4000 256 = true ∧
    keyPresent worldHalt 3 = true ∧ Served cmdDbgNibRead (reqRead 2) (inSession worldD 3 1) ∧ (getNib worldD 0).halted = false := by decide +kernel

def worldBare : State := { worldD with petals := [], pages := [(512, { page0 with lastRenew := 90000000000 })] }
theorem witness_DebugCommands_reads :
    Served cmdDbgScratchRead reqScratch (inSession worldD 3 1) ∧ (getCore worldD 1).launch = none ∧ (getCore worldD 0).launch ≠ none ∧
    Served cmdDbgFwRead (req 512 0x30 [(0x10, 0, 63), (0x20, 0, 64), (0x28, 0, 0x4000)]) (inSession worldD 512 3) ∧ controlPetal worldD = some 3 ∧
    Served cmdLifecycleRetire (req 512 0x14 [(0x10, 0, 0x49544552)]) worldD ∧
    Served cmdLifecycleRetire (req 512 0x14 [(0x10, 0, 0x49544552)]) worldBare ∧
    Served cmdDbgOperatorKeySet (req 512 0x40 [(0x20, 0, 2 ^ 256 - 1)]) worldD := by decide +kernel

theorem witness_DebugCommands_tag :
    Served cmdDbgOpen (reqOpen tagD) worldD ∧ mf (reqOpen tagD) 0x60 0 128 = tagD ∧ tagD < 2 ^ 128 := by decide +kernel

theorem witness_DebugCommands_body (h : Config.serial = 5) : bodyFormed (leBytes 64 (mf (reqOpen tagD) 0x20 0 512)) 1 3 = true := by
  simp only [bodyFormed, h]
  decide +kernel

/-- The authorisation buffer of a D2 or D3 request on the device page, whole. -/
def bufD (level : Nat) : List Byte := leBytes 64 (authBody level 0x1FF 5) ++ zeros 3732
def worldBuf (level : Nat) (l : Lifecycle) : State :=
  { worldD with sec := { Sec.new with
      lifecycle := l
      nonces := [(512, nonceD)]
      operatorKey := some (sha3 (zeros 1312))
      authBuf := storeBytes [] 0 (bufD level) } }
def reqFirm : Mbx := req 512 0x10 []

theorem leBytes_length (n x : Nat) : (leBytes n x).length = n := by
  induction n generalizing x with
  | zero => rfl
  | succ n ih => rw [leBytes, List.length_cons, ih]
theorem bufD_length (level : Nat) : (bufD level).length = 3796 := by
  rw [bufD, List.length_append, zeros, List.length_replicate, leBytes_length]
theorem worldBuf_authBuf (level : Nat) (l : Lifecycle) : (worldBuf level l).sec.authBuf = storeBytes [] 0 (bufD level) := by
  simp only [worldBuf]
theorem authBytes_bufD (s : State) (level : Nat) (h : s.sec.authBuf = storeBytes [] 0 (bufD level)) : authBytes s = bufD level := by
  rw [authBytes, h, ← bufD_length level]
  exact loadBytes_storeBytes _ _ _ _
theorem authLoaded_bufD (s : State) (level : Nat) (h : s.sec.authBuf = storeBytes [] 0 (bufD level)) : authLoaded s = true := by
  rw [authLoaded, List.all_eq_true]
  intro i hi
  have hl : i < (bufD level).length := by rw [bufD_length]; exact List.mem_range.mp hi
  have := look_storeBytes_inside [] 0 (bufD level) i hl
  rw [Nat.zero_add] at this
  rw [h, this, List.getElem?_eq_getElem hl]
  rfl

theorem witness_DebugCommands_firmware (hs : Config.serial = 5)
    (hv : Config.dsaVerify (zeros 1312) (sha3 (leBytes 64 (authBody 2 0x1FF 5))) (zeros 2420) = true) :
    let b := begun cmdDbgOpen reqFirm (worldBuf 2 .deployed)
    authRefusal b reqFirm 2 (bytesAt (authBytes b) 0 64) (authBytes b) = none := by
  have hb : (begun cmdDbgOpen reqFirm (worldBuf 2 .deployed)).sec = (worldBuf 2 .deployed).sec := begun_sec _ _ _ (by decide +kernel)
  have ha := authBytes_bufD (begun cmdDbgOpen reqFirm (worldBuf 2 .deployed)) 2 (by rw [hb, worldBuf_authBuf])
  have hl := authLoaded_bufD (begun cmdDbgOpen reqFirm (worldBuf 2 .deployed)) 2 (by rw [hb, worldBuf_authBuf])
  have h1 : bytesAt (bufD 2) 0 64 = leBytes 64 (authBody 2 0x1FF 5) := by decide +kernel
  have h2 : bytesAt (bufD 2) 0x9B4 1312 = zeros 1312 := by decide +kernel
  have h3 : bytesAt (bufD 2) 0x40 2420 = zeros 2420 := by decide +kernel
  have h4 : bodyFormed (leBytes 64 (authBody 2 0x1FF 5)) 2 0x1FF = true := by
    simp only [bodyFormed, hs]
    decide +kernel
  have h5 : liveNonce (begun cmdDbgOpen reqFirm (worldBuf 2 .deployed)) 512 = some (bytesAt (leBytes 64 (authBody 2 0x1FF 5)) 0x10 32) := by
    decide +kernel
  have h6 : (begun cmdDbgOpen reqFirm (worldBuf 2 .deployed)).sec.operatorKey = some (sha3 (zeros 1312)) := by rw [hb]; rfl
  have hp : reqFirm.page.val = 512 := rfl
  dsimp only
  rw [ha, authRefusal]
  simp only [hp, devPage, true_and, reduceIte, hl, h1, h4, h5, keyRefusal, h2, h3, h6, hv]
  simp

theorem witness_DebugCommands_served :
    Served cmdDbgOpen reqFirm (worldBuf 2 .deployed) ∧ Served cmdDbgOpen reqFirm (worldBuf 3 .retired) ∧
    mf reqFirm 0x10 0 (8 * (reqFirm.length.toNat - 16)) = 0 := by decide +kernel
theorem witness_DebugCommands_level :
    bodyLevel (leBytes 64 (authBody 2 0x1FF 5)) = 2 ∧ bodyLevel (leBytes 64 (authBody 3 0x1FF 5)) = 3 := by decide +kernel

end Sys2Proof.Tests.Part44

namespace Sys2Proof.Tests.Part45

open Sys2Proof.Tests.Part40

/-- The module in service with a sideband update under way, and one in recovery. -/
def worldSide : State := { world with ink := { world.ink with update := some ⟨true, some image2⟩ } }
def worldRecovery : State := { world with board := { world.board with stage := .recovery } }
def worldD3 : State := { world with sec := { world.sec with sessions := [(512, ⟨3, 0, 60⟩)] } }

theorem witness_SideCommands :
    world.pwr.module = 0 ∧ inkUp world = true ∧ inkFirmware world = true ∧ world.ink.restarting = none ∧ world.ink.update = none ∧
    (numericSensor world 0x400).isSome = true ∧ numericSensor world 0x403 = none ∧
    worldSide.ink.flashFails = false ∧ sideUpdating world = false ∧ worldRecovery.board.stage = .recovery ∧ inkUp State.reset = false ∧
    (imageFail world []).isSome = true ∧ world.sec.lifecycle ≠ .manufacture ∧ deviceLevel world ≠ 3 ∧ deviceLevel worldD3 = 3 ∧
    world.jtag.selected = .idcode := by decide +kernel

theorem witness_SideCommands_image (h : Config.dsaVerify Config.firmwareKey (bytesAt image2 0x40 32) (bytesAt image2 0x60 2420) = true) :
    imageFail world image2 = none := by
  have hv : ¬ imageVersion image2 < world.sec.rollback := by decide +kernel
  rw [imageFail, image2_formed, image2_signed h, if_neg (by decide), if_neg (by decide), if_neg hv]

theorem witness_SideCommands_update : worldSide.ink.update = some ⟨true, some image2⟩ := by simp only [worldSide]

end Sys2Proof.Tests.Part45

namespace Sys2Proof.Tests.Part46

/-- A command of the device page that may answer PENDING, one of a petal's own page, and one that names a petal. -/
def cmdDev : Cmd := ⟨1, .device, true, 16, false, [], fun _ => none⟩
def cmdOwn : Cmd := ⟨1, .own, false, 20, true, [(0x10, 0, 9)], fun _ => none⟩

def worldPage (pg : MPage) : State := { world with pages := [(3, pg), (512, pg)] }

theorem witness_StepRunsQueue :
    ({ world with pending := [.flrComplete, .getEndpointId] } : State).pending = [.flrComplete, .getEndpointId] ∧ world.pending = [] ∧
    world.board.stage ≠ .off ∧ world.pwr.module ≠ 4 ∧ State.reset.pending = [] ∧ State.reset.board.stage = .off := by
  decide +kernel

theorem witness_StepRunsQueue_registers :
    (∀ o ∈ [4, 0x1014, 0x2040, 0x10001, 0x18000], NoHubRegister o) ∧ ∀ o ∈ [0, 0x1000, 0x2010, 0x10000, 0x17FFC], ¬NoHubRegister o := by
  decide +kernel

theorem witness_MemoryStaysCanonical : Canonical worldL ∧ worldL.mem ≠ [] ∧ Canonical State.reset := by decide +kernel

theorem witness_MemoryStaysCanonical_step : ∃ t, step { worldL with pending := [.launchAccept 3 1] } = .next t := ⟨_, rfl⟩

theorem witness_MailboxProtocol_page :
    pageAnswers world 5 = false ∧ pageAnswers world 3 = true ∧ (getPage (begun cmdDev (req 3 16 []) world) 3).busy = false ∧
    (getPage (begun cmdDev (req 3 16 []) (worldPage { page0 with busy := true })) 3).busy = true ∧
    (getPage (begun cmdDev (req 3 16 []) (worldPage MPage.new)) 3).session = 0 ∧
    (getPage (begun cmdDev (req 3 16 []) (worldPage { page0 with session := 3 })) 3).session = 3 ∧
    (getPage (begun cmdDev (req 3 16 []) (worldPage { page0 with session := 2 })) 3).session = 2 := by
  decide +kernel

theorem witness_MailboxProtocol_checks :
    (getPage (begun cmdDev (req 3 16 []) world) 3).session = 1 ∧ (begun cmdDev (req 3 16 []) world).board.stage ≠ .recovery ∧
    (req 3 18 []).length.toNat % 4 ≠ 0 ∧ (cmdDev.pages = .device ∧ (req 3 16 []).page.val ≠ 512) ∧
    (cmdOwn.pages = .own ∧ (req 512 20 []).page.val = 512) ∧
    (cmdOwn.petalAt = true ∧ mf (req 3 20 [(0x10, 0, 4)]) 0x10 0 9 ≠ 3) ∧ mf (req 3 20 [(0x10, 0, 3)]) 0x10 0 9 = 3 := by
  decide +kernel

/-- A page with every late slot reserved, the last under tag 1. -/
def pageFull : MPage :=
  { page0 with pends := (List.range 16).map (fun k => ⟨k, 16 - k, false, 1, 16, 0, none, .again, none⟩) }

theorem witness_MailboxProtocol_tags :
    getPetal (begun cmdOwn (req 3 20 []) world) 3 = some petal3 ∧ recTags petal3.record ≤ 64 ∧ 1 < recTags petal3.record ∧
    tagHeld petal3 1 = false ∧ tagHeld { petal3 with tags := [(1, .mailbox)] } 1 = true ∧
    (∃ q ∈ (getPage (begun cmdDev (req 512 16 []) (worldPage pageFull)) 512).pends, q.tag = (req 512 16 []).tag.toNat) ∧
    (∀ q ∈ (getPage (begun cmdDev (req 512 16 []) world) 512).pends, q.tag ≠ 1) := by
  decide +kernel

theorem witness_MailboxProtocol_slots :
    (freeSlots pageFull = [] ∧ cmdDev.canPend = true ∧ ∀ q ∈ pageFull.pends, q.tag ≠ 17) ∧ freeSlots page0 ≠ [] ∧
    reservedClear cmdDev { req 512 16 [] with hdrRsv := 1 } = false ∧ reservedClear cmdOwn (req 3 20 [(0x10, 9, 1)]) = false ∧
    (replyErr 0x04 0x93).status < 2 ^ 8 ∧ (replyErr 0x04 0x93).detail < 2 ^ 24 ∧ (replyData 7 4).bytes ≤ 240 := by
  decide +kernel

theorem witness_SyllableRoundTrip :
    sylOk (.vadd (.shortI ⟨1, 2⟩)) = true ∧ sylOk (.vmin (.shortF ⟨1, 2⟩)) = false ∧ decodeSyl 0x00C2 = none ∧
    decodeSyl 0x0F800008 = none ∧ decodeSyl 0x012 = some (.vadd (.shortF ⟨0, 0⟩)) := by
  decide +kernel

theorem witness_RegisterZero :
    (∀ o ∈ aluRows, Issues world 0 (o.syl (.long ⟨0, 5, 5⟩)) ∧ Issues world 0 (o.syl (.short ⟨0, 5⟩))) ∧
    (∀ o ∈ immRows, Issues world 0 (o.syl ⟨0, 5, 9⟩)) ∧
    (∀ o ∈ loadRows, Issues world 0 (o.syl ⟨0, 5, 0⟩) ∧ accessOk (addrLI (readyNib world 0) ⟨0, 5, 0⟩ o.val.1) o.val.1 ∧
      cleanAccess world 0 0x2000 o.val.1) := by
  unfold accessOk cleanAccess
  decide +kernel

/-- The module with petal 3's line 0x4000 poisoned. -/
def worldPoison : State := { world with poison := [(memKey 3 0x100000 / 64, true)] }

theorem witness_PetalMemory :
    keyPresent world 3 = true ∧ world.unitFailed = [] ∧
    (∀ l ∈ pdaLines 0x10003F 66, look world.poison (memKey 3 (64 * l) / 64) ≠ some true) ∧
    look worldPoison.poison (memKey 3 (64 * 0x4000) / 64) = some true ∧ keyPresent worldPoison 3 = true ∧ rising worldPoison.poison = true ∧
    keyPresent world 5 = false ∧ keyPresent { world with petals := [(3, { petal3 with xts := none })] } 3 = false := by
  decide +kernel

end Sys2Proof.Tests.Part46

namespace Sys2Proof.Tests.Part47

def worldDbg3 : State := { world with sec := { world.sec with sessions := [(512, ⟨3, 0, 60⟩)] } }
def worldMade : State := { world with sec := { world.sec with lifecycle := .manufacture } }

theorem witness_SideCommands_jtag :
    worldMade.sec.lifecycle = .manufacture ∧ deviceLevel worldDbg3 = 3 ∧ world.sec.lifecycle ≠ .manufacture ∧ deviceLevel world ≠ 3 ∧
    world.jtag.selected = .idcode ∧ ({ world with jtag := ⟨.bypass, .bypass, .untouched⟩ } : State).jtag.selected = .bypass ∧
    (let s : State := { world with elapsed := 2000000, board := { world.board with resetAt := some 5 } }
     s.board.resetAt = some 5 ∧ (5 : W64).toNat * 10 + 10000000 ≤ s.elapsed.toNat * 10) := by
  decide +kernel

end Sys2Proof.Tests.Part47

end
end

/-!
SUPPORT. R28: g0 reads as zero and discards writes. A syllable whose one result goes to a g register lands that result and moves past
itself; a result for g0 lands nowhere.
-/

namespace Sys2Proof.Machine

open Sys2Proof.Claims

/-! ### Landing -/

@[simp] theorem gGet_zero (f : Vector W32 32) : gGet f 0 = 0 := rfl

@[simp] theorem landOne_g_zero (x : Nib) (v : W32) : landOne x (.g 0 v) = x := rfl

@[simp] theorem landOne_st (x : Nib) (l : Land) : (landOne x l).st = x.st := by
  cases l <;> simp only [landOne]
  case g r v => split <;> rfl
  case cr o v => unfold writeCr; split <;> rfl

@[simp] theorem landDue_st (x : Nib) : (landDue x).st = x.st := by
  unfold landDue
  generalize x.flight.filter (fun f => f.due ≤ x.bundles) = l
  suffices h : ∀ y : Nib, (l.foldl (fun a f => landOne a f.land) y).st = y.st from h x
  induction l with
  | nil => exact fun _ => rfl
  | cons f l ih => exact fun y => (ih _).trans (landOne_st y f.land)

@[simp] theorem landAt_st (x : Nib) (d : Nat) (l : Land) : (landAt x d l).st = x.st := by
  unfold landAt; split <;> simp

/-- A result for g0 leaves the g file, in native mode where it lands at once and in compatibility mode where it is in flight. -/
@[simp] theorem landAt_g_zero (x : Nib) (d : Nat) (v : W32) : (landAt x d (.g 0 v)).g = x.g := by
  unfold landAt; split <;> simp

@[simp] theorem landAt_streams (x : Nib) (d : Nat) (l : Land) : (landAt x d l).streams = x.streams := by
  have hk := (landOne_keeps x l).2.2.2.2.1
  unfold landAt; split <;> simp [hk]

/-! ### The bundle of one syllable with one result in a g register -/

/-- The Nib after a bundle whose only effect is a result for g[d]. -/
theorem afterBundle_g (s : State) (n : Nat) (x : Syl) (d : Nat) (v : W32) (k : Nat) :
    afterBundle (loneCtx s n x) [.g d v k] = issued (readyNib s n) (landAt (readyNib s n) k (.g d v)) (pcPast s n x) := by
  have hu : undoOf (getCore s (n / 4)) [.g d v k] = [] := foldl_undo_own _ _ rfl
  simp [afterBundle, issued, seedFirst, effNib, hu, loneCtx, bundleCtx, readyNib, pcPast]

/-- R89 to R92: the bundle of one syllable whose only effect is a result for g[d] lands it by its class and moves past itself. -/
theorem issue_g (s : State) (n : NibId) (x : Syl) (d : Nat) (v : W32) (k : Nat) (h : Issues s n.val x)
    (he : evalSyl (loneCtx s n.val x) x = .ok [.g d v k]) (hd : sylDests x = [.g d]) :
    getNib (issueSyl n true x s) n.val = issued (readyNib s n.val) (landAt (readyNib s n.val) k (.g d v)) (pcPast s n.val x) ∧
      OnlyNib s (issueSyl n true x s) n.val := by
  have ho := issue_own s n x [.g d v k] h he (by rw [hd]; rfl) rfl rfl
  rwa [afterBundle_g] at ho

/-- R28: a command that issues one syllable whose only effect is a result for g0 leaves the g file as the bundle read it, and the Nib
runs on. -/
theorem exec_g_zero {s : State} {n : NibId} {i : Instr} {x : Syl} {d : Nat} {v : W32} {k : Nat}
    (hx : exec i s = .next (issueSyl n true x s)) (h : Issues s n.val x) (he : evalSyl (loneCtx s n.val x) x = .ok [.g d v k])
    (hd : sylDests x = [.g d]) (h0 : d = 0) :
    ∃ t, exec i s = .next t ∧ (getNib t n.val).g = (readyNib s n.val).g ∧ (getNib t n.val).st = .running := by
  subst h0
  have hrun : (getNib s n.val).st = .running := h.1
  refine ⟨_, hx, ?_⟩
  rw [(issue_g s n x 0 v k h he hd).1]
  simp [issued, readyNib, hrun]

/-! ### Sign extension and effective addresses -/

theorem sInt_eq_toInt (w x : Nat) : sInt w x = (BitVec.ofNat w x).toInt := by
  rw [BitVec.toInt_eq_toNat_cond, BitVec.toNat_ofNat, sInt]
  cases w with
  | zero => simp [Nat.mod_one]
  | succ w =>
    have hp : 2 ^ (w + 1) = 2 * 2 ^ w := Nat.pow_succ'
    rw [Nat.add_sub_cancel]
    split <;> split <;> omega

theorem sext32_eq_signExtend (w x : Nat) : sext32 w x = (BitVec.ofNat w x).signExtend 32 := by
  have hlt : ((BitVec.ofNat w x).toInt % (2 ^ 32 : Nat)).toNat < 2 ^ 32 := by omega
  apply BitVec.eq_of_toNat_eq
  rw [sext32, wrapN, sInt_eq_toInt, BitVec.toNat_ofNat, Nat.mod_eq_of_lt hlt, BitVec.signExtend, BitVec.toNat_ofInt]

/-- R118: the effective address of a long form is that of the registers that the bundle reads. -/
theorem eaLI_loneCtx (s : State) (n : Nat) (x : Syl) (f : LI) (k : Nat) :
    (eaLI (loneCtx s n x) f k).toNat = addrLI (readyNib s n) f k := by
  rw [eaLI, sext32_eq_signExtend, BitVec.ofNat_toNat, BitVec.setWidth_eq]
  rfl

/-- R37: an access inside scratch and aligned passes the checks. -/
theorem checkAccess_ok (ea : W32) (n : Nat) (h : accessOk ea.toNat n) : checkAccess ea n = none := by
  obtain ⟨hb, ha⟩ := h
  unfold checkAccess
  rw [if_neg (fun hne => hne (Nat.div_eq_of_lt hb)), if_neg (fun hne => hne ha)]

/-- R37, R43: a load in range, aligned and from words without errors delivers what its bytes spell, and nothing else. -/
theorem loadG_clean (s : State) (n : Nat) (x : Syl) (f : LI) (k d : Nat) (ext : Nat → W32)
    (ha : accessOk (addrLI (readyNib s n) f k) k) (hc : cleanAccess s n (addrLI (readyNib s n) f k) k) :
    loadG (loneCtx s n x) d (eaLI (loneCtx s n x) f k) k ext =
      .ok [.g d (ext (leNat (scratchRead (getCore s (n / 4)) (addrLI (readyNib s n) f k) k))) 3] := by
  have hcore : (loneCtx s n x).core = getCore s (n / 4) := rfl
  rw [← eaLI_loneCtx s n x] at ha hc ⊢
  unfold cleanAccess at hc
  simp [loadG, loadScratch, checkAccess_ok _ _ ha, hcore, hc, hasUncorrectable, countSingle]

/-! ### The rows of the tables -/

/-- R115: what each row of S-ALU syllables issues, evaluates to and writes. -/
theorem aluRows_issue : ∀ o ∈ aluRows, ∀ (s : State) (n : NibId) (f : AluForm),
    exec (o.ins n true f) s = .next (issueSyl n true (o.syl f) s) ∧ (∀ c, evalSyl c (o.syl f) = aluOp c f o.val) ∧
      sylDests (o.syl f) = [.g (aluRegs f).1] := by
  have hd : ∀ f, aluDest f = (aluRegs f).1 := fun f => by cases f <;> rfl
  simp only [aluRows, List.forall_mem_cons, ← hd]
  refine ⟨?_, ?_, ?_, ?_, ?_, ?_, ?_, ?_, ?_, ?_, by simp⟩ <;> exact fun s n f => ⟨rfl, fun c => rfl, rfl⟩

/-- R114, R115: an S-ALU operation has the one effect of its value in its destination. -/
theorem aluOp_eq (c : Ctx) (f : AluForm) (op : W32 → W32 → W32) :
    aluOp c f op = .ok [.g (aluRegs f).1 (op (gGet c.nib.g (aluRegs f).2.1) (gGet c.nib.g (aluRegs f).2.2)) 1] := by
  cases f <;> rfl

theorem slt_sext32 (a : W32) (i : BitVec 14) : a.slt (sext32 14 i.toNat) = decide (a.toInt < i.toInt) := by
  rw [sext32_eq_signExtend, BitVec.ofNat_toNat, BitVec.setWidth_eq, BitVec.slt, BitVec.toInt_signExtend_of_le (by decide)]

/-- R116: what each row of immediate syllables issues, evaluates to and writes. -/
theorem immRows_issue : ∀ o ∈ immRows, ∀ (s : State) (n : NibId) (f : LI),
    exec (o.ins n true f) s = .next (issueSyl n true (o.syl f) s) ∧
      (∀ c, evalSyl c (o.syl f) = .ok [.g f.d.toNat (o.val (rdG c f.a) f.imm) 1]) ∧ sylDests (o.syl f) = [.g f.d.toNat] := by
  have hs : ∀ c f, semSlti c f = .ok [.g f.d.toNat (wordIf (decide ((rdG c f.a).toInt < f.imm.toInt))) 1] := by
    intro c f
    rw [semSlti, immOp, slt_sext32]
    rfl
  simp only [immRows, List.forall_mem_cons]
  refine ⟨?_, ?_, ?_, fun s n f => ⟨rfl, fun c => hs c f, rfl⟩, by simp⟩ <;> exact fun s n f => ⟨rfl, fun c => rfl, rfl⟩

/-- R119: what each row of loads issues, evaluates to and writes. -/
theorem loadRows_issue : ∀ o ∈ loadRows, ∀ (s : State) (n : NibId) (f : LI),
    exec (o.ins n true f) s = .next (issueSyl n true (o.syl f) s) ∧
      (∀ c, evalSyl c (o.syl f) = loadG c f.d.toNat (eaLI c f o.val.1) o.val.1 o.val.2) ∧ sylDests (o.syl f) = [.g f.d.toNat] := by
  have h8 : (fun x => (BitVec.ofNat 8 x).signExtend 32) = sext32 8 := funext fun x => (sext32_eq_signExtend 8 x).symm
  have h16 : (fun x => (BitVec.ofNat 16 x).signExtend 32) = sext32 16 := funext fun x => (sext32_eq_signExtend 16 x).symm
  simp only [loadRows, List.forall_mem_cons, h8, h16]
  refine ⟨?_, ?_, ?_, ?_, by simp⟩ <;> exact fun s n f => ⟨rfl, fun c => rfl, rfl⟩

/-- Settles O59: the one effect of each syllable of the tables is a result for its destination, and a result for g0 lands nowhere. -/
theorem registerZero : Obligations.RegisterZero := by
  refine ⟨gGet_zero, landOne_g_zero, ?alu, ?imm, ?load⟩
  case alu =>
    intro o ho s n f h h0
    obtain ⟨hx, he, hd⟩ := aluRows_issue o ho s n f
    exact exec_g_zero hx h ((he _).trans (aluOp_eq _ f _)) hd h0
  case imm =>
    intro o ho s n f h h0
    obtain ⟨hx, he, hd⟩ := immRows_issue o ho s n f
    exact exec_g_zero hx h (he _) hd (congrArg BitVec.toNat h0)
  case load =>
    intro o ho s n f h h0 ha hc
    obtain ⟨hx, he, hd⟩ := loadRows_issue o ho s n f
    exact exec_g_zero hx h ((he _).trans (loadG_clean s n.val _ f _ _ _ ha hc)) hd (congrArg BitVec.toNat h0)

end Sys2Proof.Machine

/-!
SUPPORT. R456: what KEY_QUERY answers about a petal whose page names it, for a count in range.
-/

namespace Sys2Proof.Machine

open Sys2Proof.Claims

/-- The kind of a slot, with the slots that the petal has as the first case. -/
theorem slotKind_eq (x : Petal) (k : Nat) :
    slotKind x k = if k < recKeySlots x.record then ((look x.keySlots k).map (·.kind)).getD 0 else 0xFF := by
  unfold slotKind
  by_cases h : k < recKeySlots x.record
  · rw [if_pos h, if_neg (Nat.not_le.mpr h)]
  · rw [if_neg h, if_pos (Nat.le_of_not_lt h)]

/-- R456: for a count from 1 to 64, KEY_QUERY changes nothing and answers the key bit and the kinds of the slots it names. -/
theorem bodyKeyQuery_inRange (m : Mbx) (b : State) (x : Petal) (hx : getPetal b m.page.val = some x)
    (h1 : 1 ≤ mf m 0x14 0 7) (h64 : mf m 0x14 0 7 ≤ 64) :
    bodyKeyQuery m b = (b, .reply (replyData
      (b2n x.xts.isSome + ofElems 8 ((List.range (mf m 0x14 0 7)).map (fun i => slotKind x (mf m 0x10 0 16 + i))) * 2 ^ 64)
      (alignUp (8 + mf m 0x14 0 7) 4))) := by
  have hcount : ¬ (mf m 0x14 0 7 = 0 ∨ 64 < mf m 0x14 0 7) := by omega
  unfold bodyKeyQuery
  simp only [hx, if_neg hcount]

/-- Settles O28: a served KEY_QUERY answers what its meaning answers in the state it began in. -/
theorem keyQuery : Obligations.KeyQuery := by
  intro s m x hs b n hx h1 h64
  have hrun : exec (.keyQuery m) s = .next (mailbox cmdKeyQuery bodyKeyQuery m s) := rfl
  rw [Answers, hrun, mailbox_reply _ _ _ _ _ _ hs (bodyKeyQuery_inRange m b x hx h1 h64)]
  simp only [slotKind_eq]
  rfl

end Sys2Proof.Machine
